-- ==== Sys2Proof/Word.lean ====
section
/-! DEFINITION. The plain types of the HC-42 model: bytes, bus words and the index types of its fixed collections. -/

namespace Sys2Proof

/-- One byte, as the client ports and the management link carry it; one stored soft value in two's complement. -/
abbrev Byte := BitVec 8

/-- One 64-bit beat of a client port (spec/00_scope.md Table 0-2). -/
abbrev Word64 := BitVec 64

/-- The eight byte-lane enables of one beat, lane 0 in bit 0. -/
abbrev Lanes := BitVec 8

/-- A client port, 0 to 3. -/
abbrev PortId := Fin 4

/-- A context entry, 0 to 255 (spec/01 R1). -/
abbrev Entry := Fin 256

/-- A physical page, 0 to 2111 (spec/02 R31). -/
abbrev Page := Fin 2112

/-- An output slot of a port, 0 to 3 (spec/08 R164). -/
abbrev SlotId := Fin 4

/-- A client's name for a block, 0 to 4095 (spec/01 Table 1-1). -/
abbrev Tag := BitVec 12

/-- A client's name for a descriptor, echoed in its answer (spec/11 Table 11-2). -/
abbrev Cookie := BitVec 32

/-- A value of the hold clock (spec/06 R115). -/
abbrev Ticks := BitVec 32

/-- The two decode units (spec/05 R90). -/
inductive UnitId where
  | du0
  | du1
deriving DecidableEq, Repr

/-- The two staging buffers of a port (spec/07 R133). -/
inductive BufId where
  | s0
  | s1
deriving DecidableEq, Repr

end Sys2Proof
end

