-- ==== Sys2Proof/Config.lean ====
section
/-! DEFINITION. The sizes the HC-42 fixes (spec/00_scope.md Table 0-4) and the offsets of the client port window (spec/11 Table 11-1). The spec leaves no result undefined, so there is no free value here. -/

namespace Sys2Proof.Config

/-- Soft values in one page (spec/02, opening). -/
def pageValues : Nat := 512

/-- Physical pages (spec/02 R31). -/
def physicalPages : Nat := 2112

/-- Pages in service after power-on (spec/02 R33). -/
def servicePages : Nat := 2048

/-- Descriptors a submission queue holds (spec/07 R132). -/
def queueDepth : Nat := 32

/-- Soft values a staging buffer holds (spec/07 R133). -/
def bufferValues : Nat := 24592

/-- Records and reservations an answer queue holds together (spec/08 R152). -/
def answerEntries : Nat := 64

/-- Bytes of an output slot (spec/08 R164). -/
def slotBytes : Nat := 1024

/-- Entries of the Geometry Table (spec/01 R28). -/
def geometryEntries : Nat := 128

/-- Bytes of the reply register: the longest reply of spec/11 Table 11-9 (log entry 19). -/
def replyBytes : Nat := 134

/-- Largest K that one decode unit takes alone (spec/04 R78). -/
def singleUnitK : Nat := 4096

/-- What a store cell that nothing has written reads as: DESIGN CHOICE (log entry 1), the spec gives no power-on contents. -/
def storeDefault : Byte := 0

/-- Port window offsets (spec/11 Table 11-1). -/
def offSubmit : Nat := 0x0000
def offSoftData : Nat := 0x0008
def offAnswer : Nat := 0x0010
def offReturnSlot : Nat := 0x0020
def offStatus : Nat := 0x0028
def offSelfReset : Nat := 0x0030
/-- First offset of the slot window and the first offset after it (spec/08 R166). -/
def offSlots : Nat := 0x4000
def offSlotsEnd : Nat := 0x5000

end Sys2Proof.Config
end

