-- ==== Sys2Proof/Syntax.lean ====
section
/-! DEFINITION. The commands of the HC-42: one constructor per row of spec/opcode_table.json, with the row's operands. -/

namespace Sys2Proof

/-- A write burst at a client port, as far as spec/07 R128 looks at it: how many beats it has, and the byte lanes and the data of its first beat. -/
structure WriteBurst where
  beats : Nat
  lanes : Lanes
  data  : Word64
deriving DecidableEq, Repr

/-- One beat of a read burst: the address it reaches in the port window and the byte lanes it enables (log entry 7). -/
structure ReadBeat where
  addr  : BitVec 16
  lanes : Lanes
deriving DecidableEq, Repr

/-- An access that is neither a write to a write-side register nor a read that begins at ANSWER or STATUS: a write burst by its first address, or a read burst by its beats. The read form also carries the reads of the slot window, for which the table has no row (log entry 9). -/
inductive OtherAccess where
  | write (addr : BitVec 16) (burst : WriteBurst)
  | read (beats : List ReadBeat)
deriving DecidableEq, Repr

/-- What a management frame holds after its command code: the complete bytes, and the bits after the last complete byte, which are discarded (spec/10 R186). -/
structure Frame where
  args  : List Byte
  spare : List Bool
deriving DecidableEq, Repr

/-- One constructor per row of spec/opcode_table.json. -/
inductive Instr where
  /-- SUBMIT (spec/07 R130). -/
  | submit (p : PortId) (w : WriteBurst)
  /-- SOFT_DATA (spec/07 R134). -/
  | softData (p : PortId) (w : WriteBurst)
  /-- RETURN_SLOT (spec/08 R167). -/
  | returnSlot (p : PortId) (w : WriteBurst)
  /-- SELF_RESET (spec/07 R146). -/
  | selfReset (p : PortId) (w : WriteBurst)
  /-- ANSWER: a read whose first address is ANSWER, given by the lanes of each beat (spec/08 R160, R161). -/
  | answer (p : PortId) (beats : List Lanes)
  /-- STATUS: a read whose first address is STATUS, with its later beats (spec/07 R149, spec/11 R203). -/
  | status (p : PortId) (lanes : Lanes) (later : List ReadBeat)
  /-- UNMAPPED_WRITE: every other access (spec/11 R203, spec/08 R166). -/
  | unmappedWrite (p : PortId) (a : OtherAccess)
  /-- INTAKE_TRY (spec/07 R137). -/
  | intakeTry (p : PortId)
  /-- COMBINE_SELECTION (spec/03 R54). -/
  | combineSelection
  /-- CLEAR_PAGE_END (spec/03 R61). -/
  | clearPageEnd
  /-- COMBINE_PAGE_READ_END, with the outcome of the page's check (spec/03 R64, log entry 3). -/
  | combinePageReadEnd (passed : Bool)
  /-- VISIT_WRITE_END (spec/03 R64). -/
  | visitWriteEnd
  /-- COMBINE_COMPLETION (spec/03 R67). -/
  | combineCompletion
  /-- COMBINE_DAMAGE (spec/03 R69). -/
  | combineDamage
  /-- COMBINE_ABORT (spec/03 R71). -/
  | combineAbort
  /-- DISPATCH (spec/04 R81). -/
  | dispatch
  /-- DECODE_PAGE_READ_END of one unit, with the outcome of the page's check (spec/05 R97, log entry 3). -/
  | decodePageReadEnd (u : UnitId) (passed : Bool)
  /-- HALF_ITERATION_END of the decode on a unit (spec/05 R94). -/
  | halfIterationEnd (u : UnitId)
  /-- ITERATION_END of the decode on a unit (spec/05 R102). -/
  | iterationEnd (u : UnitId)
  /-- DECODE_DAMAGE of the decode on a unit (spec/05 R112). -/
  | decodeDamage (u : UnitId)
  /-- TICK (spec/06 R116). -/
  | tick
  /-- EXPIRY_HELD (spec/06 R123). -/
  | expiryHeld
  /-- EXPIRY_TOMBSTONE (spec/06 R124). -/
  | expiryTombstone
  /-- STATUS_READ (spec/10 R191). -/
  | statusRead (f : Frame)
  /-- PROFILE_WRITE (spec/09 R170). -/
  | profileWrite (f : Frame)
  /-- PROFILE_READ (spec/09 R171). -/
  | profileRead (f : Frame)
  /-- GEOMETRY_WRITE (spec/01 R29). -/
  | geometryWrite (f : Frame)
  /-- GEOMETRY_READ (spec/10 R192). -/
  | geometryRead (f : Frame)
  /-- GEOMETRY_DELETE (spec/01 R30). -/
  | geometryDelete (f : Frame)
  /-- PORT_ENABLE (spec/09 R174). -/
  | portEnable (f : Frame)
  /-- PORT_DISABLE (spec/09 R175). -/
  | portDisable (f : Frame)
  /-- PORT_RESET (spec/09 R180, R181). -/
  | portReset (f : Frame)
  /-- DEVICE_RESET (spec/10 R193). -/
  | deviceReset (f : Frame)
  /-- TIMEBASE_WRITE (spec/06 R117). -/
  | timebaseWrite (f : Frame)
  /-- POOL_READ (spec/02 R49). -/
  | poolRead (f : Frame)
  /-- CONTEXT_READ (spec/10 R194). -/
  | contextRead (f : Frame)
  /-- COUNTERS_READ (spec/10 R198). -/
  | countersRead (f : Frame)
  /-- COUNTERS_CLEAR (spec/10 R199). -/
  | countersClear (f : Frame)
  /-- CLOCK_READ (spec/10 R195). -/
  | clockRead (f : Frame)
  /-- FRAME_REFUSED: a frame with no complete byte (code absent), or whose code names no command (spec/10 R188). -/
  | frameRefused (code : Option Byte) (f : Frame)
  /-- POWER_ON_RESET (spec/10 R201). -/
  | powerOnReset
deriving DecidableEq, Repr

end Sys2Proof
end

