-- ==== Sys2Proof/Decode.lean ====
section
/-! DEFINITION. How the outside spells commands. No row of spec/opcode_table.json has bits, so decodeTableWord reads none; beside it stand the two doors the spec itself gives: the bits of a management frame (spec/10 R186, R188) and the accesses of a client port window (spec/07 R128, spec/11 R203), each with its encoder. -/

namespace Sys2Proof

/-- No row of spec/opcode_table.json gives bits, so no word spells a command. -/
def decodeTableWord (_nbits _w : Nat) : Option Instr := none

/-! ### Management frames -/

/-- The bits of a byte, most significant first, as SPI shifts them (spec/10 R186). -/
def byteBits (b : Byte) : List Bool :=
  [b.getLsbD 7, b.getLsbD 6, b.getLsbD 5, b.getLsbD 4, b.getLsbD 3, b.getLsbD 2, b.getLsbD 1, b.getLsbD 0]

/-- A byte from its bits, most significant first. -/
def byteOfBits (b7 b6 b5 b4 b3 b2 b1 b0 : Bool) : Byte :=
  BitVec.ofNat 8 (128 * b7.toNat + 64 * b6.toNat + 32 * b5.toNat + 16 * b4.toNat + 8 * b3.toNat + 4 * b2.toNat + 2 * b1.toNat + b0.toNat)

/-- The frame decoder's gathering: eight bits to a byte, and what is left over at the rise of SEL_N (spec/10 R186). -/
def gatherBits : List Bool → Frame
  | b7 :: b6 :: b5 :: b4 :: b3 :: b2 :: b1 :: b0 :: rest =>
    ⟨byteOfBits b7 b6 b5 b4 b3 b2 b1 b0 :: (gatherBits rest).args, (gatherBits rest).spare⟩
  | spare => ⟨[], spare⟩

/-- The command a code names (spec/11 Table 11-9). -/
def commandOfCode (c : Byte) (f : Frame) : Option Instr :=
  if c = 0x01 then some (.statusRead f)
  else if c = 0x02 then some (.profileWrite f)
  else if c = 0x03 then some (.profileRead f)
  else if c = 0x04 then some (.geometryWrite f)
  else if c = 0x05 then some (.geometryRead f)
  else if c = 0x06 then some (.geometryDelete f)
  else if c = 0x08 then some (.portEnable f)
  else if c = 0x09 then some (.portDisable f)
  else if c = 0x0A then some (.portReset f)
  else if c = 0x0F then some (.deviceReset f)
  else if c = 0x10 then some (.timebaseWrite f)
  else if c = 0x11 then some (.poolRead f)
  else if c = 0x12 then some (.contextRead f)
  else if c = 0x13 then some (.countersRead f)
  else if c = 0x14 then some (.countersClear f)
  else if c = 0x15 then some (.clockRead f)
  else none

/-- The command that the bits sampled between a fall and a rise of SEL_N spell (spec/10 R186, R188). -/
def frameCommand (bits : List Bool) : Instr :=
  match (gatherBits bits).args with
  | [] => .frameRefused none ⟨[], (gatherBits bits).spare⟩
  | c :: args =>
    (commandOfCode c ⟨args, (gatherBits bits).spare⟩).getD (.frameRefused (some c) ⟨args, (gatherBits bits).spare⟩)

/-- The bits of a frame with a given code byte. -/
def bitsOfFrame (code : Byte) (f : Frame) : List Bool := (code :: f.args).flatMap byteBits ++ f.spare

/-- The bits that spell a management command; absent for commands that are no frame. -/
def frameBits : Instr → Option (List Bool)
  | .statusRead f => some (bitsOfFrame 0x01 f)
  | .profileWrite f => some (bitsOfFrame 0x02 f)
  | .profileRead f => some (bitsOfFrame 0x03 f)
  | .geometryWrite f => some (bitsOfFrame 0x04 f)
  | .geometryRead f => some (bitsOfFrame 0x05 f)
  | .geometryDelete f => some (bitsOfFrame 0x06 f)
  | .portEnable f => some (bitsOfFrame 0x08 f)
  | .portDisable f => some (bitsOfFrame 0x09 f)
  | .portReset f => some (bitsOfFrame 0x0A f)
  | .deviceReset f => some (bitsOfFrame 0x0F f)
  | .timebaseWrite f => some (bitsOfFrame 0x10 f)
  | .poolRead f => some (bitsOfFrame 0x11 f)
  | .contextRead f => some (bitsOfFrame 0x12 f)
  | .countersRead f => some (bitsOfFrame 0x13 f)
  | .countersClear f => some (bitsOfFrame 0x14 f)
  | .clockRead f => some (bitsOfFrame 0x15 f)
  | .frameRefused none f => some f.spare
  | .frameRefused (some c) f => some (bitsOfFrame c f)
  | .submit _ _ => none
  | .softData _ _ => none
  | .returnSlot _ _ => none
  | .selfReset _ _ => none
  | .answer _ _ => none
  | .status _ _ _ => none
  | .unmappedWrite _ _ => none
  | .intakeTry _ => none
  | .combineSelection => none
  | .clearPageEnd => none
  | .combinePageReadEnd _ => none
  | .visitWriteEnd => none
  | .combineCompletion => none
  | .combineDamage => none
  | .combineAbort => none
  | .dispatch => none
  | .decodePageReadEnd _ _ => none
  | .halfIterationEnd _ => none
  | .iterationEnd _ => none
  | .decodeDamage _ => none
  | .tick => none
  | .expiryHeld => none
  | .expiryTombstone => none
  | .powerOnReset => none

/-! ### Client port accesses -/

/-- The offset of the 64-bit word that an address of the port window lies in (log entry 7). -/
def wordOffset (addr : BitVec 16) : Nat := addr.toNat / 8 * 8

/-- One access at a client port, as its bus carries it. -/
inductive BusAccess where
  | write (addr : BitVec 16) (burst : WriteBurst)
  | read (first : ReadBeat) (later : List ReadBeat)
deriving DecidableEq, Repr

/-- The command that an access at a port spells, by the offset it begins at (spec/07 R128, spec/11 Table 11-1, R203). -/
def busCommand (p : PortId) : BusAccess → Instr
  | .write addr w =>
    if wordOffset addr = Config.offSubmit then .submit p w
    else if wordOffset addr = Config.offSoftData then .softData p w
    else if wordOffset addr = Config.offReturnSlot then .returnSlot p w
    else if wordOffset addr = Config.offSelfReset then .selfReset p w
    else .unmappedWrite p (.write addr w)
  | .read b later =>
    if wordOffset b.addr = Config.offAnswer then .answer p (b.lanes :: later.map (·.lanes))
    else if wordOffset b.addr = Config.offStatus then .status p b.lanes later
    else .unmappedWrite p (.read (b :: later))

/-- An access that spells a client port command; absent for commands that are no access. -/
def busAccess : Instr → Option (PortId × BusAccess)
  | .submit p w => some (p, .write (BitVec.ofNat 16 Config.offSubmit) w)
  | .softData p w => some (p, .write (BitVec.ofNat 16 Config.offSoftData) w)
  | .returnSlot p w => some (p, .write (BitVec.ofNat 16 Config.offReturnSlot) w)
  | .selfReset p w => some (p, .write (BitVec.ofNat 16 Config.offSelfReset) w)
  | .answer _ [] => none
  | .answer p (l :: ls) =>
    some (p, .read ⟨BitVec.ofNat 16 Config.offAnswer, l⟩ (ls.map fun m => ⟨BitVec.ofNat 16 Config.offAnswer, m⟩))
  | .status p lanes later => some (p, .read ⟨BitVec.ofNat 16 Config.offStatus, lanes⟩ later)
  | .unmappedWrite p (.write addr w) => some (p, .write addr w)
  | .unmappedWrite _ (.read []) => none
  | .unmappedWrite p (.read (b :: later)) => some (p, .read b later)
  | .intakeTry _ => none
  | .combineSelection => none
  | .clearPageEnd => none
  | .combinePageReadEnd _ => none
  | .visitWriteEnd => none
  | .combineCompletion => none
  | .combineDamage => none
  | .combineAbort => none
  | .dispatch => none
  | .decodePageReadEnd _ _ => none
  | .halfIterationEnd _ => none
  | .iterationEnd _ => none
  | .decodeDamage _ => none
  | .tick => none
  | .expiryHeld => none
  | .expiryTombstone => none
  | .statusRead _ => none
  | .profileWrite _ => none
  | .profileRead _ => none
  | .geometryWrite _ => none
  | .geometryRead _ => none
  | .geometryDelete _ => none
  | .portEnable _ => none
  | .portDisable _ => none
  | .portReset _ => none
  | .deviceReset _ => none
  | .timebaseWrite _ => none
  | .poolRead _ => none
  | .contextRead _ => none
  | .countersRead _ => none
  | .countersClear _ => none
  | .clockRead _ => none
  | .frameRefused _ _ => none
  | .powerOnReset => none

end Sys2Proof
end

