-- ==== Sys2Proof/Machine/State.lean ====
section
/-! DEFINITION. Everything the spec gives the HC-42 to hold, as plain data, its values after power-on, and the two (never taken) ways a step could stop. -/

namespace Sys2Proof.Machine

/-! ### The Context Table (spec/01 Table 1-1) -/

/-- The seven states of a context entry (spec/01 section 1.2). -/
inductive CtxState where
  | free
  | combining
  | queued
  | decoding
  | held
  | solved
  | closing
deriving DecidableEq, Repr

/-- What an attempt asks for (spec/11 Table 11-2, byte 7). -/
inductive Action where
  | decode
  | holdOnly
deriving DecidableEq, Repr

/-- The stop rule of a decode (spec/11 Table 11-2, byte 17). -/
inductive StopMode where
  | full
  | check
  | agree
  | either
deriving DecidableEq, Repr

/-- The attempt owed a decode answer, with its parameters (spec/01 Table 1-1, pending_decode). -/
structure PendingDecode where
  cookie          : Cookie
  iterationLimit  : Nat
  stopMode        : StopMode
  checksumPresent : Bool
deriving DecidableEq, Repr

/-- The two notices (spec/08 R154). -/
inductive NoticeKind where
  | expired
  | evicted
deriving DecidableEq, Repr

/-- A notice waiting for room (spec/01 Table 1-1, owed_notice). -/
structure OwedNotice where
  kind        : NoticeKind
  lastAttempt : Nat
deriving DecidableEq, Repr

/-- The decode units assigned to a context (spec/01 Table 1-1, units). -/
structure UnitSet where
  du0 : Bool
  du1 : Bool
deriving DecidableEq, Repr

/-- No unit. -/
def UnitSet.none : UnitSet := ⟨false, false⟩

/-- One context entry (spec/01 Table 1-1). -/
structure Context where
  state          : CtxState
  port           : PortId
  tag            : Tag
  K              : Nat
  L              : Nat
  pageCount      : Nat
  permA          : Nat
  permB          : Nat
  pages          : List Page
  lastAttempt    : Nat
  combinedCount  : Nat
  gap            : Bool
  pendingDecode  : Option PendingDecode
  releasePending : Option Cookie
  deadline       : Ticks
  owedNotice     : Option OwedNotice
  units          : UnitSet
deriving DecidableEq, Repr

/-- A FREE entry (spec/01 R8). -/
def Context.free : Context :=
  { state := .free, port := 0, tag := 0, K := 0, L := 0, pageCount := 0, permA := 0, permB := 0, pages := [],
    lastAttempt := 0, combinedCount := 0, gap := false, pendingDecode := none, releasePending := none, deadline := 0,
    owedNotice := none, units := UnitSet.none }

/-- One entry of the Geometry Table (spec/01 R28). -/
structure GeometryEntry where
  K     : Nat
  permA : Nat
  permB : Nat
deriving DecidableEq, Repr

/-! ### The Page Pool (spec/02 R31) -/

/-- The three page lists, head first, the usage of each port and the shortfall. -/
structure Pool where
  freeList    : List Page
  spareList   : List Page
  retiredList : List Page
  usage       : Vector Nat 4
  shortfall   : Nat
deriving DecidableEq, Repr

/-! ### Client ports -/

/-- Response to a shortage at admission (spec/09 Table 9-1). -/
inductive EvictionPolicy where
  | refuse
  | evictOwn
deriving DecidableEq, Repr

/-- A client profile (spec/09 Table 9-1). -/
structure Profile where
  reserve           : Nat
  cap               : Nat
  maxContexts       : Nat
  maxAttempts       : Nat
  iterationCap      : Nat
  holdLifetime      : Nat
  tombstoneLifetime : Nat
  evictionPolicy    : EvictionPolicy
  damping           : List Nat
deriving DecidableEq, Repr

/-- The power-on defaults (spec/09 Table 9-1). -/
def Profile.default : Profile :=
  { reserve := 0, cap := 0, maxContexts := 0, maxAttempts := 4, iterationCap := 8, holdLifetime := 500,
    tombstoneLifetime := 50, evictionPolicy := .refuse, damping := List.replicate 12 24 }

/-- The state a port reset will end in (spec/09 R172). -/
inductive ResetTarget where
  | active
  | off
deriving DecidableEq, Repr

/-- The state of a port; a RESETTING port also holds its reset target (spec/09 R172). -/
inductive PortState where
  | off
  | active
  | draining
  | resetting (target : ResetTarget)
deriving DecidableEq, Repr

/-- The state of a staging buffer (spec/07 Table 7-2). -/
inductive BufState where
  | free
  | filling
  | sealed
  | combining
deriving DecidableEq, Repr

/-- A staging buffer: the bytes received, in the order written, and the overrun flag (spec/07 R133). -/
structure Buffer where
  state   : BufState
  values  : List Byte
  overrun : Bool
deriving DecidableEq, Repr

/-- A FREE buffer. -/
def Buffer.free : Buffer := ⟨.free, [], false⟩

/-- A FILLING buffer with 0 values. -/
def Buffer.filling : Buffer := ⟨.filling, [], false⟩

/-- The kind a descriptor's kind byte names; a byte that names none is kept as written (spec/11 Table 11-2, spec/07 R132). -/
inductive DescriptorKind where
  | attempt
  | release
  | query
  | unnamed (code : Byte)
deriving DecidableEq, Repr

/-- The 32 bytes of a complete descriptor as a queue entry holds them, field by field: every byte and bit as written (spec/07 R132) but those that spec/11 R204 says are copied into no queue entry (log entry 12). -/
structure Descriptor where
  kind            : DescriptorKind
  tag             : Tag
  cookie          : Cookie
  checksumPresent : Bool
  K               : Nat
  attempt         : Nat
  action          : Byte
  start           : Nat
  count           : Nat
  iterationLimit  : Nat
  stopMode        : Byte
deriving DecidableEq, Repr

/-- A submission queue entry: the descriptor's bytes and what was bound to them when they were appended (spec/07 R132): the buffer, if any, the values received and the overrun flag. -/
structure QueueEntry where
  descriptor     : Descriptor
  buffer         : Option BufId
  valuesReceived : Nat
  overrun        : Bool
deriving DecidableEq, Repr

/-- An attempt in a combine request slot (spec/07 R141). -/
structure Request where
  tag             : Tag
  K               : Nat
  attempt         : Nat
  start           : Nat
  count           : Nat
  checksumPresent : Bool
  action          : Action
  iterationLimit  : Nat
  stopMode        : StopMode
  cookie          : Cookie
  buffer          : BufId
  valuesReceived  : Nat
deriving DecidableEq, Repr

/-- A combine request slot (spec/07 R142). -/
inductive RequestSlot where
  | empty
  | ready (r : Request)
  | keyWait (r : Request)
deriving DecidableEq, Repr

/-- The intake (spec/07 Table 7-3). -/
inductive IntakeState where
  | running
  | noAnswerSpace
  | requestSlotBusy
  | keyOrder
deriving DecidableEq, Repr

/-- How a decode ended, as its answer reports it (spec/05 R103). -/
inductive DecodeOutcome where
  | pass
  | fail
  | abandoned
deriving DecidableEq, Repr

/-- Why an attempt is refused (spec/11 Table 11-6). -/
inductive RefusalReason where
  | badKind
  | badSize
  | badAttempt
  | badRange
  | badLimit
  | badStop
  | lengthMismatch
  | keyMismatch
  | tableFull
  | noSpace
deriving DecidableEq, Repr

/-- The body of an answer or notice record (spec/08 Table 8-2). -/
inductive AnswerBody where
  | stored (gap : Bool) (combinedCount : Nat)
  | decoded (outcome : DecodeOutcome) (iterations : Nat) (gap final : Bool) (slot payloadLength mismatches zeros : Nat)
  | superseded (attempt : Nat)
  | withdrawn
  | duplicate (lastAttempt : Nat)
  | alreadySolved (lastAttempt : Nat)
  | damaged
  | refused (reason : RefusalReason)
  | released (previous : CtxState)
  | status (state : CtxState) (K lastAttempt combinedCount pageCount : Nat) (ticks : Ticks)
  | notice (kind : NoticeKind) (lastAttempt : Nat)
deriving DecidableEq, Repr

/-- An answer or notice record (spec/08 R155). -/
structure Answer where
  tag    : Tag
  cookie : Cookie
  body   : AnswerBody
deriving DecidableEq, Repr

/-- An output slot; a HELD slot has its 1024 bytes (spec/08 R164, spec/05 R105). -/
inductive OutSlot where
  | free
  | reserved
  | held (payload : List Byte)
deriving DecidableEq, Repr

/-- The AXI response of an access; the spec gives OKAY to every one (spec/07 R128, spec/11 R203). -/
inductive BusResponse where
  | okay
deriving DecidableEq, Repr

/-- The model's own output field: the response and read data of a port's last access (log entry 8). -/
structure BusOut where
  response : Option BusResponse
  data     : List Word64
deriving DecidableEq, Repr

/-- A client port with its life cycle, submission side and answer side (spec/07, spec/08, spec/09), and its closing order (spec/01 R23). -/
structure Port where
  state          : PortState
  profile        : Profile
  assembly       : List Word64
  queue          : List QueueEntry
  buf0           : Buffer
  buf1           : Buffer
  slot           : RequestSlot
  intake         : IntakeState
  /-- The RELEASE at the head already holds a reservation (spec/07 R144). -/
  headReserved   : Bool
  /-- R9's signal has reached the KEY_ORDER stall of that RELEASE (spec/07 Table 7-3). -/
  stallSignalled : Bool
  submitDropped  : Bool
  softDropped    : Bool
  answers        : List Answer
  reservations   : Nat
  outSlots       : Vector OutSlot 4
  closing        : List Entry
  bus            : BusOut
deriving DecidableEq, Repr

/-- A port in OFF with a given profile and bus output (spec/07 R148, spec/08 R151, R164, spec/09 R173). -/
def Port.offWith (profile : Profile) (bus : BusOut) : Port :=
  { state := .off, profile := profile, assembly := [], queue := [], buf0 := Buffer.filling, buf1 := Buffer.free,
    slot := .empty, intake := .running, headReserved := false, stallSignalled := false, submitDropped := false,
    softDropped := false, answers := [], reservations := 0, outSlots := Vector.replicate 4 .free, closing := [],
    bus := bus }

/-! ### The Combine Engine (spec/03 Table 3-1) -/

/-- The phase of a combine. -/
inductive CombinePhase where
  | clearing
  | adding
deriving DecidableEq, Repr

/-- The combine record (spec/03 Table 3-1), with what R64, R69 and R70 imply: how many visits' reads have ended, the pages whose checks failed, and whether an abort has reached its page boundary (log entries 13, 14). -/
structure Combine where
  port           : PortId
  entry          : Entry
  cookie         : Cookie
  action         : Action
  buffer         : BufId
  start          : Nat
  count          : Nat
  phase          : CombinePhase
  clearIndex     : Nat
  valueIndex     : Nat
  abortRequested : Bool
  openReads      : List Page
  readsEnded     : Nat
  damaged        : List Page
  atBoundary     : Bool
deriving DecidableEq, Repr

/-- The Combine Engine: BUSY while it has a combine record (spec/03 R53). -/
structure Engine where
  pointer : PortId
  combine : Option Combine
deriving DecidableEq, Repr

/-! ### The Decode Dispatcher and the Decode Units -/

/-- The dispatcher's mode (spec/04 R76). -/
inductive DispatchMode where
  | normal
  | pairWait (p : PortId)
deriving DecidableEq, Repr

/-- The Decode Dispatcher (spec/04 R74, R76). -/
structure Dispatcher where
  mode    : DispatchMode
  pointer : PortId
  queues  : Vector (List Entry) 4
deriving DecidableEq, Repr

/-- The page reads of one unit in the half-iteration in hand (spec/05 R97): how many have ended, and the open ones. -/
structure Reads where
  ended     : Nat
  openReads : List Page
deriving DecidableEq, Repr

/-- No read. -/
def Reads.none : Reads := ⟨0, []⟩

/-- The trellis metrics at boundary K/2 that the units of a pair hand each other: DU0's forward and DU1's backward metrics (spec/05 R95, R98). -/
structure PairMetrics where
  forward  : List Int
  backward : List Int
deriving DecidableEq, Repr

/-- Every state's metric 0, as the first iteration of a pair starts (spec/05 R98). -/
def PairMetrics.start : PairMetrics := ⟨List.replicate 16 0, List.replicate 16 0⟩

/-- The unit record of one decode (spec/05 Table 5-1), held once for a pair (log entry 18): stopping is STOPPING instead of RUNNING; reads are those of the unit alone or of DU0 of a pair, readsPartner those of DU1 of a pair; damaged lists the pages whose checks failed, in the order their reads ended (spec/05 R111). -/
structure Job where
  port            : PortId
  entry           : Entry
  K               : Nat
  L               : Nat
  permA           : Nat
  permB           : Nat
  pages           : List Page
  cookie          : Cookie
  iterationLimit  : Nat
  stopMode        : StopMode
  checksumPresent : Bool
  damping         : List Nat
  slot            : SlotId
  h               : Nat
  extrinsic       : List Int
  previous        : Option (List Bool)
  stopping        : Bool
  reads           : Reads
  readsPartner    : Reads
  damaged         : List Page
  pairMetrics1    : PairMetrics
  pairMetrics2    : PairMetrics
deriving DecidableEq, Repr

/-- The two units: each alone, IDLE or with a decode, or paired on one decode (spec/05 R92). -/
inductive Units where
  | apart (du0 du1 : Option Job)
  | paired (job : Job)
deriving DecidableEq, Repr

/-! ### The Expiry Unit and the Management Link -/

/-- The hold clock and the expiry list, head first (spec/06 R115, R119). -/
structure ExpiryUnit where
  clock    : Ticks
  timebase : Nat
  period   : Nat
  elapsed  : Nat
  list     : List Entry
deriving DecidableEq, Repr

/-- Management result codes (spec/10 Table 10-1). -/
inductive ResultCode where
  | ok
  | badCommand
  | shortFrame
  | badPort
  | badState
  | badProfile
  | noReserve
  | badGeometry
  | geometryFull
deriving DecidableEq, Repr

/-- The attention causes of a port (spec/10 R190). -/
structure Causes where
  drainDone : Bool
  resetDone : Bool
deriving DecidableEq, Repr

/-- Both causes clear. -/
def Causes.clear : Causes := ⟨false, false⟩

/-- The six counters of a port (spec/10 R196). -/
structure Counters where
  attemptsAdmitted : BitVec 32
  passes           : BitVec 32
  failures         : BitVec 32
  expiries         : BitVec 32
  evictions        : BitVec 32
  refusals         : BitVec 32
deriving DecidableEq, Repr

/-- All six counters 0. -/
def Counters.zero : Counters := ⟨0, 0, 0, 0, 0, 0⟩

/-- The Management Link (spec/10); miso is the model's own output field: the bits the last frame shifted out (log entry 8). -/
structure Link where
  reply      : List Byte
  lastResult : ResultCode
  causes     : Vector Causes 4
  counters   : Vector Counters 4
  miso       : List Bool
deriving DecidableEq, Repr

/-! ### The whole device -/

/-- Everything the device holds, and the queue of commands that wait, first in first out. -/
structure State where
  contexts    : Vector Context 256
  geometry    : List GeometryEntry
  pool        : Pool
  store       : List Host.Cell
  engine      : Engine
  dispatcher  : Dispatcher
  /-- A dispatch opportunity has arisen and is not yet handled (spec/04 R77). -/
  opportunity : Bool
  units       : Units
  expiry      : ExpiryUnit
  ports       : Vector Port 4
  link        : Link
  pending     : List Instr
deriving DecidableEq, Repr

/-- Every physical page in ascending order. -/
def allPages : List Page := List.finRange 2112

/-- The pool after power-on (spec/02 R33). -/
def Pool.powerOn : Pool :=
  { freeList := allPages.filter (fun pg => pg.val < Config.servicePages),
    spareList := allPages.filter (fun pg => !decide (pg.val < Config.servicePages)),
    retiredList := [], usage := Vector.replicate 4 0, shortfall := 0 }

/-- The dispatcher after every reset of the device (spec/04 R76). -/
def Dispatcher.powerOn : Dispatcher :=
  { mode := .normal, pointer := 0, queues := Vector.replicate 4 [] }

/-- The link after power-on (spec/10 R187, R189, R190, R196). -/
def Link.powerOn : Link :=
  { reply := List.replicate Config.replyBytes 0, lastResult := .ok, causes := Vector.replicate 4 Causes.clear,
    counters := Vector.replicate 4 Counters.zero, miso := [] }

/-- The device right after power-on or RST_N (spec/10 R201). -/
def State.reset : State :=
  { contexts := Vector.replicate 256 Context.free, geometry := [], pool := Pool.powerOn, store := [],
    engine := { pointer := 0, combine := none }, dispatcher := Dispatcher.powerOn, opportunity := false, units := .apart none none,
    expiry := { clock := 0, timebase := 4, period := 4, elapsed := 0, list := [] },
    ports := Vector.replicate 4 (Port.offWith Profile.default ⟨none, []⟩), link := Link.powerOn, pending := [] }

/-- Why a step could stop with a fault. The spec stops the machine nowhere, and no meaning answers one. -/
inductive Fault where
  /-- An access to a soft store address outside the 2112 pages. Raised by no meaning: a page number is below 2112 by its type. Safe: a fault that is never answered hides no behaviour. -/
  | noSuchStoreAddress (address : Nat)
deriving DecidableEq, Repr

/-- Why a step could be refused. -/
inductive Refusal where
  /-- A command that has no meaning yet. Raised by no arm of exec: every row has its meaning. Safe: it stops where the device goes on. -/
  | notModelled (mnemonic : String)
deriving DecidableEq, Repr

end Sys2Proof.Machine
end

