-- ==== Sys2Proof/Machine/Ops.lean ====
section
/-! DEFINITION. The shared operations over the device's state: the soft store, the pool, the context table, the expiry list, the answer side, the staging buffers and the port life cycle. Every meaning is written over these. -/

namespace Sys2Proof.Machine

/-! ### Reading and replacing parts of the state -/

/-- Every entry, lowest first. -/
def allEntries : List Entry := List.finRange 256

/-- Every port, lowest first. -/
def allPorts : List PortId := [0, 1, 2, 3]

def State.ctx (s : State) (e : Entry) : Context := s.contexts.get e
def State.setCtx (e : Entry) (c : Context) (s : State) : State := { s with contexts := s.contexts.set e.val c e.isLt }
def State.port (s : State) (p : PortId) : Port := s.ports.get p
def State.setPort (p : PortId) (q : Port) (s : State) : State := { s with ports := s.ports.set p.val q p.isLt }
/-- Change one port. -/
def State.onPort (p : PortId) (f : Port → Port) (s : State) : State := s.setPort p (f (s.port p))
def State.setPool (pl : Pool) (s : State) : State := { s with pool := pl }
def State.setStore (m : List Host.Cell) (s : State) : State := { s with store := m }
def State.setGeometry (g : List GeometryEntry) (s : State) : State := { s with geometry := g }
def State.setEngine (en : Engine) (s : State) : State := { s with engine := en }
def State.setDispatcher (d : Dispatcher) (s : State) : State := { s with dispatcher := d }
/-- Whether a dispatch opportunity is outstanding: it arises, or it has been handled (spec/04 R77). -/
def State.setOpportunity (b : Bool) (s : State) : State := { s with opportunity := b }
def State.setUnits (u : Units) (s : State) : State := { s with units := u }
def State.setExpiry (x : ExpiryUnit) (s : State) : State := { s with expiry := x }
def State.setLink (l : Link) (s : State) : State := { s with link := l }
def State.setExpiryList (l : List Entry) (s : State) : State := s.setExpiry { s.expiry with list := l }

def State.counters (s : State) (p : PortId) : Counters := s.link.counters.get p
def State.causes (s : State) (p : PortId) : Causes := s.link.causes.get p
def State.setCounters (p : PortId) (k : Counters) (s : State) : State :=
  s.setLink { s.link with counters := s.link.counters.set p.val k p.isLt }
def State.setCauses (p : PortId) (k : Causes) (s : State) : State :=
  s.setLink { s.link with causes := s.link.causes.set p.val k p.isLt }

/-- A counter's event (spec/10 R196): one more, but 2^32 - 1 stays. -/
def countUp (n : BitVec 32) : BitVec 32 := if n = BitVec.allOnes 32 then n else n + 1

def State.countAdmitted (p : PortId) (s : State) : State :=
  s.setCounters p { s.counters p with attemptsAdmitted := countUp (s.counters p).attemptsAdmitted }
def State.countPass (p : PortId) (s : State) : State :=
  s.setCounters p { s.counters p with passes := countUp (s.counters p).passes }
def State.countFailure (p : PortId) (s : State) : State :=
  s.setCounters p { s.counters p with failures := countUp (s.counters p).failures }
def State.countExpiry (p : PortId) (s : State) : State :=
  s.setCounters p { s.counters p with expiries := countUp (s.counters p).expiries }
def State.countEviction (p : PortId) (s : State) : State :=
  s.setCounters p { s.counters p with evictions := countUp (s.counters p).evictions }
def State.countRefusal (p : PortId) (s : State) : State :=
  s.setCounters p { s.counters p with refusals := countUp (s.counters p).refusals }

/-! ### The soft store (spec/01 R2, spec/02 R31) -/

/-- The value of one cell; an unlisted cell reads as Config.storeDefault (log entry 1). -/
def Memory.read : List Host.Cell → Nat → Byte
  | [], _ => Config.storeDefault
  | (a, b) :: m, k => if a = k then b else Memory.read m k

/-- The listed cells for consecutive values from an address: none for a value equal to the default. -/
def Memory.cells : Nat → List Byte → List Host.Cell
  | _, [] => []
  | a, b :: bs => if b = Config.storeDefault then Memory.cells (a + 1) bs else (a, b) :: Memory.cells (a + 1) bs

/-- Write consecutive values from an address. -/
def Memory.writeRange (m : List Host.Cell) (a : Nat) (bs : List Byte) : List Host.Cell :=
  m.filter (fun x => x.1 < a) ++ Memory.cells a bs ++ m.filter (fun x => a + bs.length ≤ x.1)

/-- Read n consecutive values from an address. -/
def Memory.readRange (m : List Host.Cell) (a n : Nat) : List Byte := (List.range n).map fun i => Memory.read m (a + i)

/-- Cells of the store. -/
def storeCells : Nat := Config.physicalPages * Config.pageValues

/-- The one canonical form of the store: addresses strictly rising, inside the store, no entry equal to the default. -/
abbrev Memory.wf (m : List Host.Cell) : Prop :=
  m.Pairwise (fun x y => x.1 < y.1) ∧ ∀ x ∈ m, x.1 < storeCells ∧ x.2 ≠ Config.storeDefault

/-- The first cell of a page. -/
def pageBase (pg : Page) : Nat := Config.pageValues * pg.val

/-- Set all 512 values of a page to 0 (spec/03 R61). -/
def State.clearPage (pg : Page) (s : State) : State :=
  s.setStore (Memory.writeRange s.store (pageBase pg) (List.replicate Config.pageValues 0))

/-- The record of a context as its page list and length give it (spec/01 R2): L values, each a signed integer. -/
def recordValues (m : List Host.Cell) (pages : List Page) (L : Nat) : List Int :=
  ((pages.flatMap fun pg => Memory.readRange m (pageBase pg) Config.pageValues).take L).map BitVec.toInt

/-! ### Keys (spec/01 R4, R9) -/

/-- The non-FREE entry with a key, if there is one. -/
def State.lookup (s : State) (p : PortId) (tag : Tag) : Option Entry :=
  allEntries.find? fun e => (s.ctx e).state != .free && (s.ctx e).port == p && (s.ctx e).tag == tag

/-- Busy states: a context in COMBINING, DECODING or CLOSING takes no attempt (spec/01 section 1.2). -/
def CtxState.busy : CtxState → Bool
  | .combining | .decoding | .closing => true
  | .free | .queued | .held | .solved => false

/-- Whether a key names a busy context (spec/01 R9). -/
def State.keyBusy (s : State) (p : PortId) (tag : Tag) : Bool :=
  match s.lookup p tag with
  | none => false
  | some e => (s.ctx e).state.busy

/-- R9's signal at the submission side: a slot in KEY_WAIT for the key becomes READY, and a RELEASE stalled at KEY_ORDER on the key may be offered again (spec/01 R9, spec/07 R144). -/
def Port.signalled (q : Port) (tag : Tag) : Port :=
  { q with
    slot := match q.slot with
      | .keyWait r => if r.tag = tag then .ready r else .keyWait r
      | .ready r => .ready r
      | .empty => .empty
    stallSignalled :=
      q.stallSignalled ||
        (q.intake == .keyOrder && q.headReserved &&
          match q.queue with
          | [] => false
          | x :: _ => x.descriptor.tag == tag) }

def State.signal (p : PortId) (tag : Tag) (s : State) : State := s.onPort p (·.signalled tag)

/-- The lowest-numbered FREE entry (spec/01 R4). -/
def State.freeEntry? (s : State) : Option Entry := allEntries.find? fun e => (s.ctx e).state == .free

/-- How many non-FREE entries a port has (spec/01 R5). -/
def State.contextCount (s : State) (p : PortId) : Nat :=
  (allEntries.filter fun e => (s.ctx e).state != .free && (s.ctx e).port == p).length

/-! ### The Page Pool (spec/02) -/

def Pool.usageOf (pl : Pool) (p : PortId) : Nat := pl.usage.get p
def Pool.setUsage (p : PortId) (n : Nat) (pl : Pool) : Pool := { pl with usage := pl.usage.set p.val n p.isLt }

/-- Append pages to the free list and lower a port's usage by n (spec/02 R40). -/
def Pool.giveBack (p : PortId) (pages : List Page) (n : Nat) (pl : Pool) : Pool :=
  { pl with freeList := pl.freeList ++ pages, usage := pl.usage.set p.val (pl.usageOf p - n) p.isLt }

def State.giveBack (p : PortId) (pages : List Page) (n : Nat) (s : State) : State := s.setPool (s.pool.giveBack p pages n)

/-- Whether a port's reserve counts (spec/02 R35, R50). -/
def PortState.counted : PortState → Bool
  | .off => false
  | .active | .draining | .resetting _ => true

/-- Unmet reserve of a port, max(0, reserve - usage) (spec/02 R35). -/
def State.unmet (s : State) (p : PortId) : Nat := (s.port p).profile.reserve - s.pool.usageOf p

/-- The sum of the unmet reserves of the counted ports other than c. -/
def State.unmetOthers (s : State) (c : PortId) : Nat :=
  ((allPorts.filter fun p => p != c && (s.port p).state.counted).map s.unmet).sum

/-- The three conditions of spec/02 R37 for n pages of port c, at a given free count and usage of c. -/
def State.grantOk (s : State) (c : PortId) (n free usage : Nat) : Bool :=
  decide (n ≤ free) && decide (usage + n ≤ (s.port c).profile.cap) &&
    decide (s.unmetOthers c + ((s.port c).profile.reserve - usage - n) ≤ free - n + s.pool.shortfall)

/-- Whether a request is granted as the pool stands (spec/02 R37). -/
def State.grants (s : State) (c : PortId) (n : Nat) : Bool :=
  s.grantOk c n s.pool.freeList.length (s.pool.usageOf c)

/-- A granted request takes the first n pages (spec/02 R38). -/
def Pool.take (p : PortId) (n : Nat) (pl : Pool) : Pool :=
  { pl with freeList := pl.freeList.drop n, usage := pl.usage.set p.val (pl.usageOf p + n) p.isLt }

/-- The enable test for a port that is OFF (spec/02 R51). -/
def State.enableTest (s : State) (p : PortId) : Bool :=
  decide (s.unmetOthers p + (s.port p).profile.reserve ≤ s.pool.freeList.length)

/-- Retire one page (spec/02 R46). -/
def Pool.retire (pg : Page) (pl : Pool) : Pool :=
  match pl.spareList with
  | [] => { pl with retiredList := pl.retiredList ++ [pg], shortfall := pl.shortfall + 1 }
  | sp :: rest =>
    { pl with retiredList := pl.retiredList ++ [pg], spareList := rest, freeList := pl.freeList ++ [sp] }

/-- Retire the pages of a report that are in a page list, each once; what is left of the list, and the pool (spec/02 R46, R48). -/
def Pool.retireAll : List Page → List Page → Pool → List Page × Pool
  | [], pages, pl => (pages, pl)
  | pg :: report, pages, pl =>
    if pg ∈ pages then Pool.retireAll report (pages.erase pg) (pl.retire pg) else Pool.retireAll report pages pl

/-! ### Ending a context -/

/-- The entry becomes FREE and R9's signal is given for its key (spec/01 R8, R9). -/
def State.freeContext (e : Entry) (s : State) : State :=
  (s.setCtx e Context.free).signal (s.ctx e).port (s.ctx e).tag

/-- A context gives its whole page list back and becomes FREE. -/
def State.releasePages (e : Entry) (s : State) : State :=
  (s.giveBack (s.ctx e).port (s.ctx e).pages (s.ctx e).pageCount).freeContext e

/-- A context is closed by damage: the pages of the report are retired, the rest returned, the entry becomes FREE (spec/02 R47, spec/01 R17, R21). -/
def State.closeDamaged (e : Entry) (report : List Page) (s : State) : State :=
  ((s.setPool (Pool.retireAll report (s.ctx e).pages s.pool).2).giveBack (s.ctx e).port
    (Pool.retireAll report (s.ctx e).pages s.pool).1 (s.ctx e).pageCount).freeContext e

/-! ### The answer side (spec/08) -/

/-- An entry that holds no record and is not reserved (spec/08 R154, spec/07 R138). -/
def Port.room (q : Port) : Bool := decide (q.answers.length + q.reservations < Config.answerEntries)

/-- Append a record at the tail (spec/08 R151). -/
def State.post (p : PortId) (a : Answer) (s : State) : State := s.onPort p fun q => { q with answers := q.answers ++ [a] }

/-- A reserved answer: the record joins the tail and the reservation ends (spec/08 R153). -/
def State.postReserved (p : PortId) (a : Answer) (s : State) : State :=
  s.onPort p fun q => { q with answers := q.answers ++ [a], reservations := q.reservations - 1 }

/-- Take one reservation (spec/08 Table 8-1). -/
def State.reserve (p : PortId) (s : State) : State := s.onPort p fun q => { q with reservations := q.reservations + 1 }

/-- A notice's record: the context's tag, cookie 0 (spec/08 R155). -/
def noticeAnswer (tag : Tag) (n : OwedNotice) : Answer := ⟨tag, 0, .notice n.kind n.lastAttempt⟩

/-! ### The expiry list (spec/06) -/

/-- The remaining time of a deadline (spec/06 R118). -/
def remaining (clock d : Ticks) : Int :=
  if (d - clock).toNat ≤ 2 ^ 31 then (d - clock).toNat else (d - clock).toNat - 2 ^ 32

/-- Whether a deadline is reached (spec/06 R118). -/
def deadlineReached (clock d : Ticks) : Bool := decide ((clock - d).toNat < 2 ^ 31)

def State.remainingOf (s : State) (e : Entry) : Int := remaining s.expiry.clock (s.ctx e).deadline

/-- Insert behind every entry whose remaining time is not greater (spec/06 R120). -/
def insertDue (r : Entry → Int) (e : Entry) : List Entry → List Entry
  | [] => [e]
  | x :: xs => if r x ≤ r e then x :: insertDue r e xs else e :: x :: xs

def State.expiryInsert (e : Entry) (s : State) : State := s.setExpiryList (insertDue s.remainingOf e s.expiry.list)

def State.expiryRemove (e : Entry) (s : State) : State := s.setExpiryList (s.expiry.list.erase e)

/-- The deadline a lifetime gives now (spec/06 R118). -/
def State.deadlineAfter (s : State) (lifetime : Nat) : Ticks := s.expiry.clock + BitVec.ofNat 32 lifetime

/-- A context becomes HELD with a deadline and joins the expiry list (spec/01 R15, R20). -/
def State.enterHeld (e : Entry) (s : State) : State :=
  (s.setCtx e { s.ctx e with
      state := .held, gap := false, units := UnitSet.none,
      deadline := s.deadlineAfter (s.port (s.ctx e).port).profile.holdLifetime }).expiryInsert e

/-- A context becomes a SOLVED tombstone, without pages, and joins the expiry list (spec/01 R19). -/
def State.enterSolved (e : Entry) (s : State) : State :=
  (s.setCtx e { s.ctx e with
      state := .solved, pages := [], gap := false, units := UnitSet.none,
      deadline := s.deadlineAfter (s.port (s.ctx e).port).profile.tombstoneLifetime }).expiryInsert e

/-- What is left of a HELD context once it is ended with room for no notice: CLOSING, the notice owed (spec/01 R22). -/
def Context.closing (k : NoticeKind) (c : Context) : Context :=
  { c with state := .closing, pages := [], gap := false, deadline := 0, owedNotice := some ⟨k, c.lastAttempt⟩ }

/-- End a HELD context by expiry or eviction: its pages are returned at once; its notice is posted if there is room, and owed in CLOSING otherwise (spec/01 R22, spec/08 R154). A context in another state is not ended so. -/
def State.endHeld (k : NoticeKind) (e : Entry) (s : State) : State :=
  let c := s.ctx e
  let t := (s.expiryRemove e).giveBack c.port c.pages c.pageCount
  if c.state = .held then
    if (s.port c.port).room then (t.post c.port (noticeAnswer c.tag ⟨k, c.lastAttempt⟩)).freeContext e
    else (t.setCtx e (c.closing k)).onPort c.port fun q => { q with closing := q.closing ++ [e] }
  else s

/-- End a SOLVED tombstone silently (spec/01 R22). -/
def State.endTombstone (e : Entry) (s : State) : State :=
  if (s.ctx e).state = .solved then (s.expiryRemove e).freeContext e else s

/-! ### Staging buffers (spec/07 R133 to R136) -/

def Port.buf (q : Port) : BufId → Buffer
  | .s0 => q.buf0
  | .s1 => q.buf1

def Port.setBuf (b : BufId) (x : Buffer) (q : Port) : Port :=
  match b with
  | .s0 => { q with buf0 := x }
  | .s1 => { q with buf1 := x }

/-- The FILLING buffer, if there is one. -/
def Port.filling? (q : Port) : Option BufId :=
  if q.buf0.state = .filling then some .s0 else if q.buf1.state = .filling then some .s1 else none

/-- If no buffer is FILLING, the lower-numbered FREE buffer becomes FILLING (spec/07 R135, R136). -/
def Port.refill (q : Port) : Port :=
  match q.filling? with
  | some _ => q
  | none =>
    if q.buf0.state = .free then { q with buf0 := Buffer.filling }
    else if q.buf1.state = .free then { q with buf1 := Buffer.filling }
    else q

/-- A buffer's binding ends (spec/07 R136). -/
def Port.freeBuffer (b : BufId) (q : Port) : Port := (q.setBuf b Buffer.free).refill

def State.freeBuffer (p : PortId) (b : BufId) (s : State) : State := s.onPort p (·.freeBuffer b)

/-! ### Output slots (spec/08 R164) -/

def Port.outSlot (q : Port) (i : SlotId) : OutSlot := q.outSlots.get i
def Port.setOutSlot (i : SlotId) (x : OutSlot) (q : Port) : Port := { q with outSlots := q.outSlots.set i.val x i.isLt }
def State.setOutSlot (p : PortId) (i : SlotId) (x : OutSlot) (s : State) : State := s.onPort p (·.setOutSlot i x)

/-- A slot after a port reset or a drain close: HELD becomes FREE (spec/08 R168). -/
def OutSlot.cleared : OutSlot → OutSlot
  | .held _ => .free
  | .free => .free
  | .reserved => .reserved

/-! ### Dispatch queues (spec/04 R74) -/

def State.dispatchQueue (s : State) (p : PortId) : List Entry := s.dispatcher.queues.get p
def State.setDispatchQueue (p : PortId) (l : List Entry) (s : State) : State :=
  s.setDispatcher { s.dispatcher with queues := s.dispatcher.queues.set p.val l p.isLt }

/-- Append at the tail, which is a dispatch opportunity (spec/04 R74, R77). -/
def State.dispatchAppend (p : PortId) (e : Entry) (s : State) : State :=
  (s.setDispatchQueue p (s.dispatchQueue p ++ [e])).setOpportunity true

/-- The mode after the head of a port's queue has left it other than by dispatch (spec/04 R84). -/
def DispatchMode.afterHead (p : PortId) (m : DispatchMode) : DispatchMode := if m = .pairWait p then .normal else m

/-- Remove a context from its queue other than by dispatch (spec/04 R74). When it is the head, a PAIR_WAIT held for it ends (R84), and a dispatch opportunity arises (R77). -/
def State.dispatchRemove (p : PortId) (e : Entry) (s : State) : State :=
  let t := s.setDispatchQueue p ((s.dispatchQueue p).erase e)
  if (s.dispatchQueue p).head? = some e then
    (t.setDispatcher { t.dispatcher with mode := s.dispatcher.mode.afterHead p }).setOpportunity true
  else t

/-! ### Unit records (spec/05) -/

/-- The decode on a unit; for a pair, the shared one. -/
def Units.job : Units → UnitId → Option Job
  | .apart a _, .du0 => a
  | .apart _ b, .du1 => b
  | .paired j, _ => some j

/-- Whether a unit is IDLE. -/
def Units.idle (us : Units) (u : UnitId) : Bool := (us.job u).isNone

/-- Replace the decode on a unit, of the pair for a pair. -/
def Units.setJob (u : UnitId) (j : Job) : Units → Units
  | .apart a b =>
    match u with
    | .du0 => .apart (some j) b
    | .du1 => .apart a (some j)
  | .paired _ => .paired j

/-- The decode on a unit ends: the unit or the pair becomes IDLE (spec/05 R92, R106). -/
def Units.clear (u : UnitId) : Units → Units
  | .apart a b =>
    match u with
    | .du0 => .apart none b
    | .du1 => .apart a none
  | .paired _ => .apart none none

/-- Change every decode. -/
def Units.map (f : Job → Job) : Units → Units
  | .apart a b => .apart (a.map f) (b.map f)
  | .paired j => .paired (f j)

/-- The context entry assigned to a unit (spec/04 R76). -/
def Units.assigned (us : Units) (u : UnitId) : Option Entry := (us.job u).map (·.entry)

/-- An abandon request to the units decoding a context (spec/05 R108), also to units that damage has stopped and whose report is still to come (DESIGN CHOICE, log entry 25). -/
def State.abandonEntry (e : Entry) (s : State) : State :=
  s.setUnits (s.units.map fun j => if j.entry = e then { j with stopping := true } else j)

/-- An abandon request to the units decoding contexts of a port (spec/09 R181), also to units that damage has stopped and whose report is still to come (DESIGN CHOICE, log entry 25). -/
def State.abandonPort (p : PortId) (s : State) : State :=
  s.setUnits (s.units.map fun j => if j.port = p then { j with stopping := true } else j)

/-! ### The port life cycle (spec/09) -/

/-- Whether an entry is a context of a port in one of some states. -/
def State.inStates (s : State) (p : PortId) (k : CtxState → Bool) (e : Entry) : Bool :=
  (s.ctx e).port == p && (s.ctx e).state != .free && k (s.ctx e).state

/-- The states whose contexts hold pages (spec/01 R3). -/
def CtxState.holdsPages : CtxState → Bool
  | .combining | .queued | .decoding | .held => true
  | .free | .solved | .closing => false

/-- End silently every context of a port that is in one of some states: the pages are returned in ascending order of entry number, and the expiry list and the closing order lose them (spec/01 R24, spec/02 R41). -/
def State.endContexts (p : PortId) (k : CtxState → Bool) (s : State) : State :=
  let ended := allEntries.filter (s.inStates p k)
  let holding := ended.filter fun e => (s.ctx e).state.holdsPages
  let t : State :=
    { s with contexts := s.contexts.map fun c => if c.port = p ∧ c.state ≠ .free ∧ k c.state then Context.free else c }
  ((t.giveBack p (holding.flatMap fun e => (s.ctx e).pages) (holding.map fun e => (s.ctx e).pageCount).sum).setExpiryList
    (s.expiry.list.filter fun e => !s.inStates p k e)).onPort p fun q => { q with closing := [] }

/-- The states a port reset ends at the reset event (spec/01 R24). -/
def endedAtReset : CtxState → Bool
  | .queued | .held | .solved | .closing => true
  | .free | .combining | .decoding => false

/-- The states a drain close ends (spec/09 R178). -/
def endedAtClose : CtxState → Bool
  | .held | .solved | .closing => true
  | .free | .queued | .combining | .decoding => false

/-- A draining port's work in flight (spec/09 R177). -/
def inFlight : CtxState → Bool
  | .combining | .queued | .decoding => true
  | .free | .held | .solved | .closing => false

/-- A resetting port's work in shared blocks (spec/09 R183). -/
def inSharedBlock : CtxState → Bool
  | .combining | .decoding => true
  | .free | .queued | .held | .solved | .closing => false

/-- Whether a port is quiet (spec/09 R177). -/
def State.quiet (s : State) (p : PortId) : Bool :=
  (s.port p).queue.isEmpty && (s.port p).slot == .empty && !allEntries.any (s.inStates p inFlight)

/-- The drain closes (spec/09 R178); the change of the port's state is a dispatch opportunity (spec/04 R77). -/
def State.closeDrain (p : PortId) (s : State) : State :=
  let t := (s.endContexts p endedAtClose).onPort p fun q => Port.offWith q.profile q.bus
  (t.setCauses p { t.causes p with drainDone := true }).setOpportunity true

/-- A port reset ends in its target, a dispatch opportunity (spec/09 R183). -/
def State.endReset (p : PortId) (target : ResetTarget) (s : State) : State :=
  let t := match target with
    | .active => s.onPort p fun q => { q with state := .active }
    | .off => s.onPort p fun q => Port.offWith q.profile q.bus
  (t.setCauses p { t.causes p with resetDone := true }).setOpportunity true

/-- What the Port Life Cycle does at an event that can complete a drain or a reset of a port (spec/09 R177, R183). It comes after the event's own effects, so a page list that a quiet event itself returns stands on the free list before the lists of the HELD contexts closed (DESIGN CHOICE, log entry 26). -/
def State.settle (p : PortId) (s : State) : State :=
  match (s.port p).state with
  | .off => s
  | .active => s
  | .draining => if s.quiet p then s.closeDrain p else s
  | .resetting target => if allEntries.any (s.inStates p inSharedBlock) then s else s.endReset p target

/-- The buffers at a port reset (spec/07 R147). -/
def Port.resetBuffers (q : Port) : Port :=
  Port.refill { q with
    buf0 := if q.buf0.state = BufState.combining then q.buf0 else Buffer.free
    buf1 := if q.buf1.state = BufState.combining then q.buf1 else Buffer.free }

/-- The submission and answer side of a port at the event that starts its reset (spec/07 R147, spec/08 R168). -/
def Port.cleared (target : ResetTarget) (q : Port) : Port :=
  { q.resetBuffers with
    state := .resetting target, assembly := [], queue := [], slot := .empty, intake := .running, headReserved := false,
    stallSignalled := false, submitDropped := false, softDropped := false, answers := [], reservations := 0,
    outSlots := q.outSlots.map OutSlot.cleared }

/-- An abort is requested of a combine of the port; when no page work is left in hand its boundary is already reached (spec/03 R70). -/
def Combine.requestAbort (p : PortId) (c : Combine) : Combine :=
  if c.port = p then
    { c with abortRequested := true, atBoundary := c.atBoundary || (c.phase == .adding && decide (c.count ≤ c.valueIndex)) }
  else c

/-- The event that starts a port reset (spec/09 R181), a dispatch opportunity (spec/04 R77), and its end when nothing is in flight (R183). -/
def State.startReset (p : PortId) (target : ResetTarget) (s : State) : State :=
  let t := ((s.endContexts p endedAtReset).onPort p (·.cleared target)).setDispatchQueue p []
  let t := (t.setDispatcher { t.dispatcher with mode := s.dispatcher.mode.afterHead p }).setOpportunity true
  let t := t.setEngine { t.engine with combine := t.engine.combine.map (·.requestAbort p) }
  (t.abandonPort p).settle p

/-- A port reset by PORT_RESET or SELF_RESET (spec/09 R180): from ACTIVE to ACTIVE, from DRAINING to OFF, otherwise none. -/
def State.portReset (p : PortId) (s : State) : Option State :=
  match (s.port p).state with
  | .active => some (s.startReset p .active)
  | .draining => some (s.startReset p .off)
  | .off => none
  | .resetting _ => none

end Sys2Proof.Machine
end

