-- ==== Sys2Proof/Machine/Operands.lean ====
section
/-! DEFINITION. How the bytes of descriptors, frames and bus beats are read into fields (spec/11, sections 11.1, 11.2 and 11.5). -/

namespace Sys2Proof.Machine

/-- The number that bytes give, least significant byte first (spec/11 R202, client ports). -/
def leNat : List Byte → Nat
  | [] => 0
  | b :: bs => b.toNat + 256 * leNat bs

/-- The number that bytes give, most significant byte first (spec/11 R202, management link). -/
def beNat (bs : List Byte) : Nat := leNat bs.reverse

/-- n bytes of a number, least significant first. -/
def leBytes : Nat → Nat → List Byte
  | 0, _ => []
  | n + 1, v => BitVec.ofNat 8 v :: leBytes n (v / 256)

/-- n bytes of a number, most significant first. -/
def beBytes (n v : Nat) : List Byte := (leBytes n v).reverse

/-- Bytes first..first+n-1 of a record. -/
def field (bs : List Byte) (first n : Nat) : List Byte := (bs.drop first).take n

/-- One byte of a record as a number. -/
def byteAt (bs : List Byte) (i : Nat) : Nat := (bs.getD i 0).toNat

/-- The eight bytes of a bus word, lane 0 first. -/
def wordBytes (w : Word64) : List Byte := leBytes 8 w.toNat

/-- The bus word of eight bytes, lane 0 first. -/
def bytesWord (bs : List Byte) : Word64 := BitVec.ofNat 64 (leNat (bs.take 8))

/-- A word as a beat returns it: lanes that are not enabled are recorded as 0 (log entry 8). -/
def maskLanes (lanes : Lanes) (w : Word64) : Word64 :=
  bytesWord ((wordBytes w).zipIdx.map fun x => if lanes.getLsbD x.2 then x.1 else 0)

/-- Every byte lane enabled. -/
def allLanes : Lanes := 0xFF

/-- A write that is one beat with all eight byte lanes enabled (spec/07 R128). -/
def isFull (w : WriteBurst) : Bool := w.beats == 1 && w.lanes == allLanes

/-! ### Descriptors (spec/11 Table 11-2, R204) -/

/-- The kind a kind byte names; a byte that names none is kept (spec/11 Table 11-2, spec/07 R132). -/
def kindOfByte (b : Byte) : DescriptorKind :=
  if b = 0x01 then .attempt else if b = 0x02 then .release else if b = 0x03 then .query else .unnamed b

/-- The kind byte as written. -/
def DescriptorKind.byte : DescriptorKind → Byte
  | .attempt => 0x01
  | .release => 0x02
  | .query => 0x03
  | .unnamed b => b

/-- The action an action byte names. -/
def actionOfByte (b : Byte) : Option Action :=
  if b = 0x01 then some .decode else if b = 0x02 then some .holdOnly else none

/-- The stop mode a stop_mode byte names. -/
def stopModeOfByte (b : Byte) : Option StopMode :=
  if b = 0x01 then some .full else if b = 0x02 then some .check
  else if b = 0x03 then some .agree else if b = 0x04 then some .either else none

/-- A descriptor from its 32 bytes; in a RELEASE or a QUERY every byte but kind, tag and cookie is handled as 0 (spec/11 R204). -/
def descriptorOfBytes (bs : List Byte) : Descriptor :=
  let kind := kindOfByte (bs.getD 0 0)
  let body := match kind with
    | .attempt | .unnamed _ => bs
    | .release | .query => []
  { kind := kind
    tag := BitVec.ofNat 12 (leNat (field bs 2 2))
    cookie := BitVec.ofNat 32 (leNat (field bs 24 4))
    checksumPresent := (body.getD 1 0).getLsbD 0
    K := leNat (field body 4 2)
    attempt := byteAt body 6
    action := body.getD 7 0
    start := leNat (field body 8 4)
    count := leNat (field body 12 4)
    iterationLimit := byteAt body 16
    stopMode := body.getD 17 0 }

/-- The 32 bytes that a queue entry holds (spec/07 R132): as written, with the bytes and bits that spec/11 R204 ignores at 0. -/
def Descriptor.bytes (d : Descriptor) : List Byte :=
  [d.kind.byte, BitVec.ofNat 8 d.checksumPresent.toNat] ++ leBytes 2 d.tag.toNat ++ leBytes 2 d.K ++
    [BitVec.ofNat 8 d.attempt, d.action] ++ leBytes 4 d.start ++ leBytes 4 d.count ++
    [BitVec.ofNat 8 d.iterationLimit, d.stopMode] ++ List.replicate 6 0 ++ leBytes 4 d.cookie.toNat ++
    List.replicate 4 0

/-- A descriptor from its four SUBMIT words, word 0 first (spec/07 R130). -/
def descriptorOfWords (ws : List Word64) : Descriptor := descriptorOfBytes (ws.flatMap wordBytes)

/-! ### Management arguments (spec/11 Tables 11-9, 11-10, R206) -/

/-- The port a port byte names. -/
def portOfByte (b : Byte) : Option PortId := if h : b.toNat < 4 then some ⟨b.toNat, h⟩ else none

/-- The policy an eviction_policy byte names. -/
def policyOfByte (b : Byte) : Option EvictionPolicy :=
  if b = 0x00 then some .refuse else if b = 0x01 then some .evictOwn else none

/-- The 24 profile bytes as a profile; absent when the eviction_policy byte names no policy. -/
def profileOfBytes (bs : List Byte) : Option Profile :=
  (policyOfByte (bs.getD 11 0)).map fun policy =>
    { reserve := beNat (field bs 0 2), cap := beNat (field bs 2 2), maxContexts := byteAt bs 4,
      maxAttempts := byteAt bs 5, iterationCap := byteAt bs 6, holdLifetime := beNat (field bs 7 2),
      tombstoneLifetime := beNat (field bs 9 2), evictionPolicy := policy, damping := (field bs 12 12).map BitVec.toNat }

/-- Whether a number lies in a range that includes both ends. -/
def inRange (lo hi n : Nat) : Bool := decide (lo ≤ n) && decide (n ≤ hi)

/-- A valid profile (spec/09 R169, Table 9-1). -/
def Profile.valid (f : Profile) : Bool :=
  inRange 1 2048 f.cap && decide (f.reserve ≤ f.cap) && inRange 1 128 f.maxContexts && inRange 1 15 f.maxAttempts &&
    inRange 1 16 f.iterationCap && inRange 1 65535 f.holdLifetime && inRange 0 65535 f.tombstoneLifetime &&
    f.damping.length == 12 && f.damping.all (inRange 0 32)

/-- A valid geometry entry (spec/01 R29). -/
def GeometryEntry.valid (g : GeometryEntry) : Bool :=
  inRange 64 8192 g.K && g.K % 8 == 0 && inRange 1 (g.K - 1) g.permA && Nat.gcd g.permA g.K == 1 &&
    inRange 0 (g.K - 1) g.permB

/-- The Geometry Table's entry for a K (spec/01 R28). -/
def State.geometryOf (s : State) (K : Nat) : Option GeometryEntry := s.geometry.find? fun g => g.K == K

/-- L of a block size (spec/01 R28). -/
def recordLength (K : Nat) : Nat := 3 * K + 16

/-- page_count of a record length, ceil(L / 512) (spec/01 Table 1-1). -/
def pagesFor (L : Nat) : Nat := (L + 511) / 512

end Sys2Proof.Machine
end

