-- ==== Sys2Proof/Machine/Formats.lean ====
section
/-! DEFINITION. The bytes that bus partners read: answer records, replies and the context diagnostic view (spec/11 sections 11.3 and 11.5). -/

namespace Sys2Proof.Machine

/-! ### Answer records (spec/11 Tables 11-4 to 11-7, R205) -/

def DecodeOutcome.code : DecodeOutcome → Byte
  | .pass => 0x01
  | .fail => 0x02
  | .abandoned => 0x03

def RefusalReason.code : RefusalReason → Byte
  | .badKind => 0x01
  | .badSize => 0x02
  | .badAttempt => 0x03
  | .badRange => 0x04
  | .badLimit => 0x05
  | .badStop => 0x06
  | .lengthMismatch => 0x07
  | .keyMismatch => 0x08
  | .tableFull => 0x09
  | .noSpace => 0x0A

/-- Context state codes (spec/11 Table 11-7); FREE also stands for NOT_FOUND in RELEASED. -/
def CtxState.code : CtxState → Byte
  | .free => 0x00
  | .combining => 0x01
  | .queued => 0x02
  | .decoding => 0x03
  | .held => 0x04
  | .solved => 0x05
  | .closing => 0x06

def NoticeKind.code : NoticeKind → Byte
  | .expired => 0x10
  | .evicted => 0x11

/-- The kind code of a record (spec/11 Table 11-5). -/
def AnswerBody.kindCode : AnswerBody → Byte
  | .stored _ _ => 0x01
  | .decoded _ _ _ _ _ _ _ _ => 0x02
  | .superseded _ => 0x03
  | .withdrawn => 0x04
  | .duplicate _ => 0x05
  | .alreadySolved _ => 0x06
  | .damaged => 0x07
  | .refused _ => 0x08
  | .released _ => 0x09
  | .status _ _ _ _ _ _ => 0x0A
  | .notice k _ => k.code

/-- The flags byte of a record (spec/11 Table 11-4): bit 0 gap, bit 1 FINAL. -/
def AnswerBody.flags : AnswerBody → Byte
  | .stored gap _ => BitVec.ofNat 8 gap.toNat
  | .decoded _ _ gap final _ _ _ _ => BitVec.ofNat 8 (gap.toNat + 2 * final.toNat)
  | .superseded _ | .withdrawn | .duplicate _ | .alreadySolved _ | .damaged | .refused _ | .released _
  | .status _ _ _ _ _ _ | .notice _ _ => 0

/-- The body from byte 8 on, less the zeros after it (spec/11 Table 11-5). -/
def AnswerBody.bytes : AnswerBody → List Byte
  | .stored _ n => [BitVec.ofNat 8 n]
  | .decoded outcome iterations _ _ slot len mismatches zeros =>
    [outcome.code, BitVec.ofNat 8 iterations, BitVec.ofNat 8 slot, 0] ++ leBytes 2 len ++ [0, 0] ++
      leBytes 2 mismatches ++ leBytes 2 zeros
  | .superseded n => [BitVec.ofNat 8 n]
  | .withdrawn => []
  | .duplicate n => [BitVec.ofNat 8 n]
  | .alreadySolved n => [BitVec.ofNat 8 n]
  | .damaged => []
  | .refused r => [r.code]
  | .released st => [st.code]
  | .status st K last combined pages ticks =>
    [st.code, 0] ++ leBytes 2 K ++ [BitVec.ofNat 8 last, BitVec.ofNat 8 combined, BitVec.ofNat 8 pages, 0] ++
      leBytes 4 ticks.toNat
  | .notice _ n => [BitVec.ofNat 8 n]

/-- Zeros up to a length. -/
def padTo (n : Nat) (bs : List Byte) : List Byte := bs ++ List.replicate (n - bs.length) 0

/-- The 32 bytes of a record. -/
def Answer.bytes (a : Answer) : List Byte :=
  padTo 32 ([a.body.kindCode, a.body.flags] ++ leBytes 2 a.tag.toNat ++ leBytes 4 a.cookie.toNat ++ a.body.bytes)

/-- The EMPTY record, 32 zeros (spec/11 R205). -/
def emptyRecord : List Byte := List.replicate 32 0

/-- The bytes a read of ANSWER sees: the head record, or EMPTY (spec/08 R160, R162). -/
def Port.headRecord (q : Port) : List Byte :=
  match q.answers with
  | [] => emptyRecord
  | a :: _ => a.bytes

/-- Word i of a record; 0 beyond its four words (spec/08 R161). -/
def recordWord (bs : List Byte) (i : Nat) : Word64 := bytesWord (field bs (8 * i) 8)

/-! ### Replies (spec/11 Tables 11-9 to 11-12, R207) -/

def ResultCode.code : ResultCode → Byte
  | .ok => 0x00
  | .badCommand => 0x01
  | .shortFrame => 0x02
  | .badPort => 0x03
  | .badState => 0x04
  | .badProfile => 0x05
  | .noReserve => 0x06
  | .badGeometry => 0x07
  | .geometryFull => 0x08

def EvictionPolicy.code : EvictionPolicy → Byte
  | .refuse => 0x00
  | .evictOwn => 0x01

/-- Profile bytes (spec/11 Table 11-10). -/
def Profile.bytes (f : Profile) : List Byte :=
  beBytes 2 f.reserve ++ beBytes 2 f.cap ++
    [BitVec.ofNat 8 f.maxContexts, BitVec.ofNat 8 f.maxAttempts, BitVec.ofNat 8 f.iterationCap] ++
    beBytes 2 f.holdLifetime ++ beBytes 2 f.tombstoneLifetime ++ [f.evictionPolicy.code] ++
    f.damping.map (BitVec.ofNat 8)

def PortState.code : PortState → Nat
  | .off => 0
  | .active => 1
  | .draining => 2
  | .resetting _ => 3

/-- Bit 2 of a port's byte in the STATUS_READ reply (spec/11 Table 11-11). -/
def PortState.targetBit : PortState → Nat
  | .resetting .off => 1
  | .resetting .active => 0
  | .off | .active | .draining => 0

/-- A port's byte in the STATUS_READ reply (spec/11 Table 11-11). -/
def State.portByte (s : State) (p : PortId) : Byte :=
  BitVec.ofNat 8 ((s.port p).state.code + 4 * (s.port p).state.targetBit + 16 * (s.causes p).drainDone.toNat +
    32 * (s.causes p).resetDone.toNat)

/-- The STATUS_READ reply data. -/
def State.statusReadData (s : State) : List Byte := s.link.lastResult.code :: allPorts.map s.portByte

/-- The POOL_READ reply data. -/
def State.poolReadData (s : State) : List Byte :=
  beBytes 2 s.pool.freeList.length ++ allPorts.flatMap (fun p => beBytes 2 (s.pool.usageOf p)) ++
    beBytes 1 s.pool.spareList.length ++ beBytes 2 s.pool.retiredList.length ++ beBytes 2 s.pool.shortfall

/-- The six counters, four bytes each. -/
def Counters.bytes (k : Counters) : List Byte :=
  [k.attemptsAdmitted, k.passes, k.failures, k.expiries, k.evictions, k.refusals].flatMap fun v => beBytes 4 v.toNat

/-- The CLOCK_READ reply data. -/
def State.clockReadData (s : State) : List Byte := beBytes 4 s.expiry.clock.toNat ++ beBytes 2 s.expiry.timebase

/-- The GEOMETRY_READ reply data for an index (spec/10 R192). -/
def State.geometryReadData (s : State) (index : Nat) : List Byte :=
  let g := s.geometry.getD index ⟨0, 0, 0⟩
  beBytes 1 s.geometry.length ++ beBytes 2 g.K ++ beBytes 2 g.permA ++ beBytes 2 g.permB

def StopMode.code : StopMode → Byte
  | .full => 0x01
  | .check => 0x02
  | .agree => 0x03
  | .either => 0x04

/-- The flags byte of the diagnostic view (spec/11 Table 11-12, byte 18). -/
def Context.viewFlags (c : Context) : Byte :=
  BitVec.ofNat 8 (c.gap.toNat + 2 * c.pendingDecode.isSome.toNat +
    4 * (match c.pendingDecode with | some d => d.checksumPresent.toNat | none => 0) +
    8 * c.releasePending.isSome.toNat + 16 * c.owedNotice.isSome.toNat + 32 * c.units.du0.toNat +
    64 * c.units.du1.toNat)

/-- Bytes 19 to 24 of the view: pending_decode, 0 when absent. -/
def viewPending : Option PendingDecode → List Byte
  | none => List.replicate 6 0
  | some d => [BitVec.ofNat 8 d.iterationLimit, d.stopMode.code] ++ beBytes 4 d.cookie.toNat

/-- Bytes 33 and 34 of the view: owed_notice, 0 when absent. -/
def viewNotice : Option OwedNotice → List Byte
  | none => [0, 0]
  | some n => [n.kind.code, BitVec.ofNat 8 n.lastAttempt]

/-- The context diagnostic view (spec/11 Table 11-12). -/
def Context.view (index : Byte) (c : Context) : List Byte :=
  [index, c.state.code, BitVec.ofNat 8 c.port.val] ++ beBytes 2 c.tag.toNat ++ beBytes 2 c.K ++ beBytes 2 c.L ++
    [BitVec.ofNat 8 c.pageCount] ++ beBytes 2 c.permA ++ beBytes 2 c.permB ++
    [BitVec.ofNat 8 c.lastAttempt, BitVec.ofNat 8 c.combinedCount, c.viewFlags] ++ viewPending c.pendingDecode ++
    beBytes 4 (match c.releasePending with | some k => k.toNat | none => 0) ++ beBytes 4 c.deadline.toNat ++
    viewNotice c.owedNotice ++ [BitVec.ofNat 8 c.pages.length] ++
    padTo 98 (c.pages.flatMap fun pg => beBytes 2 pg.val)

/-! ### The slot window (spec/08 R166) -/

/-- The word at an offset of the slot window: payload of a HELD slot, 0 otherwise. -/
def Port.slotWord (q : Port) (off : Nat) : Word64 :=
  match q.outSlot (Fin.ofNat 4 ((off - Config.offSlots) / Config.slotBytes)) with
  | .held payload => bytesWord (field payload ((off - Config.offSlots) % Config.slotBytes) 8)
  | .free => 0
  | .reserved => 0

/-- A read beat that is served by its own address (spec/11 R203): payload in the slot window, 0 everywhere else, ANSWER and STATUS included. -/
def Port.beatWord (q : Port) (b : ReadBeat) : Word64 :=
  if Config.offSlots ≤ wordOffset b.addr ∧ wordOffset b.addr < Config.offSlotsEnd then
    maskLanes b.lanes (q.slotWord (wordOffset b.addr))
  else 0

end Sys2Proof.Machine
end

