-- ==== Sys2Proof/Machine/Flags.lean ====
section
/-! DEFINITION. The pins and the STATUS word, computed from the state they show (spec/07 R149, spec/08 R163, spec/10 R190, spec/11 Table 11-8). -/

namespace Sys2Proof.Machine

/-- The level of ANS_N: low while the answer queue holds a record (spec/08 R163). -/
def State.ansN (s : State) (p : PortId) : Bool := (s.port p).answers.isEmpty

/-- The level of ATTN_N: low while at least one cause of any port is set (spec/10 R190). -/
def State.attnN (s : State) : Bool := !allPorts.any fun p => (s.causes p).drainDone || (s.causes p).resetDone

def IntakeState.code : IntakeState → Nat
  | .running => 0
  | .noAnswerSpace => 1
  | .requestSlotBusy => 2
  | .keyOrder => 3

def RequestSlot.code : RequestSlot → Nat
  | .empty => 0
  | .ready _ => 1
  | .keyWait _ => 2

/-- filling_buffer: 0 none, 1 S0, 2 S1 (spec/11 Table 11-8). -/
def Port.fillingCode (q : Port) : Nat :=
  match q.filling? with
  | none => 0
  | some .s0 => 1
  | some .s1 => 2

/-- The FILLING buffer's contents; a FREE buffer's when there is none. -/
def Port.fillingBuffer (q : Port) : Buffer :=
  match q.filling? with
  | none => Buffer.free
  | some b => q.buf b

/-- Output slots HELD. -/
def Port.slotsHeld (q : Port) : Nat :=
  (q.outSlots.toList.filter fun x => match x with | .held _ => true | .free => false | .reserved => false).length

/-- The STATUS word (spec/11 Table 11-8). -/
def Port.statusWord (q : Port) : Word64 :=
  BitVec.ofNat 64 (q.state.code + 2 ^ 2 * q.intake.code + 2 ^ 4 * q.submitDropped.toNat + 2 ^ 5 * q.softDropped.toNat +
    2 ^ 6 * q.assembly.length + 2 ^ 8 * q.queue.length + 2 ^ 14 * q.fillingCode +
    2 ^ 16 * q.fillingBuffer.values.length + 2 ^ 31 * q.fillingBuffer.overrun.toNat + 2 ^ 32 * q.slot.code +
    2 ^ 34 * q.answers.length + 2 ^ 41 * q.reservations + 2 ^ 48 * q.slotsHeld)

end Sys2Proof.Machine
end

