-- ==== Sys2Proof/Machine/Bus.lean ====
section
/-! DEFINITION. The accesses of a client port: SUBMIT, SOFT_DATA, RETURN_SLOT, SELF_RESET, ANSWER, STATUS and every other access (spec/07, spec/08, spec/11 R203). -/

namespace Sys2Proof.Machine

/-- What a meaning answers with. -/
abbrev Result := Host.Outcome State Fault Refusal

/-- The bus answers an access of a port: OKAY, with the read data (spec/07 R128, spec/11 R203). -/
def State.busAnswer (p : PortId) (data : List Word64) (s : State) : State :=
  s.onPort p fun q => { q with bus := ⟨some .okay, data⟩ }

/-! ### Writes (spec/07 R128, R129) -/

/-- Append a complete descriptor, sealing the FILLING buffer to an ATTEMPT; a full queue drops it (spec/07 R131, R135). -/
def Port.appendDescriptor (d : Descriptor) (q : Port) : Port :=
  if Config.queueDepth ≤ q.queue.length then { q with submitDropped := true }
  else
    match d.kind, q.filling? with
    | .attempt, some b =>
      Port.refill { q.setBuf b { q.buf b with state := .sealed } with
        queue := q.queue ++ [⟨d, some b, (q.buf b).values.length, (q.buf b).overrun⟩] }
    | .attempt, none => { q with queue := q.queue ++ [⟨d, none, 0, false⟩] }
    | .release, _ => { q with queue := q.queue ++ [⟨d, none, 0, false⟩] }
    | .query, _ => { q with queue := q.queue ++ [⟨d, none, 0, false⟩] }
    | .unnamed _, _ => { q with queue := q.queue ++ [⟨d, none, 0, false⟩] }

/-- A taken SUBMIT word; the fourth completes the descriptor (spec/07 R130). -/
def Port.takeWord (w : Word64) (q : Port) : Port :=
  if q.assembly.length < 3 then { q with assembly := q.assembly ++ [w] }
  else Port.appendDescriptor (descriptorOfWords (q.assembly ++ [w])) { q with assembly := [] }

/-- A dropped SUBMIT write: a partly assembled descriptor is discarded and the flag set (spec/07 R128, R130). -/
def Port.dropSubmit (q : Port) : Port := { q with assembly := [], submitDropped := true }

/-- A write at SUBMIT, by port state and form (spec/07 R128, Table 7-1). -/
def Port.writeSubmit (w : WriteBurst) (q : Port) : Port :=
  match q.state with
  | .off => q
  | .active => if isFull w then q.takeWord w.data else q.dropSubmit
  | .draining => q.dropSubmit
  | .resetting _ => q.dropSubmit

/-- SUBMIT (spec/07 R130). -/
def execSubmit (p : PortId) (w : WriteBurst) (s : State) : Result :=
  .next ((s.onPort p (·.writeSubmit w)).busAnswer p [])

/-- A taken SOFT_DATA word: eight values into the FILLING buffer, an overrun, or a drop (spec/07 R134). -/
def Port.takeSoft (w : Word64) (q : Port) : Port :=
  match q.filling? with
  | none => { q with softDropped := true }
  | some b =>
    if (q.buf b).values.length + 8 ≤ Config.bufferValues then
      q.setBuf b { q.buf b with values := (q.buf b).values ++ wordBytes w }
    else q.setBuf b { q.buf b with overrun := true }

/-- A write at SOFT_DATA, by port state and form (spec/07 R128, Table 7-1). -/
def Port.writeSoft (w : WriteBurst) (q : Port) : Port :=
  match q.state with
  | .off => q
  | .active => if isFull w then q.takeSoft w.data else { q with softDropped := true }
  | .draining => { q with softDropped := true }
  | .resetting _ => { q with softDropped := true }

/-- SOFT_DATA (spec/07 R134). -/
def execSoftData (p : PortId) (w : WriteBurst) (s : State) : Result :=
  .next ((s.onPort p (·.writeSoft w)).busAnswer p [])

/-- The HELD slot that a number names (spec/08 R167). -/
def Port.heldSlot? (v : Nat) (q : Port) : Option SlotId :=
  if h : v < 4 then
    match q.outSlot ⟨v, h⟩ with
    | .held _ => some ⟨v, h⟩
    | .free => none
    | .reserved => none
  else none

/-- The slot that a write at RETURN_SLOT returns, by port state and form (spec/08 R167). -/
def Port.returned? (w : WriteBurst) (q : Port) : Option SlotId :=
  match q.state with
  | .off => none
  | .active => if isFull w then q.heldSlot? w.data.toNat else none
  | .draining => if isFull w then q.heldSlot? w.data.toNat else none
  | .resetting _ => none

/-- RETURN_SLOT (spec/08 R167); a slot that becomes FREE is a dispatch opportunity (spec/04 R77). -/
def execReturnSlot (p : PortId) (w : WriteBurst) (s : State) : Result :=
  match (s.port p).returned? w with
  | none => .next (s.busAnswer p [])
  | some i => .next (((s.setOutSlot p i .free).setOpportunity true).busAnswer p [])

/-- SELF_RESET: a full single-beat write of 1 in ACTIVE or DRAINING starts a port reset (spec/07 R146). -/
def execSelfReset (p : PortId) (w : WriteBurst) (s : State) : Result :=
  .next ((if isFull w && w.data == 1 then (s.portReset p).getD s else s).busAnswer p [])

/-! ### Reads -/

/-- The effect of a pop (spec/08 R157, R160): the head record leaves; the freed entry goes to the oldest CLOSING context, or, with none, clears a NO_ANSWER_SPACE stall, whose intake reads RUNNING at once (log entry 6). -/
def State.popAnswer (p : PortId) (s : State) : State :=
  let t := s.onPort p fun q => { q with answers := q.answers.tail }
  match (s.port p).closing with
  | [] => t.onPort p fun q => { q with intake := if q.intake = .noAnswerSpace then .running else q.intake }
  | e :: rest =>
    let u := t.onPort p fun q => { q with closing := rest }
    if (s.ctx e).state = .closing then
      match (s.ctx e).owedNotice with
      | none => u.freeContext e
      | some n => (u.post p (noticeAnswer (s.ctx e).tag n)).freeContext e
    else u

/-- Whether a read of ANSWER pops: exactly four beats of all eight lanes (spec/08 R160), and a record to pop. -/
def Port.pops (beats : List Lanes) (q : Port) : Bool :=
  beats == List.replicate 4 allLanes && !q.answers.isEmpty

/-- The data of a read of ANSWER: word i on beat i, 0 beyond word 3 (spec/08 R160 to R162). -/
def Port.answerData (beats : List Lanes) (q : Port) : List Word64 :=
  beats.zipIdx.map fun x => maskLanes x.1 (recordWord q.headRecord x.2)

/-- ANSWER (spec/08 R160 to R162). -/
def execAnswer (p : PortId) (beats : List Lanes) (s : State) : Result :=
  .next ((if (s.port p).pops beats then s.popAnswer p else s).busAnswer p ((s.port p).answerData beats))

/-- STATUS: the enabled lanes of the STATUS word; both sticky flags are cleared; later beats are served by their own addresses (spec/07 R149, R150, spec/11 R203). -/
def execStatus (p : PortId) (lanes : Lanes) (later : List ReadBeat) (s : State) : Result :=
  .next ((s.onPort p fun q => { q with submitDropped := false, softDropped := false }).busAnswer p
    (maskLanes lanes (s.port p).statusWord :: later.map (s.port p).beatWord))

/-- The data of any other access (spec/11 R203, spec/08 R166). -/
def Port.otherData (q : Port) : OtherAccess → List Word64
  | .write _ _ => []
  | .read beats => beats.map q.beatWord

/-- UNMAPPED_WRITE: completed with OKAY, without effect; reads of the slot window return payload (spec/11 R203, spec/08 R166, log entry 9). -/
def execUnmappedWrite (p : PortId) (a : OtherAccess) (s : State) : Result :=
  .next (s.busAnswer p ((s.port p).otherData a))

end Sys2Proof.Machine
end

