-- ==== Sys2Proof/Machine/Intake.lean ====
section
/-! DEFINITION. The intake's try: answer space, the checks of an ATTEMPT, placement, releases and queries (spec/07 sections 7.4 to 7.6, spec/01 section 1.7). -/

namespace Sys2Proof.Machine

/-- Whether a try of a port's intake is due (spec/07 R137, Table 7-3): RUNNING with a descriptor queued, or stalled with the clearing event arrived (log entry 6). -/
def Port.tryDue (q : Port) : Bool :=
  match q.intake with
  | .running => !q.queue.isEmpty
  | .noAnswerSpace => false
  | .requestSlotBusy => q.slot == .empty
  | .keyOrder => if q.headReserved then q.stallSignalled else q.slot == .empty

/-- count rounded up to a multiple of 8 (spec/07 Table 7-4). -/
def roundUp8 (n : Nat) : Nat := (n + 7) / 8 * 8

/-- The checks of an ATTEMPT in the order of spec/07 Table 7-4; the first that fails decides. -/
def State.checkAttempt (s : State) (p : PortId) (x : QueueEntry) : Except RefusalReason Request :=
  let d := x.descriptor
  let f := (s.port p).profile
  match d.kind, actionOfByte d.action with
  | .attempt, some action =>
    match s.geometryOf d.K with
    | none => .error .badSize
    | some _ =>
      if !inRange 1 f.maxAttempts d.attempt then .error .badAttempt
      else if !(decide (d.start < recordLength d.K) && inRange 1 (recordLength d.K) d.count) then .error .badRange
      else if !inRange 1 f.iterationCap d.iterationLimit ||
          (d.iterationLimit == 1 && !d.checksumPresent && action == .decode) then .error .badLimit
      else
        match stopModeOfByte d.stopMode with
        | none => .error .badStop
        | some mode =>
          if (mode == .check || mode == .either) && !d.checksumPresent then .error .badStop
          else
            match x.buffer with
            | none => .error .lengthMismatch
            | some b =>
              if x.valuesReceived != roundUp8 d.count || x.overrun then .error .lengthMismatch
              else
                .ok { tag := d.tag, K := d.K, attempt := d.attempt, start := d.start, count := d.count,
                      checksumPresent := d.checksumPresent, action := action, iterationLimit := d.iterationLimit,
                      stopMode := mode, cookie := d.cookie, buffer := b, valuesReceived := x.valuesReceived }
  | _, _ => .error .badKind

/-- The head has been disposed of: it leaves the queue and the intake is RUNNING (spec/07 R137). -/
def State.disposeHead (p : PortId) (s : State) : State :=
  s.onPort p fun q => { q with queue := q.queue.tail, intake := .running, headReserved := false, stallSignalled := false }

/-- The intake stalls with the head kept (spec/07 Table 7-3). -/
def State.stall (p : PortId) (i : IntakeState) (s : State) : State :=
  s.onPort p fun q => { q with intake := i, stallSignalled := false }

/-- Refuse the ATTEMPT at the head (spec/07 R140). -/
def State.refuseHead (p : PortId) (x : QueueEntry) (r : RefusalReason) (s : State) : State :=
  let t := (((s.post p ⟨x.descriptor.tag, x.descriptor.cookie, .refused r⟩).disposeHead p).countRefusal p)
  match x.buffer with
  | none => t
  | some b => t.freeBuffer p b

/-- Place a valid ATTEMPT in the EMPTY slot, READY or in KEY_WAIT by its key (spec/07 R141, spec/01 R9). -/
def State.placeHead (p : PortId) (r : Request) (s : State) : State :=
  ((s.reserve p).disposeHead p).onPort p fun q =>
    { q with slot := if s.keyBusy p r.tag then .keyWait r else .ready r }

/-- The try of an ATTEMPT, with answer space found (spec/07 R139 to R141). -/
def State.tryAttempt (p : PortId) (x : QueueEntry) (s : State) : State :=
  match s.checkAttempt p x with
  | .error r => s.refuseHead p x r
  | .ok r => if (s.port p).slot = .empty then s.placeHead p r else s.stall p .requestSlotBusy

/-- The view a QUERY is answered with (spec/01 Table 1-5, R27). -/
def State.queryBody (s : State) (p : PortId) (tag : Tag) : AnswerBody :=
  match s.lookup p tag with
  | none => .status .free 0 0 0 0 0
  | some e =>
    let c := s.ctx e
    let ticks : Ticks :=
      match c.state with
      | .held | .solved => if deadlineReached s.expiry.clock c.deadline then 0 else c.deadline - s.expiry.clock
      | .free | .combining | .queued | .decoding | .closing => 0
    .status c.state c.K c.lastAttempt c.combinedCount c.pageCount ticks

/-- Hand a QUERY to the Context Table, which answers it at once (spec/07 R144, spec/01 R27). -/
def State.handQuery (p : PortId) (d : Descriptor) (s : State) : State :=
  ((s.reserve p).postReserved p ⟨d.tag, d.cookie, s.queryBody p d.tag⟩).disposeHead p

/-- RELEASED, with the state found (spec/08 Table 8-2). -/
def releasedAnswer (tag : Tag) (cookie : Cookie) (previous : CtxState) : Answer := ⟨tag, cookie, .released previous⟩

/-- WITHDRAWN to the attempt owed a decode, if there is one (spec/01 R16, R25). -/
def State.withdraw (p : PortId) (c : Context) (s : State) : State :=
  match c.pendingDecode with
  | none => s
  | some d => s.postReserved p ⟨c.tag, d.cookie, .withdrawn⟩

/-- The Context Table's answer to a handed RELEASE whose reservation is made; absent when it is not taken (spec/01 R25, R26). A decode already found damaged leaves its context DECODING until the report, so the RELEASE is taken there too (DESIGN CHOICE, log entry 25). -/
def State.release? (p : PortId) (d : Descriptor) (s : State) : Option State :=
  match s.lookup p d.tag with
  | none => some (s.postReserved p (releasedAnswer d.tag d.cookie .free))
  | some e =>
    let c := s.ctx e
    match c.state with
    | .held => some (((s.expiryRemove e).releasePages e).postReserved p (releasedAnswer d.tag d.cookie .held))
    | .solved => some (((s.expiryRemove e).freeContext e).postReserved p (releasedAnswer d.tag d.cookie .solved))
    | .queued =>
      some ((((s.dispatchRemove p e).withdraw p c).releasePages e).postReserved p
        (releasedAnswer d.tag d.cookie .queued))
    | .combining =>
      match c.releasePending with
      | none => some (s.setCtx e { c with releasePending := some d.cookie })
      | some _ => none
    | .decoding =>
      match c.releasePending with
      | none => some ((s.setCtx e { c with releasePending := some d.cookie }).abandonEntry e)
      | some _ => none
    | .closing => none
    | .free => none

/-- Hand a RELEASE to the Context Table; one that is not taken stays at the head, stalled KEY_ORDER, with its reservation (spec/07 R143, R144). -/
def State.handRelease (p : PortId) (d : Descriptor) (s : State) : State :=
  let t := if (s.port p).headReserved then s else s.reserve p
  match t.release? p d with
  | some u => u.disposeHead p
  | none => (t.onPort p fun q => { q with headReserved := true }).stall p .keyOrder

/-- The tag of the attempt in a combine request slot. -/
def RequestSlot.tag? : RequestSlot → Option Tag
  | .empty => none
  | .ready r => some r.tag
  | .keyWait r => some r.tag

/-- Evaluate the head (spec/07 R138, R143): answer space first, skipped for a RELEASE that holds a reservation; then by kind. -/
def State.tryHead (p : PortId) (x : QueueEntry) (s : State) : State :=
  if !(s.port p).headReserved && !(s.port p).room then s.stall p .noAnswerSpace
  else
    match x.descriptor.kind with
    | .attempt => s.tryAttempt p x
    | .unnamed _ => s.tryAttempt p x
    | .release =>
      if (s.port p).slot.tag? = some x.descriptor.tag then s.stall p .keyOrder else s.handRelease p x.descriptor
    | .query =>
      if (s.port p).slot.tag? = some x.descriptor.tag then s.stall p .keyOrder else s.handQuery p x.descriptor

/-- INTAKE_TRY (spec/07 R137): a try that is not due does not arise (log entry 2). -/
def execIntakeTry (p : PortId) (s : State) : Result :=
  match (s.port p).queue with
  | [] => .next s
  | x :: _ => if (s.port p).tryDue then .next ((s.tryHead p x).settle p) else .next s

end Sys2Proof.Machine
end

