-- ==== Sys2Proof/Machine/Combine.lean ====
section
/-! DEFINITION. The Combine Engine: selection and admission (spec/03 sections 3.1 and 3.2, spec/01 section 1.3, spec/02 section 2.5), clearing and adding (spec/03 sections 3.3 to 3.5), and the ends of a combine (spec/03 section 3.7, spec/01 section 1.4). -/

namespace Sys2Proof.Machine

/-! ### Visits (spec/03 R62) -/

/-- A longest run of values in one page: the first value, how many, and the record position of the first. -/
structure Visit where
  first    : Nat
  length   : Nat
  position : Nat
deriving DecidableEq, Repr

/-- The visits of the values from j on, placed from a record position; fuel bounds their number. -/
def visitsFrom (L : Nat) : Nat → Nat → Nat → Nat → List Visit
  | 0, _, _, _ => []
  | fuel + 1, j, position, left =>
    let n := min (min (Config.pageValues - position % Config.pageValues) (L - position)) left
    if n = 0 then [] else ⟨j, n, position⟩ :: visitsFrom L fuel (j + n) ((position + n) % L) (left - n)

/-- The visits of an attempt into a record of length L (spec/03 R62). -/
def visits (L start count : Nat) : List Visit := visitsFrom L count 0 start count

/-- The page of a context that a visit lies in. -/
def Visit.page? (v : Visit) (pages : List Page) : Option Page := pages[v.position / Config.pageValues]?

/-- The visits of a combine. -/
def Combine.visits (c : Combine) (L : Nat) : List Visit := Machine.visits L c.start c.count

/-- How many visits' writes have ended: the value index stands after their last values (spec/03 R64). -/
def Combine.written (c : Combine) (L : Nat) : Nat :=
  ((c.visits L).filter fun v => decide (v.first + v.length ≤ c.valueIndex)).length

/-- Begin every page read that may begin now (spec/03 R64): the read of visit m begins once fewer than two visits before it lack an ended read, and not while an earlier visit of the same page is unwritten; none while the engine is stopped or its abort has reached its boundary. -/
def Combine.beginReads (L : Nat) (pages : List Page) : Nat → Combine → Combine
  | 0, c => c
  | fuel + 1, c =>
    let m := c.readsEnded + c.openReads.length
    match (c.visits L)[m]? with
    | none => c
    | some v =>
      match v.page? pages with
      | none => c
      | some pg =>
        if c.openReads.length < 2 ∧ c.damaged = [] ∧ c.atBoundary = false ∧
            (((c.visits L).take m).drop (c.written L)).all (fun w => w.page? pages != some pg) then
          Combine.beginReads L pages fuel { c with openReads := c.openReads ++ [pg] }
        else c

/-! ### Admission (spec/01 section 1.3) -/

/-- The attempt leaves the slot and its buffer is read by the engine: the combine record is filled and the engine is BUSY (spec/03 R57). -/
def State.beginCombine (p : PortId) (e : Entry) (r : Request) (fresh : Bool) (s : State) : State :=
  let c : Combine :=
    { port := p, entry := e, cookie := r.cookie, action := r.action, buffer := r.buffer, start := r.start,
      count := r.count, phase := if fresh then .clearing else .adding, clearIndex := 0, valueIndex := 0,
      abortRequested := false, openReads := [], readsEnded := 0, damaged := [], atBoundary := false }
  let c := if fresh then c else c.beginReads (s.ctx e).L (s.ctx e).pages 2
  ((s.setEngine { s.engine with combine := some c }).onPort p fun q =>
    q.setBuf r.buffer { q.buf r.buffer with state := .combining }).countAdmitted p

/-- Answer an attempt without combining it, and free its buffer (spec/01 R14). -/
def State.answerUncombined (p : PortId) (r : Request) (body : AnswerBody) (s : State) : State :=
  (s.postReserved p ⟨r.tag, r.cookie, body⟩).freeBuffer p r.buffer

/-- Refuse an attempt at admission; it counts in REFUSALS (spec/01 R14, spec/10 Table 10-3). -/
def State.refuseUncombined (p : PortId) (r : Request) (why : RefusalReason) (s : State) : State :=
  (s.answerUncombined p r (.refused why)).countRefusal p

/-- pending_decode as an attempt's action leaves it when none was owed (spec/01 R11, R12). -/
def Request.pending (r : Request) : Option PendingDecode :=
  match r.action with
  | .decode => some ⟨r.cookie, r.iterationLimit, r.stopMode, r.checksumPresent⟩
  | .holdOnly => none

/-! #### Eviction (spec/02 section 2.5) -/

/-- An entry is available to a port (spec/01 R11, spec/02 R43). -/
def State.entryAvailable (s : State) (p : PortId) : Bool :=
  s.freeEntry?.isSome && decide (s.contextCount p < (s.port p).profile.maxContexts)

/-- The contexts of a port in one state, in expiry-list order (spec/02 R42). -/
def State.candidates (s : State) (p : PortId) (st : CtxState) : List Entry :=
  s.expiry.list.filter fun e => (s.ctx e).port == p && (s.ctx e).state == st

/-- End tombstones of the port, first in expiry order first, until an entry is available (spec/02 R43 step 1). -/
def State.evictTombstones (p : PortId) : List Entry → State → State
  | [], s => s
  | e :: es, s => if s.entryAvailable p then s else State.evictTombstones p es (s.endTombstone e)

/-- Evict HELD contexts of the port, first in expiry order first, until an entry is available (spec/02 R43 step 2, R45). -/
def State.evictForEntry (p : PortId) : List Entry → State → State
  | [], s => s
  | e :: es, s =>
    if s.entryAvailable p then s else State.evictForEntry p es ((s.endHeld .evicted e).countEviction p)

/-- Evict HELD contexts of the port, first in expiry order first, until the request is granted (spec/02 R44, R45). -/
def State.evictForPages (p : PortId) (n : Nat) : List Entry → State → State
  | [], s => s
  | e :: es, s =>
    if s.grants p n then s else State.evictForPages p n es ((s.endHeld .evicted e).countEviction p)

/-- The eviction procedure for an entry shortage (spec/02 R42, R43). -/
def State.relieveEntries (p : PortId) (s : State) : State :=
  match (s.port p).profile.evictionPolicy with
  | .refuse => s
  | .evictOwn =>
    let t := s.evictTombstones p (s.candidates p .solved)
    t.evictForEntry p (t.candidates p .held)

/-- The test of spec/02 R44: whether the request would be granted with every HELD context of the port given back. -/
def State.evictionCanSucceed (s : State) (p : PortId) (n : Nat) : Bool :=
  let H := ((s.candidates p .held).map fun e => (s.ctx e).pageCount).sum
  s.grantOk p n (s.pool.freeList.length + H) (s.pool.usageOf p - H)

/-- The eviction procedure for a page shortage (spec/02 R42, R44). -/
def State.relievePages (p : PortId) (n : Nat) (s : State) : State :=
  match (s.port p).profile.evictionPolicy with
  | .refuse => s
  | .evictOwn => if s.evictionCanSucceed p n then s.evictForPages p n (s.candidates p .held) else s

/-! #### The three ways to be admitted -/

/-- The context a New attempt opens, with its page list (spec/01 R11). -/
def newContext (p : PortId) (r : Request) (g : GeometryEntry) (pages : List Page) : Context :=
  { Context.free with
    state := .combining, port := p, tag := r.tag, K := g.K, L := recordLength g.K,
    pageCount := pagesFor (recordLength g.K), permA := g.permA, permB := g.permB, pages := pages,
    lastAttempt := r.attempt, combinedCount := 1, gap := decide (1 < r.attempt), pendingDecode := r.pending }

/-- Seek pages for a New attempt and open its context in the lowest-numbered FREE entry (spec/01 R11 step 3, spec/02 R38). -/
def State.openWithPages (p : PortId) (r : Request) (g : GeometryEntry) (s : State) : State :=
  let n := pagesFor (recordLength g.K)
  let t := if s.grants p n then s else s.relievePages p n
  if t.grants p n then
    match t.freeEntry? with
    | none => t.refuseUncombined p r .tableFull
    | some e =>
      ((t.setPool (t.pool.take p n)).setCtx e (newContext p r g (t.pool.freeList.take n))).beginCombine p e r true
  else t.refuseUncombined p r .noSpace

/-- Admit an attempt classified New (spec/01 R11). -/
def State.openNew (p : PortId) (r : Request) (s : State) : State :=
  match s.geometryOf r.K with
  | none => s.refuseUncombined p r .badSize
  | some g =>
    let t := if s.entryAvailable p then s else s.relieveEntries p
    if t.entryAvailable p then t.openWithPages p r g else t.refuseUncombined p r .tableFull

/-- The attempt fields of a context after an admission (spec/01 R12, R13). -/
def Context.admitted (n : Nat) (c : Context) : Context :=
  { c with
    state := .combining, gap := c.gap || decide (c.lastAttempt + 1 < n), lastAttempt := n,
    combinedCount := c.combinedCount + 1 }

/-- Admit an attempt classified Continuing (spec/01 R12). -/
def State.continueHeld (p : PortId) (e : Entry) (r : Request) (s : State) : State :=
  ((s.expiryRemove e).setCtx e
    { (s.ctx e).admitted r.attempt with deadline := 0, pendingDecode := r.pending }).beginCombine p e r false

/-- SUPERSEDED to the attempt whose decode a DECODE merge takes over (spec/01 R13). -/
def State.supersede (p : PortId) (c : Context) (r : Request) (s : State) : State :=
  match r.action, c.pendingDecode with
  | .decode, some d => s.postReserved p ⟨c.tag, d.cookie, .superseded r.attempt⟩
  | .decode, none => s
  | .holdOnly, _ => s

/-- Admit an attempt classified Merge (spec/01 R13). -/
def State.mergeQueued (p : PortId) (e : Entry) (r : Request) (s : State) : State :=
  let c := s.ctx e
  (((s.dispatchRemove p e).supersede p c r).setCtx e
    { c.admitted r.attempt with
      pendingDecode := match r.action with | .decode => r.pending | .holdOnly => c.pendingDecode }).beginCombine
    p e r false

/-- Classification of an attempt taken for admission, in the order of spec/01 Table 1-3, and its admission. -/
def State.admitAttempt (p : PortId) (r : Request) (s : State) : State :=
  match s.lookup p r.tag with
  | none => s.openNew p r
  | some e =>
    let c := s.ctx e
    if r.K ≠ c.K then s.refuseUncombined p r .keyMismatch
    else
      match c.state with
      | .solved => s.answerUncombined p r (.alreadySolved c.lastAttempt)
      | .held =>
        if r.attempt ≤ c.lastAttempt then s.answerUncombined p r (.duplicate c.lastAttempt)
        else s.continueHeld p e r
      | .queued =>
        if r.attempt ≤ c.lastAttempt then s.answerUncombined p r (.duplicate c.lastAttempt)
        else s.mergeQueued p e r
      | .free | .combining | .decoding | .closing => s

/-! ### Selection (spec/03 R54 to R56) -/

/-- The scan order from a pointer (spec/03 R54, spec/04 R77). -/
def scanOrder (p : PortId) : List PortId := [p, p + 1, p + 2, p + 3]

/-- Scan for a READY slot whose key is not busy; READY slots found busy on the way go into KEY_WAIT (spec/03 R54, R55). -/
def State.scanSlots : List PortId → State → State × Option (PortId × Request)
  | [], s => (s, none)
  | p :: ps, s =>
    match (s.port p).slot with
    | .empty => State.scanSlots ps s
    | .keyWait _ => State.scanSlots ps s
    | .ready r =>
      if s.keyBusy p r.tag then State.scanSlots ps (s.onPort p fun q => { q with slot := .keyWait r })
      else (s, some (p, r))

/-- The selected attempt leaves its slot and the pointer moves past its port (spec/03 R54, R56, R57). -/
def State.takeSlot (p : PortId) (s : State) : State :=
  (s.onPort p fun q => { q with slot := .empty }).setEngine { s.engine with pointer := p + 1 }

/-- COMBINE_SELECTION (spec/03 R54): one scan of an IDLE engine, and the admission of the attempt selected. -/
def execCombineSelection (s : State) : Result :=
  match s.engine.combine with
  | some _ => .next s
  | none =>
    match State.scanSlots (scanOrder s.engine.pointer) s with
    | (t, none) => .next t
    | (t, some (p, r)) => .next (((t.takeSlot p).admitAttempt p r).settle p)

/-! ### Clearing and adding (spec/03 R60 to R64) -/

/-- Replace the combine record. -/
def State.setCombine (c : Option Combine) (s : State) : State := s.setEngine { s.engine with combine := c }

/-- Whether the engine may go on with page work: it is not stopped by damage, and no abort has reached its boundary (spec/03 R69, R70). -/
def Combine.working (c : Combine) : Bool := c.damaged.isEmpty && !c.atBoundary

/-- The combine record after a page has been cleared (spec/03 R61, R70): a page boundary, and ADDING after the last page. -/
def Combine.cleared (L : Nat) (pages : List Page) (c : Combine) : Combine :=
  let d := { c with clearIndex := c.clearIndex + 1, atBoundary := c.abortRequested }
  if d.clearIndex < pages.length then d else { d with phase := .adding }.beginReads L pages 2

/-- CLEAR_PAGE_END (spec/03 R61). -/
def execClearPageEnd (s : State) : Result :=
  match s.engine.combine with
  | none => .next s
  | some c =>
    match c.phase, (s.ctx c.entry).pages[c.clearIndex]? with
    | .clearing, some pg =>
      if c.working then
        .next ((s.clearPage pg).setCombine (some (c.cleared (s.ctx c.entry).L (s.ctx c.entry).pages)))
      else .next s
    | .clearing, none => .next s
    | .adding, _ => .next s

/-- The combine record after the oldest open read has ended with its check passed or failed (spec/03 R64, R69). -/
def Combine.readEnded (L : Nat) (pages : List Page) (passed : Bool) (pg : Page) (rest : List Page) (c : Combine) :
    Combine :=
  let d := { c with openReads := rest, readsEnded := c.readsEnded + 1 }
  if passed then d.beginReads L pages 1 else { d with damaged := c.damaged ++ [pg] }

/-- COMBINE_PAGE_READ_END (spec/03 R64, R69). -/
def execCombinePageReadEnd (passed : Bool) (s : State) : Result :=
  match s.engine.combine with
  | none => .next s
  | some c =>
    match c.openReads with
    | [] => .next s
    | pg :: rest =>
      .next (s.setCombine (some (c.readEnded (s.ctx c.entry).L (s.ctx c.entry).pages passed pg rest)))

/-- A staged byte as the engine takes it: -128 is taken as -127 (spec/03 R60). -/
def stagedValue (b : Byte) : Int := if b = 0x80 then -127 else b.toInt

/-- The sum of a stored value and a staged value, held within -127..+127 (spec/03 R63). -/
def addSoft (stored staged : Byte) : Byte := BitVec.ofInt 8 (max (-127) (min 127 (stored.toInt + stagedValue staged)))

/-- Add a visit's values at their positions in its page (spec/03 R63, R64). -/
def Memory.addVisit (m : List Host.Cell) (pg : Page) (v : Visit) (staged : List Byte) : List Host.Cell :=
  let a := pageBase pg + v.position % Config.pageValues
  Memory.writeRange m a (List.zipWith addSoft (Memory.readRange m a v.length) ((staged.drop v.first).take v.length))

/-- The combine record after a visit's write (spec/03 R64, R70): a page boundary. -/
def Combine.visited (L : Nat) (pages : List Page) (v : Visit) (c : Combine) : Combine :=
  { c with valueIndex := v.first + v.length, atBoundary := c.abortRequested }.beginReads L pages 1

/-- VISIT_WRITE_END (spec/03 R64): the write of the first unwritten visit, once its read has ended with the check passed. -/
def execVisitWriteEnd (s : State) : Result :=
  match s.engine.combine with
  | none => .next s
  | some c =>
    let x := s.ctx c.entry
    match (c.visits x.L)[c.written x.L]? with
    | none => .next s
    | some v =>
      match v.page? x.pages with
      | none => .next s
      | some pg =>
        if c.phase = .adding ∧ c.working = true ∧ c.written x.L < c.readsEnded then
          .next ((s.setStore (Memory.addVisit s.store pg v ((s.port c.port).buf c.buffer).values)).setCombine
            (some (c.visited x.L x.pages v)))
        else .next s

/-! ### Ends of a combine (spec/03 section 3.7, spec/01 section 1.4) -/

/-- Whether every value has been added (spec/03 R64, R67). -/
def Combine.allAdded (c : Combine) : Bool := c.phase == .adding && decide (c.count ≤ c.valueIndex)

/-- The engine becomes IDLE and the bound buffer is freed (spec/03 R67, R69, R71). -/
def State.endCombine (c : Combine) (s : State) : State := (s.setCombine none).freeBuffer c.port c.buffer

/-- STORED to a HOLD_ONLY attempt just combined (spec/01 R15, R16). -/
def State.answerStored (c : Combine) (x : Context) (s : State) : State :=
  match c.action with
  | .holdOnly => s.postReserved x.port ⟨x.tag, c.cookie, .stored x.gap x.combinedCount⟩
  | .decode => s

/-- The gap flag after a combine's completion: cleared by STORED (spec/01 R7). -/
def gapAfter (a : Action) (gap : Bool) : Bool :=
  match a with
  | .holdOnly => false
  | .decode => gap

/-- RELEASED to a release that waited for the end of the work (spec/01 R16, R17, R21). -/
def State.answerRelease (x : Context) (previous : CtxState) (s : State) : State :=
  match x.releasePending with
  | none => s
  | some k => s.postReserved x.port (releasedAnswer x.tag k previous)

/-- The context leaves COMBINING at a completion (spec/01 R15, R16). -/
def State.leaveCombining (c : Combine) (x : Context) (s : State) : State :=
  match x.releasePending, x.pendingDecode with
  | some _, _ =>
    (((s.withdraw x.port x).answerStored c x).answerRelease x .combining).releasePages c.entry
  | none, some _ =>
    (((s.answerStored c x).setCtx c.entry { x with state := .queued, gap := gapAfter c.action x.gap }).dispatchAppend
      x.port c.entry).signal x.port x.tag
  | none, none => ((s.answerStored c x).enterHeld c.entry).signal x.port x.tag

/-- COMBINE_COMPLETION (spec/03 R67). -/
def execCombineCompletion (s : State) : Result :=
  match s.engine.combine with
  | none => .next s
  | some c =>
    if c.allAdded = true ∧ c.damaged = [] ∧ c.abortRequested = false ∧ (s.ctx c.entry).state = .combining then
      .next (((s.leaveCombining c (s.ctx c.entry)).endCombine c).settle c.port)
    else .next s

/-- DAMAGED to every attempt owed an answer at damage in a combine (spec/01 R17, spec/03 Table 3-4). -/
def State.answerCombineDamage (c : Combine) (x : Context) (s : State) : State :=
  let t := s.postReserved x.port ⟨x.tag, c.cookie, .damaged⟩
  match c.action, x.pendingDecode with
  | .holdOnly, some d => t.postReserved x.port ⟨x.tag, d.cookie, .damaged⟩
  | .holdOnly, none => t
  | .decode, _ => t

/-- Whether a port is RESETTING, where the owning rules post nothing (spec/08 R153). -/
def PortState.isResetting : PortState → Bool
  | .resetting _ => true
  | .off | .active | .draining => false

/-- COMBINE_DAMAGE (spec/03 R69). -/
def execCombineDamage (s : State) : Result :=
  match s.engine.combine with
  | none => .next s
  | some c =>
    let x := s.ctx c.entry
    if c.damaged ≠ [] ∧ c.openReads = [] ∧ x.state = .combining then
      let t := if (s.port x.port).state.isResetting then s
        else (s.answerCombineDamage c x).answerRelease x .combining
      .next (((t.closeDamaged c.entry c.damaged).endCombine c).settle c.port)
    else .next s

/-- COMBINE_ABORT (spec/03 R71). -/
def execCombineAbort (s : State) : Result :=
  match s.engine.combine with
  | none => .next s
  | some c =>
    if c.atBoundary = true ∧ c.damaged = [] ∧ c.openReads = [] ∧ (s.ctx c.entry).state = .combining then
      .next (((s.releasePages c.entry).endCombine c).settle c.port)
    else .next s

end Sys2Proof.Machine
end

