-- ==== Sys2Proof/Machine/Trellis.lean ====
section
/-! DEFINITION. The arithmetic of a decode: the component code's trellis, its metrics and passes (spec/05 R94 to R98), hard decisions, checksum, agreement and stop evaluation (R99 to R102), measures and payload (R104, R105). -/

namespace Sys2Proof.Machine

/-! ### The component code (spec/05 R95) -/

/-- One branch of a step. A trellis state is a number below 16 whose bit 0 is s1, bit 1 s2, bit 2 s3 and bit 3 s4. -/
structure Branch where
  source : Nat
  input  : Bool
  parity : Bool
  target : Nat
deriving DecidableEq, Repr

/-- The input bit of a termination step, s3 xor s4. -/
def tailInput (σ : Nat) : Bool := xor (σ.testBit 2) (σ.testBit 3)

/-- The feedback bit a: u xor s3 xor s4. -/
def feedback (σ : Nat) (u : Bool) : Bool := xor u (tailInput σ)

/-- The parity bit: a xor s1 xor s2 xor s4. -/
def parityBit (σ : Nat) (u : Bool) : Bool :=
  xor (xor (xor (feedback σ u) (σ.testBit 0)) (σ.testBit 1)) (σ.testBit 3)

/-- The next state a, s1, s2, s3. -/
def nextTrellis (σ : Nat) (u : Bool) : Nat := (2 * σ + (feedback σ u).toNat) % 16

/-- The branch that leaves a state with an input bit. -/
def branchOf (σ : Nat) (u : Bool) : Branch := ⟨σ, u, parityBit σ u, nextTrellis σ u⟩

/-- The branches of an information step. -/
def infoBranches : List Branch := (List.range 16).flatMap fun σ => [branchOf σ false, branchOf σ true]

/-- The branches of a termination step. -/
def tailBranches : List Branch := (List.range 16).map fun σ => branchOf σ (tailInput σ)

/-! ### Metrics (spec/05 R95) -/

/-- The values of one step: x and y from the record, and the a-priori value A. -/
structure StepValues where
  x : Int
  y : Int
  A : Int
deriving DecidableEq, Repr

/-- A value as it stands for bit 0, negated for bit 1. -/
def signed (bit : Bool) (v : Int) : Int := if bit then -v else v

/-- The branch metric. -/
def branchMetric (v : StepValues) (b : Branch) : Int := signed b.input (v.x + v.A) + signed b.parity v.y

/-- The lowest metric held. -/
def metricFloor : Int := -65535

/-- The largest of some metrics. -/
def largest : List Int → Int
  | [] => metricFloor
  | x :: xs => xs.foldl max x

/-- Subtract the largest metric of a boundary, then hold each at the floor. -/
def normalise (m : List Int) : List Int := m.map fun v => max metricFloor (v - largest m)

/-- The metrics of boundary 0, and of the terminated end: state 0 at 0, every other state at the floor. -/
def edgeMetrics : List Int := 0 :: List.replicate 15 metricFloor

/-- The forward metrics one boundary on. -/
def forwardStep (m : List Int) (v : StepValues) : List Int :=
  normalise ((List.range 16).map fun τ =>
    largest ((infoBranches.filter fun b => b.target == τ).map fun b => m.getD b.source 0 + branchMetric v b))

/-- The backward metrics one boundary back. -/
def backwardStep (bs : List Branch) (v : StepValues) (m : List Int) : List Int :=
  normalise ((List.range 16).map fun σ =>
    largest ((bs.filter fun b => b.source == σ).map fun b => m.getD b.target 0 + branchMetric v b))

/-- The forward metrics at the start of each step, and at the end of the last. -/
def forwards : List StepValues → List Int → List (List Int) × List Int
  | [], m => ([], m)
  | v :: vs, m => (m :: (forwards vs (forwardStep m v)).1, (forwards vs (forwardStep m v)).2)

/-- The backward metrics at the start of the first step, and at the end of each step. -/
def backwards (bs : List Branch) : List StepValues → List Int → List Int × List (List Int)
  | [], m => (m, [])
  | v :: vs, m =>
    (backwardStep bs v (backwards bs vs m).1, (backwards bs vs m).1 :: (backwards bs vs m).2)

/-- A signed value held within -1023..+1023 (spec/05 R94). -/
def saturate (v : Int) : Int := max (-1023) (min 1023 v)

/-- One of the two maxima of an information step: forward metric, parity term and backward metric over the branches with an input bit. -/
def bestOver (u : Bool) (v : StepValues) (fw bw : List Int) : Int :=
  largest ((infoBranches.filter fun b => b.input == u).map fun b =>
    fw.getD b.source 0 + signed b.parity v.y + bw.getD b.target 0)

/-- The extrinsic value of an information step, before damping (spec/05 R95). -/
def extrinsicOf (v : StepValues) (fw bw : List Int) : Int :=
  saturate ((bestOver false v fw bw - bestOver true v fw bw).tdiv 2)

/-- The extrinsic values of some steps from their forward and backward metrics. -/
def extrinsics : List StepValues → List (List Int) → List (List Int) → List Int
  | v :: vs, fw :: fws, bw :: bws => extrinsicOf v fw bw :: extrinsics vs fws bws
  | _, _, _ => []

/-! ### A pass (spec/05 R94, R98) -/

/-- The permutation of the second pass (spec/01 R28). -/
def permute (K a b t : Nat) : Nat := (a * t + b) % K

/-- The systematic position that step t of a pass takes. -/
def Job.position (j : Job) (second : Bool) (t : Nat) : Nat := if second then permute j.K j.permA j.permB t else t

/-- The first parity position of a pass. -/
def Job.parityBase (j : Job) (second : Bool) : Nat := if second then 2 * j.K else j.K

/-- The first termination position of a pass. -/
def Job.tailBase (j : Job) (second : Bool) : Nat := if second then 3 * j.K + 8 else 3 * j.K

/-- The values of information step t. -/
def Job.infoStep (j : Job) (record : Array Int) (extrinsic : Array Int) (second : Bool) (t : Nat) : StepValues :=
  { x := record.getD (j.position second t) 0, y := record.getD (j.parityBase second + t) 0,
    A := extrinsic.getD (j.position second t) 0 }

/-- The values of termination step r. -/
def Job.tailStep (j : Job) (record : Array Int) (second : Bool) (r : Nat) : StepValues :=
  { x := record.getD (j.tailBase second + 2 * r) 0, y := record.getD (j.tailBase second + 2 * r + 1) 0, A := 0 }

/-- The values of the information steps from..from+n-1. -/
def Job.infoSteps (j : Job) (record extrinsic : Array Int) (second : Bool) (start n : Nat) : List StepValues :=
  (List.range n).map fun i => j.infoStep record extrinsic second (start + i)

/-- The values of the four termination steps. -/
def Job.tailSteps (j : Job) (record : Array Int) (second : Bool) : List StepValues :=
  (List.range 4).map (j.tailStep record second)

/-- The backward metrics at boundary K. -/
def tailMetrics (tail : List StepValues) : List Int := (backwards tailBranches tail edgeMetrics).1

/-- A pass of one unit: the extrinsic values in step order. -/
def singlePass (info tail : List StepValues) : List Int :=
  extrinsics info (forwards info edgeMetrics).1 (backwards infoBranches info (tailMetrics tail)).2

/-- A pass of the pair: the extrinsic values in step order, and the metrics at boundary K/2 that each unit hands to the other (spec/05 R95, R98). -/
def pairPass (first second tail : List StepValues) (m : PairMetrics) : List Int × PairMetrics :=
  let f0 := forwards first edgeMetrics
  let b0 := backwards infoBranches first m.backward
  let f1 := forwards second m.forward
  let b1 := backwards infoBranches second (tailMetrics tail)
  (extrinsics first f0.1 b0.2 ++ extrinsics second f1.1 b1.2, ⟨f0.2, b1.1⟩)

/-- The weight of half-iteration h and the damped value, rounded toward zero (spec/05 R96). -/
def Job.damp (j : Job) (e : Int) : Int := (e * (j.damping.getD (min j.h 11) 0 : Nat)).tdiv 32

/-- Write values at positions. -/
def scatter {α : Type} (start : Array α) (at_ : List (Nat × α)) : Array α :=
  at_.foldl (fun m x => m.setIfInBounds x.1 x.2) start

/-- What a pass yields: the undamped extrinsic value of each step, and a pair's metrics. -/
def Job.runPass (j : Job) (paired : Bool) (record : Array Int) (second : Bool) : List Int × PairMetrics :=
  let ext := j.extrinsic.toArray
  let tail := j.tailSteps record second
  if paired then
    pairPass (j.infoSteps record ext second 0 (j.K / 2)) (j.infoSteps record ext second (j.K / 2) (j.K - j.K / 2)) tail
      (if second then j.pairMetrics2 else j.pairMetrics1)
  else (singlePass (j.infoSteps record ext second 0 j.K) tail, if second then j.pairMetrics2 else j.pairMetrics1)

/-- The extrinsic store after a pass (spec/05 R94, R96). -/
def Job.storeExtrinsic (j : Job) (second : Bool) (es : List Int) : List Int :=
  (scatter j.extrinsic.toArray (es.zipIdx.map fun x => (j.position second x.2, j.damp x.1))).toList

/-! ### What an iteration yields (spec/05 R99 to R101) -/

/-- The hard decisions after pass 2: bit 1 where systematic value, a-priori value and undamped extrinsic value sum below zero. -/
def Job.decisions (j : Job) (record : Array Int) (es : List Int) : List Bool :=
  let ext := j.extrinsic.toArray
  (scatter (Array.replicate j.K false) (es.zipIdx.map fun x =>
    let v := j.infoStep record ext true x.2
    (j.position true x.2, decide (v.x + v.A + x.1 < 0)))).toList

/-- One bit into the checksum register, stage 0 first (spec/05 R100). -/
def checksumStep (stages : List Bool) (bit : Bool) : List Bool :=
  let feed := xor bit (stages.getD 23 false)
  ((false :: stages).take 24).zipIdx.map fun x =>
    xor x.1 (feed && [0, 3, 8, 11, 17, 22].contains x.2)

/-- The register after some bits. -/
def checksumOf (bits : List Bool) : List Bool := bits.foldl checksumStep (List.replicate 24 false)

/-- Whether the checksum passes: stage 23 against bit K - 24 down to stage 0 against bit K - 1. -/
def checksumPasses (bits : List Bool) : Bool :=
  (checksumOf (bits.take (bits.length - 24))).reverse == bits.drop (bits.length - 24)

/-- Agreement with the previous iteration's decisions (spec/05 R101). -/
def Job.agrees (j : Job) (bits : List Bool) : Bool := j.previous == some bits

/-- The iteration in hand. -/
def Job.iteration (j : Job) : Nat := j.h / 2 + 1

/-- The stop evaluation of a RUNNING decode at an iteration end (spec/05 R102): absent when no step stops the decode. -/
def stopEvaluation (mode : StopMode) (present passes agrees atLimit : Bool) : Option DecodeOutcome :=
  if present && passes && (mode == .check || mode == .either) then some .pass
  else if agrees && (mode == .agree || mode == .either) then
    some (if present then (if passes then .pass else .fail) else .pass)
  else if atLimit then
    some (if present then (if passes then .pass else .fail) else (if agrees then .pass else .fail))
  else none

/-! ### Measures and payload (spec/05 R104, R105) -/

/-- Systematic positions whose nonzero stored value disagrees in sign with the decoded bit. -/
def mismatchCount (systematic : List Int) (bits : List Bool) : Nat :=
  ((systematic.zip bits).filter fun x => (decide (0 < x.1) && x.2) || (decide (x.1 < 0) && !x.2)).length

/-- Systematic positions whose stored value is 0. -/
def zeroCount (systematic : List Int) : Nat := (systematic.filter fun v => v == 0).length

/-- Decoded bits packed least significant bit first. -/
def packBits : List Bool → List Byte
  | b0 :: b1 :: b2 :: b3 :: b4 :: b5 :: b6 :: b7 :: rest => byteOfBits b7 b6 b5 b4 b3 b2 b1 b0 :: packBits rest
  | _ => []

/-- The 1024 bytes written into the slot. -/
def payloadOf (bits : List Bool) : List Byte := padTo Config.slotBytes (packBits bits)

end Sys2Proof.Machine
end

