-- ==== Sys2Proof/Machine/Decoder.lean ====
section
/-! DEFINITION. The Decode Units: page reads and their checks, half-iteration and iteration ends, and the four ends of a decode (spec/05, spec/01 section 1.5). -/

namespace Sys2Proof.Machine

/-! ### Page reads (spec/05 R97, R98) -/

/-- Which part of a pass a unit runs. -/
inductive Part where
  | whole
  | first
  | second
deriving DecidableEq, Repr

/-- The information steps of a part. -/
def Part.steps (K : Nat) : Part → List Nat
  | .whole => List.range K
  | .first => List.range (K / 2)
  | .second => (List.range (K - K / 2)).map (K / 2 + ·)

/-- Whether a part runs the termination steps. -/
def Part.hasTail : Part → Bool
  | .whole => true
  | .first => false
  | .second => true

/-- Whether the half-iteration in hand is pass 2. -/
def Job.second (j : Job) : Bool := j.h % 2 == 1

/-- The record positions that a part of the half-iteration in hand uses. -/
def Job.positions (j : Job) (p : Part) : List Nat :=
  (p.steps j.K).map (j.position j.second) ++ (p.steps j.K).map (j.parityBase j.second + ·) ++
    if p.hasTail then (List.range 8).map (j.tailBase j.second + ·) else []

/-- The pages that a part reads in the half-iteration in hand, in page-list order. -/
def Job.readList (j : Job) (p : Part) : List Page :=
  let used := (j.positions p).map (· / Config.pageValues)
  ((List.range j.pages.length).filter used.contains).filterMap fun i => j.pages[i]?

/-- The reads that open at the start of a half-iteration: the first two. -/
def Job.firstReads (j : Job) (p : Part) : Reads := ⟨0, (j.readList p).take 2⟩

/-- Begin the reads of the half-iteration in hand. -/
def Job.beginReads (paired : Bool) (j : Job) : Job :=
  if paired then { j with reads := j.firstReads .first, readsPartner := j.firstReads .second }
  else { j with reads := j.firstReads .whole, readsPartner := Reads.none }

/-- The reads after the oldest open one has ended: the page two places after it begins when its check passed and no damage has stopped the decode. -/
def Reads.afterEnd (todo rest : List Page) (goOn : Bool) (r : Reads) : Reads :=
  ⟨r.ended + 1, if goOn then rest ++ (todo[r.ended + 2]?).toList else rest⟩

/-- Whether the units are paired. -/
def Units.isPaired : Units → Bool
  | .apart _ _ => false
  | .paired _ => true

/-- The part that a unit runs. -/
def Units.part (us : Units) (u : UnitId) : Part :=
  match us, u with
  | .apart _ _, _ => .whole
  | .paired _, .du0 => .first
  | .paired _, .du1 => .second

/-- The reads of a part. -/
def Job.readsOf (j : Job) : Part → Reads
  | .whole => j.reads
  | .first => j.reads
  | .second => j.readsPartner

def Job.setReads (p : Part) (r : Reads) (j : Job) : Job :=
  match p with
  | .whole => { j with reads := r }
  | .first => { j with reads := r }
  | .second => { j with readsPartner := r }

/-- The record of a decode after the oldest open read of a part has ended (spec/05 R97, R111). -/
def Job.readEnded (p : Part) (passed : Bool) (pg : Page) (rest : List Page) (j : Job) : Job :=
  { j.setReads p ((j.readsOf p).afterEnd (j.readList p) rest (passed && j.damaged.isEmpty)) with
    damaged := if passed then j.damaged else j.damaged ++ [pg] }

/-- DECODE_PAGE_READ_END (spec/05 R97): the oldest open read of the unit ends, and its page is checked. -/
def execDecodePageReadEnd (u : UnitId) (passed : Bool) (s : State) : Result :=
  match s.units.job u with
  | none => .next s
  | some j =>
    match (j.readsOf (s.units.part u)).openReads with
    | [] => .next s
    | pg :: rest => .next (s.setUnits (s.units.setJob u (j.readEnded (s.units.part u) passed pg rest)))

/-- Whether a part has read and passed all its pages. -/
def Job.readsDone (j : Job) (p : Part) : Bool :=
  (j.readsOf p).openReads.isEmpty && (j.readsOf p).ended == (j.readList p).length

/-- Whether the half-iteration in hand can end: every page is read, none is damaged (spec/05 R92, R97). -/
def Job.halfDone (paired : Bool) (j : Job) : Bool :=
  j.damaged.isEmpty && if paired then j.readsDone .first && j.readsDone .second else j.readsDone .whole

/-! ### Ends of a decode -/

/-- The slot and the units as a decode's end leaves them (spec/05 R105, R106, R109, R112), a dispatch opportunity (spec/04 R77). -/
def State.freeDecode (u : UnitId) (j : Job) (slot : OutSlot) (s : State) : State :=
  ((s.setUnits (s.units.clear u)).setOutSlot j.port j.slot slot).setOpportunity true

/-- A decode's values in its DECODED answer (spec/05 R107, spec/08 Table 8-2). -/
def decodedAnswer (x : Context) (cookie : Cookie) (body : AnswerBody) : Answer := ⟨x.tag, cookie, body⟩

/-- The abandon completion (spec/05 R109, spec/01 R21, R24). -/
def State.completeAbandoned (u : UnitId) (j : Job) (s : State) : State :=
  let x := s.ctx j.entry
  let t := s.freeDecode u j .free
  let t := if (s.port x.port).state.isResetting then t
    else (t.postReserved x.port
      (decodedAnswer x j.cookie (.decoded .abandoned ((j.h + 1) / 2) x.gap false 0 0 0 0))).answerRelease x .decoding
  (t.releasePages j.entry).settle j.port

/-- A PASS (spec/05 R106, spec/01 R19): the payload is written, the pages are returned, and the context becomes a tombstone, or FREE when tombstones are not kept. -/
def State.completePass (u : UnitId) (j : Job) (bits : List Bool) (mismatches zeros : Nat) (s : State) : State :=
  let x := s.ctx j.entry
  let t := ((s.freeDecode u j (.held (payloadOf bits))).postReserved x.port
    (decodedAnswer x j.cookie (.decoded .pass j.iteration x.gap false j.slot.val (j.K / 8) mismatches zeros))).countPass
      x.port
  (if (s.port x.port).profile.tombstoneLifetime = 0 then t.releasePages j.entry
    else (((t.giveBack x.port x.pages x.pageCount).enterSolved j.entry).signal x.port x.tag)).settle j.port

/-- A FAIL (spec/05 R106, spec/01 R20): the context is HELD for a further attempt, or FREE with FINAL after the last one. -/
def State.completeFail (u : UnitId) (j : Job) (mismatches zeros : Nat) (s : State) : State :=
  let x := s.ctx j.entry
  let final := decide (x.lastAttempt = (s.port x.port).profile.maxAttempts)
  let t := ((s.freeDecode u j .free).postReserved x.port
    (decodedAnswer x j.cookie (.decoded .fail j.iteration x.gap final 0 0 mismatches zeros))).countFailure x.port
  (if final then t.releasePages j.entry else (t.enterHeld j.entry).signal x.port x.tag).settle j.port

/-- HALF_ITERATION_END (spec/05 R94, R109): the end of pass 1. A STOPPING decode ends here; a RUNNING one goes on with pass 2. -/
def execHalfIterationEnd (u : UnitId) (s : State) : Result :=
  match s.units.job u with
  | none => .next s
  | some j =>
    if j.halfDone s.units.isPaired = true ∧ j.second = false ∧ (s.ctx j.entry).state = .decoding then
      if j.stopping then .next (s.completeAbandoned u j)
      else
        let pass := j.runPass s.units.isPaired (recordValues s.store j.pages j.L).toArray false
        .next (s.setUnits (s.units.setJob u
          ({ j with h := j.h + 1, extrinsic := j.storeExtrinsic false pass.1, pairMetrics1 := pass.2 }.beginReads
            s.units.isPaired)))
    else .next s

/-- The iteration end of a RUNNING decode (spec/05 R99 to R104): stop, or go on with pass 1 of the next iteration. -/
def State.endIteration (u : UnitId) (j : Job) (s : State) : State :=
  let record := recordValues s.store j.pages j.L
  let pass := j.runPass s.units.isPaired record.toArray true
  let bits := j.decisions record.toArray pass.1
  let stop := stopEvaluation j.stopMode j.checksumPresent (checksumPasses bits) (j.agrees bits)
    (j.iteration == j.iterationLimit)
  let systematic := record.take j.K
  match stop with
  | some .pass => s.completePass u j bits (mismatchCount systematic bits) (zeroCount systematic)
  | some .fail => s.completeFail u j (mismatchCount systematic bits) (zeroCount systematic)
  | some .abandoned => s.completeAbandoned u j
  | none =>
    s.setUnits (s.units.setJob u
      ({ j with
        h := j.h + 1, extrinsic := j.storeExtrinsic true pass.1, previous := some bits,
        pairMetrics2 := pass.2 }.beginReads s.units.isPaired))

/-- ITERATION_END (spec/05 R102, R109): the end of pass 2. A STOPPING decode ends without stop evaluation. -/
def execIterationEnd (u : UnitId) (s : State) : Result :=
  match s.units.job u with
  | none => .next s
  | some j =>
    if j.halfDone s.units.isPaired = true ∧ j.second = true ∧ (s.ctx j.entry).state = .decoding then
      if j.stopping then .next (s.completeAbandoned u j) else .next (s.endIteration u j)
    else .next s

/-- DECODE_DAMAGE (spec/05 R112, spec/01 R21): the report of a decode stopped for damage, once its open reads have ended. -/
def execDecodeDamage (u : UnitId) (s : State) : Result :=
  match s.units.job u with
  | none => .next s
  | some j =>
    let x := s.ctx j.entry
    if j.damaged ≠ [] ∧ j.reads.openReads = [] ∧ j.readsPartner.openReads = [] ∧ x.state = .decoding then
      let t := s.freeDecode u j .free
      let t := if (s.port x.port).state.isResetting then t
        else (t.postReserved x.port ⟨x.tag, j.cookie, .damaged⟩).answerRelease x .decoding
      .next ((t.closeDamaged j.entry j.damaged).settle j.port)
    else .next s

end Sys2Proof.Machine
end

