-- ==== Sys2Proof/Machine/Dispatcher.lean ====
section
/-! DEFINITION. The Decode Dispatcher's scans and the dispatch event (spec/04 sections 4.3 to 4.5, spec/05 R93, spec/01 R18). -/

namespace Sys2Proof.Machine

/-- The lowest-numbered FREE output slot of a port (spec/04 R80). -/
def State.freeSlot? (s : State) (p : PortId) : Option SlotId :=
  (List.finRange 4).find? fun i => (s.port p).outSlot i == .free

/-- Whether both units are IDLE. -/
def Units.bothIdle (us : Units) : Bool := us.idle .du0 && us.idle .du1

/-- The lower-numbered IDLE unit (spec/04 R79). -/
def Units.firstIdle? (us : Units) : Option UnitId :=
  if us.idle .du0 then some .du0 else if us.idle .du1 then some .du1 else none

/-- The unit record as a dispatch fills it (spec/05 R93, spec/04 Table 4-2), with the first reads of half-iteration 0 begun. -/
def Job.dispatched (e : Entry) (c : Context) (d : PendingDecode) (damping : List Nat) (slot : SlotId) (paired : Bool) :
    Job :=
  Job.beginReads paired
    { port := c.port, entry := e, K := c.K, L := c.L, permA := c.permA, permB := c.permB, pages := c.pages,
      cookie := d.cookie, iterationLimit := d.iterationLimit, stopMode := d.stopMode,
      checksumPresent := d.checksumPresent, damping := damping, slot := slot, h := 0,
      extrinsic := List.replicate c.K 0, previous := none, stopping := false, reads := Reads.none,
      readsPartner := Reads.none, damaged := [], pairMetrics1 := PairMetrics.start, pairMetrics2 := PairMetrics.start }

/-- The units that a dispatch assigns: one unit, or the pair. -/
inductive Assignment where
  | one (u : UnitId)
  | pair
deriving DecidableEq, Repr

def Assignment.isPair : Assignment → Bool
  | .one _ => false
  | .pair => true

/-- The context's units field after the dispatch (spec/01 R18). -/
def Assignment.unitSet : Assignment → UnitSet
  | .one .du0 => ⟨true, false⟩
  | .one .du1 => ⟨false, true⟩
  | .pair => ⟨true, true⟩

/-- The unit records after the dispatch. -/
def Units.assign (a : Assignment) (j : Job) (us : Units) : Units :=
  match a with
  | .one u => us.setJob u j
  | .pair => .paired j

/-- The dispatch event (spec/04 R81): the head of a port's queue is dispatched with its owed decode, a slot and its units. -/
def State.dispatchHead (p : PortId) (e : Entry) (d : PendingDecode) (slot : SlotId) (a : Assignment) (s : State) :
    State :=
  let c := s.ctx e
  let t := s.setDispatchQueue p (s.dispatchQueue p).tail
  let t := t.setDispatcher { t.dispatcher with mode := .normal, pointer := p + 1 }
  let t := t.setOutSlot p slot .reserved
  let t := t.setUnits (s.units.assign a (Job.dispatched e c d (s.port p).profile.damping slot a.isPair))
  t.setCtx e { c with state := .decoding, units := a.unitSet, pendingDecode := none }

/-- What a scan does with a head (spec/04 Table 4-1). -/
inductive HeadOutcome where
  | passedOver
  | dispatched (e : Entry) (d : PendingDecode) (slot : SlotId) (a : Assignment)
  | pairWait
deriving DecidableEq, Repr

/-- Evaluation of a queue head (spec/04 R78, Table 4-1). -/
def State.evaluateHead (s : State) (p : PortId) : HeadOutcome :=
  match (s.dispatchQueue p).head?, s.freeSlot? p with
  | some e, some slot =>
    match (s.ctx e).state, (s.ctx e).pendingDecode with
    | .queued, some d =>
      if (s.ctx e).K ≤ Config.singleUnitK then
        match s.units.firstIdle? with
        | none => .passedOver
        | some u => .dispatched e d slot (.one u)
      else if s.units.bothIdle then .dispatched e d slot .pair
      else .pairWait
    | _, _ => .passedOver
  | _, _ => .passedOver

/-- One scan in NORMAL over the ports in order, and whether it dispatched a head (spec/04 R77, R82). -/
def State.scanQueues : List PortId → State → State × Bool
  | [], s => (s, false)
  | p :: ps, s =>
    match s.evaluateHead p with
    | .passedOver => State.scanQueues ps s
    | .dispatched e d slot a => (s.dispatchHead p e d slot a, true)
    | .pairWait => (s.setDispatcher { s.dispatcher with mode := .pairWait p }, false)

/-- Scans from the pointer, each from where the last dispatch moved it, until one dispatches nothing or enters PAIR_WAIT; fuel bounds their number (spec/04 R77). -/
def State.scanOn : Nat → State → State
  | 0, s => s
  | fuel + 1, s =>
    match State.scanQueues (scanOrder s.dispatcher.pointer) s with
    | (t, true) => State.scanOn fuel t
    | (t, false) => t

/-- How many scans one opportunity can make: each dispatch takes at least one of the two units, so the third dispatches nothing. -/
def scansAtMost : Nat := 3

/-- The test of an opportunity in PAIR_WAIT (spec/04 R83): with both units IDLE the held head is dispatched on the pair, and the scans of R77 follow from the pointer as moved. -/
def State.tryHeld (p : PortId) (s : State) : State :=
  match s.evaluateHead p with
  | .dispatched e d slot .pair => (s.dispatchHead p e d slot .pair).scanOn scansAtMost
  | .dispatched _ _ _ (.one _) => s
  | .passedOver => s
  | .pairWait => s

/-- What the dispatcher does at an opportunity: it scans in NORMAL, and tests for the pair in PAIR_WAIT (spec/04 R77, R83). -/
def State.handleOpportunity (s : State) : State :=
  match s.dispatcher.mode with
  | .normal => s.scanOn scansAtMost
  | .pairWait p => s.tryHeld p

/-- DISPATCH (spec/04 R77, R81): an outstanding opportunity is handled whole; without one the event does not arise (log entry 2). -/
def execDispatch (s : State) : Result :=
  if s.opportunity then .next (s.handleOpportunity.setOpportunity false) else .next s

end Sys2Proof.Machine
end

