-- ==== Sys2Proof/Machine/HoldClock.lean ====
section
/-! DEFINITION. The hold clock's tick and the taking of expiries (spec/06 R116, R122 to R124). -/

namespace Sys2Proof.Machine

/-- The event of a tick (spec/06 R116). -/
def ExpiryUnit.ticked (x : ExpiryUnit) : ExpiryUnit :=
  { x with clock := x.clock + 1, elapsed := 0, period := x.timebase }

/-- TICK (spec/06 R116): the elapsed count reaches period, and a tick arrives (log entry 5). -/
def execTick (s : State) : Result := .next (s.setExpiry s.expiry.ticked)

/-- One unit of 10000 CLK cycles passes: elapsed grows by one, and the tick arrives when it reaches period (spec/06 R115, R116). -/
def State.unitPasses (s : State) : State :=
  if s.expiry.elapsed + 1 < s.expiry.period then s.setExpiry { s.expiry with elapsed := s.expiry.elapsed + 1 }
  else s.setExpiry s.expiry.ticked

/-- The head of the expiry list, when its expiry is due (spec/06 R122). -/
def State.dueExpiry? (s : State) : Option Entry :=
  match s.expiry.list with
  | [] => none
  | e :: _ => if deadlineReached s.expiry.clock (s.ctx e).deadline then some e else none

/-- EXPIRY_HELD (spec/06 R123): a due HELD head is ended with an EXPIRED notice posted or owed, and counted. -/
def execExpiryHeld (s : State) : Result :=
  match s.dueExpiry? with
  | none => .next s
  | some e =>
    if (s.ctx e).state = .held then .next ((s.endHeld .expired e).countExpiry (s.ctx e).port) else .next s

/-- EXPIRY_TOMBSTONE (spec/06 R124): a due SOLVED head is freed silently. -/
def execExpiryTombstone (s : State) : Result :=
  match s.dueExpiry? with
  | none => .next s
  | some e => if (s.ctx e).state = .solved then .next (s.endTombstone e) else .next s

end Sys2Proof.Machine
end

