-- ==== Sys2Proof/Machine/Management.lean ====
section
/-! DEFINITION. The management frames and the power-on reset (spec/10, spec/09, spec/01 section 1.10, spec/02 R49, spec/06 R117). -/

namespace Sys2Proof.Machine

/-! ### The link (spec/10 R186 to R189) -/

/-- The bits that a frame of n bits shifts out: the reply register, then zeros (spec/10 R187). -/
def misoBits (n : Nat) (reply : List Byte) : List Bool :=
  (reply.flatMap byteBits ++ List.replicate n false).take n

/-- How many bits a frame has: its code byte, the bytes after it, and the spare bits. -/
def frameLength (f : Frame) : Nat := 8 * (1 + f.args.length) + f.spare.length

/-- The reply register of a reply (spec/10 R187, spec/11 R207). -/
def replyOf (code : Byte) (r : ResultCode) (data : List Byte) : List Byte :=
  padTo Config.replyBytes (code :: r.code :: data)

/-- The link at the rise of SEL_N that ends a frame of n bits (spec/10 R187, R189). -/
def Link.answered (n : Nat) (code : Byte) (r : ResultCode) (data : List Byte) (l : Link) : Link :=
  { l with reply := replyOf code r data, lastResult := r, miso := misoBits n l.reply }

def State.answerFrame (n : Nat) (code : Byte) (r : ResultCode) (data : List Byte) (s : State) : State :=
  s.setLink (s.link.answered n code r data)

/-- The decision of a frame (spec/10 R188 step 3): a frame shorter than its command needs is refused SHORT_FRAME; otherwise the command's owner gives the result, the reply data and the state. -/
def State.decideFrame (s : State) (code : Byte) (f : Frame) (need : Nat)
    (owner : ResultCode × List Byte × State) : State :=
  if f.args.length < need then s.answerFrame (frameLength f) code .shortFrame []
  else owner.2.2.answerFrame (frameLength f) code owner.1 owner.2.1

/-- A command for the port its first argument names; other numbers are refused BAD_PORT (spec/11 R206). -/
def State.onPortArgument (s : State) (f : Frame) (k : PortId → ResultCode × List Byte × State) :
    ResultCode × List Byte × State :=
  match portOfByte (f.args.getD 0 0) with
  | none => (.badPort, [], s)
  | some p => k p

/-! ### Status, profiles and geometry -/

/-- STATUS_READ (spec/10 R191): every attention cause is cleared. -/
def execStatusRead (f : Frame) (s : State) : Result :=
  .next (s.decideFrame 0x01 f 0
    (.ok, s.statusReadData, s.setLink { s.link with causes := Vector.replicate 4 Causes.clear }))

/-- The owner's part of PROFILE_WRITE (spec/09 R170). -/
def State.writeProfile (s : State) (bs : List Byte) (p : PortId) : ResultCode × List Byte × State :=
  if (s.port p).state ≠ .off then (.badState, [], s)
  else
    match profileOfBytes bs with
    | none => (.badProfile, [], s)
    | some x => if x.valid then (.ok, [], s.onPort p fun q => { q with profile := x }) else (.badProfile, [], s)

/-- PROFILE_WRITE (spec/09 R170). -/
def execProfileWrite (f : Frame) (s : State) : Result :=
  .next (s.decideFrame 0x02 f 25 (s.onPortArgument f (s.writeProfile (field f.args 1 24))))

/-- PROFILE_READ (spec/09 R171). -/
def execProfileRead (f : Frame) (s : State) : Result :=
  .next (s.decideFrame 0x03 f 1
    (s.onPortArgument f fun p => (.ok, BitVec.ofNat 8 p.val :: (s.port p).profile.bytes, s)))

/-- Put an entry into the table, in ascending order of K; one with the same K is replaced (spec/01 R28, Table 1-7, spec/10 R192). -/
def insertGeometry (g : GeometryEntry) : List GeometryEntry → List GeometryEntry
  | [] => [g]
  | x :: xs => if g.K < x.K then g :: x :: xs else if g.K = x.K then g :: xs else x :: insertGeometry g xs

/-- The entry that a GEOMETRY_WRITE carries. -/
def geometryArgument (bs : List Byte) : GeometryEntry :=
  ⟨beNat (field bs 0 2), beNat (field bs 2 2), beNat (field bs 4 2)⟩

/-- The owner's part of GEOMETRY_WRITE (spec/01 R29, Table 1-7). -/
def State.writeGeometry (s : State) (g : GeometryEntry) : ResultCode × List Byte × State :=
  if !g.valid then (.badGeometry, [], s)
  else
    match s.geometryOf g.K with
    | some _ => (.ok, [], s.setGeometry (insertGeometry g s.geometry))
    | none =>
      if s.geometry.length < Config.geometryEntries then (.ok, [], s.setGeometry (insertGeometry g s.geometry))
      else (.geometryFull, [], s)

/-- GEOMETRY_WRITE (spec/01 R29). -/
def execGeometryWrite (f : Frame) (s : State) : Result :=
  .next (s.decideFrame 0x04 f 6 (s.writeGeometry (geometryArgument f.args)))

/-- GEOMETRY_READ (spec/10 R192). -/
def execGeometryRead (f : Frame) (s : State) : Result :=
  .next (s.decideFrame 0x05 f 1
    (if 127 < byteAt f.args 0 then (.badGeometry, [], s) else (.ok, s.geometryReadData (byteAt f.args 0), s)))

/-- The owner's part of GEOMETRY_DELETE (spec/01 R30). -/
def State.deleteGeometry (s : State) (K : Nat) : ResultCode × List Byte × State :=
  match s.geometryOf K with
  | none => (.badGeometry, [], s)
  | some _ => (.ok, [], s.setGeometry (s.geometry.filter fun g => g.K != K))

/-- GEOMETRY_DELETE (spec/01 R30). -/
def execGeometryDelete (f : Frame) (s : State) : Result :=
  .next (s.decideFrame 0x06 f 2 (s.deleteGeometry (beNat (field f.args 0 2))))

/-! ### The port life cycle -/

/-- The owner's part of PORT_ENABLE (spec/09 R174); the change of state is a dispatch opportunity (spec/04 R77). -/
def State.enablePort (s : State) (p : PortId) : ResultCode × List Byte × State :=
  if (s.port p).state ≠ .off then (.badState, [], s)
  else if !(s.port p).profile.valid then (.badProfile, [], s)
  else if !s.enableTest p then (.noReserve, [], s)
  else (.ok, [], (s.onPort p fun q => { q with state := .active }).setOpportunity true)

/-- PORT_ENABLE (spec/09 R174). -/
def execPortEnable (f : Frame) (s : State) : Result :=
  .next (s.decideFrame 0x08 f 1 (s.onPortArgument f s.enablePort))

/-- A port enters DRAINING (spec/09 R175): the words of a partly assembled descriptor are discarded with SUBMIT_DROPPED set. -/
def Port.drained (q : Port) : Port :=
  { q with state := .draining, assembly := [], submitDropped := q.submitDropped || !q.assembly.isEmpty }

/-- The owner's part of PORT_DISABLE (spec/09 R175): a quiet port closes in the same event. The change of state is a dispatch opportunity (spec/04 R77). -/
def State.disablePort (s : State) (p : PortId) : ResultCode × List Byte × State :=
  if (s.port p).state ≠ .active then (.badState, [], s)
  else (.ok, [], ((s.onPort p Port.drained).setOpportunity true).settle p)

/-- PORT_DISABLE (spec/09 R175). -/
def execPortDisable (f : Frame) (s : State) : Result :=
  .next (s.decideFrame 0x09 f 1 (s.onPortArgument f s.disablePort))

/-- The owner's part of PORT_RESET (spec/09 R180). -/
def State.resetPort (s : State) (p : PortId) : ResultCode × List Byte × State :=
  match s.portReset p with
  | none => (.badState, [], s)
  | some t => (.ok, [], t)

/-- PORT_RESET (spec/09 R180). -/
def execPortReset (f : Frame) (s : State) : Result :=
  .next (s.decideFrame 0x0A f 1 (s.onPortArgument f s.resetPort))

/-- The pool after DEVICE_RESET (spec/02 R34). -/
def Pool.rebuilt (pl : Pool) : Pool :=
  { pl with
    freeList := allPages.filter fun pg => !pl.spareList.contains pg && !pl.retiredList.contains pg
    usage := Vector.replicate 4 0 }

/-- The device after DEVICE_RESET, less the link's answer (spec/10 R193); no dispatch opportunity follows it (spec/04 R89). -/
def State.deviceReset (s : State) : State :=
  { contexts := Vector.replicate 256 Context.free, geometry := s.geometry, pool := s.pool.rebuilt, store := s.store,
    engine := { pointer := 0, combine := none }, dispatcher := Dispatcher.powerOn, opportunity := false, units := .apart none none,
    expiry := { clock := 0, timebase := s.expiry.timebase, period := s.expiry.timebase, elapsed := 0, list := [] },
    ports := s.ports.map fun q => Port.offWith q.profile q.bus
    link := { s.link with causes := Vector.replicate 4 Causes.clear, counters := Vector.replicate 4 Counters.zero }
    pending := s.pending }

/-- DEVICE_RESET (spec/10 R193). -/
def execDeviceReset (f : Frame) (s : State) : Result := .next (s.decideFrame 0x0F f 0 (.ok, [], s.deviceReset))

/-! ### Timebase, diagnostic reads and counters -/

/-- The owner's part of TIMEBASE_WRITE (spec/06 R117). -/
def State.writeTimebase (s : State) (n : Nat) : ResultCode × List Byte × State :=
  if inRange 1 4000 n then (.ok, [], s.setExpiry { s.expiry with timebase := n }) else (.badProfile, [], s)

/-- TIMEBASE_WRITE (spec/06 R117). -/
def execTimebaseWrite (f : Frame) (s : State) : Result :=
  .next (s.decideFrame 0x10 f 2 (s.writeTimebase (beNat (field f.args 0 2))))

/-- POOL_READ (spec/02 R49). -/
def execPoolRead (f : Frame) (s : State) : Result := .next (s.decideFrame 0x11 f 0 (.ok, s.poolReadData, s))

/-- CONTEXT_READ (spec/10 R194). -/
def execContextRead (f : Frame) (s : State) : Result :=
  .next (s.decideFrame 0x12 f 1
    (.ok, (s.ctx (f.args.getD 0 0).toFin).view (f.args.getD 0 0), s))

/-- COUNTERS_READ (spec/10 R198). -/
def execCountersRead (f : Frame) (s : State) : Result :=
  .next (s.decideFrame 0x13 f 1
    (s.onPortArgument f fun p => (.ok, BitVec.ofNat 8 p.val :: (s.counters p).bytes, s)))

/-- COUNTERS_CLEAR (spec/10 R199). -/
def execCountersClear (f : Frame) (s : State) : Result :=
  .next (s.decideFrame 0x14 f 1 (s.onPortArgument f fun p => (.ok, [], s.setCounters p Counters.zero)))

/-- CLOCK_READ (spec/10 R195). -/
def execClockRead (f : Frame) (s : State) : Result := .next (s.decideFrame 0x15 f 0 (.ok, s.clockReadData, s))

/-! ### Refused frames and the power-on reset -/

/-- FRAME_REFUSED (spec/10 R188 steps 1 and 2): SHORT_FRAME with code 0, or BAD_COMMAND with the code as received; a known code is no refused frame (log entry 2). -/
def execFrameRefused (code : Option Byte) (f : Frame) (s : State) : Result :=
  match code with
  | none => .next (s.answerFrame f.spare.length 0 .shortFrame [])
  | some c =>
    match commandOfCode c f with
    | none => .next (s.answerFrame (frameLength f) c .badCommand [])
    | some _ => .next s

/-- POWER_ON_RESET (spec/10 R201): every item at its power-on value; the queue of commands that wait is kept (log entry 21). -/
def execPowerOnReset (s : State) : Result := .next { State.reset with pending := s.pending }

end Sys2Proof.Machine
end

