-- ==== Sys2Proof/Machine/Dispatch.lean ====
section
/-! DEFINITION. The meaning of every command: one arm per row of spec/opcode_table.json. -/

namespace Sys2Proof.Machine

def exec (i : Instr) (s : State) : Host.Outcome State Fault Refusal :=
  match i with
  | .submit p w => Sys2Proof.Machine.execSubmit p w s
  | .softData p w => Sys2Proof.Machine.execSoftData p w s
  | .returnSlot p w => Sys2Proof.Machine.execReturnSlot p w s
  | .selfReset p w => Sys2Proof.Machine.execSelfReset p w s
  | .answer p beats => Sys2Proof.Machine.execAnswer p beats s
  | .status p lanes later => Sys2Proof.Machine.execStatus p lanes later s
  | .unmappedWrite p a => Sys2Proof.Machine.execUnmappedWrite p a s
  | .intakeTry p => Sys2Proof.Machine.execIntakeTry p s
  | .combineSelection => Sys2Proof.Machine.execCombineSelection s
  | .clearPageEnd => Sys2Proof.Machine.execClearPageEnd s
  | .combinePageReadEnd passed => Sys2Proof.Machine.execCombinePageReadEnd passed s
  | .visitWriteEnd => Sys2Proof.Machine.execVisitWriteEnd s
  | .combineCompletion => Sys2Proof.Machine.execCombineCompletion s
  | .combineDamage => Sys2Proof.Machine.execCombineDamage s
  | .combineAbort => Sys2Proof.Machine.execCombineAbort s
  | .dispatch => Sys2Proof.Machine.execDispatch s
  | .decodePageReadEnd u passed => Sys2Proof.Machine.execDecodePageReadEnd u passed s
  | .halfIterationEnd u => Sys2Proof.Machine.execHalfIterationEnd u s
  | .iterationEnd u => Sys2Proof.Machine.execIterationEnd u s
  | .decodeDamage u => Sys2Proof.Machine.execDecodeDamage u s
  | .tick => Sys2Proof.Machine.execTick s
  | .expiryHeld => Sys2Proof.Machine.execExpiryHeld s
  | .expiryTombstone => Sys2Proof.Machine.execExpiryTombstone s
  | .statusRead f => Sys2Proof.Machine.execStatusRead f s
  | .profileWrite f => Sys2Proof.Machine.execProfileWrite f s
  | .profileRead f => Sys2Proof.Machine.execProfileRead f s
  | .geometryWrite f => Sys2Proof.Machine.execGeometryWrite f s
  | .geometryRead f => Sys2Proof.Machine.execGeometryRead f s
  | .geometryDelete f => Sys2Proof.Machine.execGeometryDelete f s
  | .portEnable f => Sys2Proof.Machine.execPortEnable f s
  | .portDisable f => Sys2Proof.Machine.execPortDisable f s
  | .portReset f => Sys2Proof.Machine.execPortReset f s
  | .deviceReset f => Sys2Proof.Machine.execDeviceReset f s
  | .timebaseWrite f => Sys2Proof.Machine.execTimebaseWrite f s
  | .poolRead f => Sys2Proof.Machine.execPoolRead f s
  | .contextRead f => Sys2Proof.Machine.execContextRead f s
  | .countersRead f => Sys2Proof.Machine.execCountersRead f s
  | .countersClear f => Sys2Proof.Machine.execCountersClear f s
  | .clockRead f => Sys2Proof.Machine.execClockRead f s
  | .frameRefused code f => Sys2Proof.Machine.execFrameRefused code f s
  | .powerOnReset => Sys2Proof.Machine.execPowerOnReset s

end Sys2Proof.Machine
end

