-- ==== Sys2Proof/Safety.lean ====
section
/-! DEFINITION. What it means for the device to be in good order: the laws that the spec states of every moment, one definition per law. -/

namespace Sys2Proof.Machine

/-- A step goes on: it answers a next state. -/
def Runs (o : Host.Outcome State Fault Refusal) : Prop := ∃ t, o = .next t

/-! ### Pages (spec/01 R3, spec/02 R32, R35, R46) -/

/-- In how many places a page stands: the three lists of the pool and the page lists of the contexts. -/
def State.pageCopies (s : State) (pg : Page) : Nat :=
  s.pool.freeList.count pg + s.pool.spareList.count pg + s.pool.retiredList.count pg +
    (allEntries.map fun e => (s.ctx e).pages.count pg).sum

/-- The pages held in the page lists of a port's contexts. -/
def State.heldPages (s : State) (p : PortId) : Nat :=
  ((allEntries.filter fun e => (s.ctx e).port == p).map fun e => (s.ctx e).pages.length).sum

/-- The laws of the Page Pool: each page in exactly one place (R32); page lists as long as R3 says; usage as R35 says; and what every retirement keeps (R46). -/
structure PoolLaw (s : State) : Prop where
  onePlace : ∀ pg, s.pageCopies pg = 1
  listLength : ∀ e, (s.ctx e).pages.length = if (s.ctx e).state.holdsPages then (s.ctx e).pageCount else 0
  usage : ∀ p, s.pool.usageOf p = s.heldPages p
  retired : s.pool.spareList.length + s.pool.retiredList.length = 64 + s.pool.shortfall

/-- The soft store is in its one canonical form. -/
def StoreLaw (s : State) : Prop := Memory.wf s.store

/-! ### Contexts (spec/01 R4, R8, Table 1-2) -/

/-- No two entries that are not FREE have the same key (R4). -/
def KeyLaw (s : State) : Prop :=
  ∀ e d, (s.ctx e).state ≠ .free → (s.ctx d).state ≠ .free → (s.ctx e).port = (s.ctx d).port →
    (s.ctx e).tag = (s.ctx d).tag → e = d

/-- A FREE entry holds the values of R8. -/
def FreeLaw (s : State) : Prop := ∀ e, (s.ctx e).state = .free → s.ctx e = Context.free

/-- The states that Table 1-2 allows an optional field in. -/
def mayPend : CtxState → Bool
  | .combining | .queued => true
  | .free | .decoding | .held | .solved | .closing => false

def mayRelease : CtxState → Bool
  | .combining | .decoding => true
  | .free | .queued | .held | .solved | .closing => false

/-- The fields in use by state (Table 1-2), and a decode that a release waits for is STOPPING (R26). -/
structure FieldLaw (s : State) : Prop where
  pending : ∀ e, (s.ctx e).pendingDecode.isSome → mayPend (s.ctx e).state
  release : ∀ e, (s.ctx e).releasePending.isSome → mayRelease (s.ctx e).state
  notice : ∀ e, (s.ctx e).owedNotice.isSome ↔ (s.ctx e).state = .closing
  deadline : ∀ e, (s.ctx e).state ≠ .held → (s.ctx e).state ≠ .solved → (s.ctx e).deadline = 0
  stopping : ∀ u j, s.units.job u = some j → (s.ctx j.entry).releasePending.isSome → j.stopping = true

/-! ### Lists of contexts (spec/01 R23, spec/04 R75, spec/06 R119) -/

/-- A context is in the expiry list exactly when it is HELD or SOLVED, and then once (R119). -/
structure ExpiryLaw (s : State) : Prop where
  once : s.expiry.list.Nodup
  members : ∀ e, e ∈ s.expiry.list ↔ (s.ctx e).state = .held ∨ (s.ctx e).state = .solved

/-- A context is in its port's dispatch queue exactly when it is QUEUED, and then once, with a decode owed (R75); a PAIR_WAIT holds a head (R76). -/
structure DispatchLaw (s : State) : Prop where
  once : ∀ p, (s.dispatchQueue p).Nodup
  members : ∀ p e, e ∈ s.dispatchQueue p ↔ (s.ctx e).state = .queued ∧ (s.ctx e).port = p
  owed : ∀ e, (s.ctx e).state = .queued → (s.ctx e).pendingDecode.isSome
  held : ∀ p, s.dispatcher.mode = .pairWait p → s.dispatchQueue p ≠ []

/-- The closing order of a port is the list of its CLOSING contexts, each once (R23). -/
structure ClosingLaw (s : State) : Prop where
  once : ∀ p, (s.port p).closing.Nodup
  members : ∀ p e, e ∈ (s.port p).closing ↔ (s.ctx e).state = .closing ∧ (s.ctx e).port = p

/-! ### Shared blocks (spec/01 section 1.2, spec/04 R81) -/

/-- Exactly one context is COMBINING while the engine is BUSY, the one of its combine record, and none while it is IDLE; a DECODE attempt being combined leaves a decode owed (R11 to R13). -/
def EngineLaw (s : State) : Prop :=
  match s.engine.combine with
  | none => ∀ e, (s.ctx e).state ≠ .combining
  | some c =>
    (s.ctx c.entry).port = c.port ∧ (∀ e, (s.ctx e).state = .combining ↔ e = c.entry) ∧
      (c.action = .decode → (s.ctx c.entry).pendingDecode.isSome)

/-- The units that decode a context, as the unit records tell. -/
def Units.unitsOf (us : Units) (e : Entry) : UnitSet := ⟨us.assigned .du0 == some e, us.assigned .du1 == some e⟩

/-- A context is DECODING exactly when one unit, or the pair for K above 4096, is assigned to it, and no unit is assigned to more than one context (R81); its units field says which (R18). -/
structure UnitLaw (s : State) : Prop where
  decoding : ∀ e, (s.ctx e).state = .decoding ↔ ∃ u, s.units.assigned u = some e
  port : ∀ u j, s.units.job u = some j → (s.ctx j.entry).port = j.port
  single : ∀ a b, s.units = .apart (some a) (some b) → a.entry ≠ b.entry
  paired : ∀ u j, s.units.job u = some j → (s.units.isPaired = true ↔ 4096 < (s.ctx j.entry).K)
  field : ∀ e, (s.ctx e).units = s.units.unitsOf e

/-! ### Ports (spec/09 R173, R182) -/

/-- A port in OFF has nothing left over (R173), and is in the state of R148 and R168; a RESETTING port keeps only work in shared blocks, which is on its way to an end without completion (R181, R182). -/
structure PortLaw (s : State) : Prop where
  off : ∀ p, (s.port p).state = .off → s.port p = Port.offWith (s.port p).profile (s.port p).bus
  offContexts : ∀ p e, (s.port p).state = .off → (s.ctx e).port = p → (s.ctx e).state = .free
  resetting : ∀ p, (s.port p).state.isResetting = true →
    (s.port p).assembly = [] ∧ (s.port p).queue = [] ∧ (s.port p).slot = .empty ∧ (s.port p).answers = [] ∧
      (s.port p).reservations = 0 ∧ (s.port p).closing = [] ∧ (s.port p).headReserved = false ∧
      ∃ e, (s.ctx e).port = p ∧ inSharedBlock (s.ctx e).state = true
  resettingContexts : ∀ p e, (s.port p).state.isResetting = true → (s.ctx e).port = p → (s.ctx e).state ≠ .free →
    inSharedBlock (s.ctx e).state = true
  resettingEngine : ∀ c, s.engine.combine = some c →
    ((s.port c.port).state.isResetting = true ↔ c.abortRequested = true) ∧ (c.atBoundary = true → c.abortRequested = true)
  resettingUnits : ∀ u j, s.units.job u = some j → (s.port j.port).state.isResetting = true → j.stopping = true

/-! ### Answer space (spec/08 R152, R153) -/

/-- A reservation that a context holds for an answer owed. -/
def Context.owes (c : Context) : Nat := c.pendingDecode.isSome.toNat + c.releasePending.isSome.toNat

/-- The reservation that the Combine Engine's attempt holds: one for a HOLD_ONLY attempt, whose STORED is owed; a DECODE attempt's is counted with pending_decode. -/
def Engine.owes (en : Engine) (p : PortId) : Nat :=
  match en.combine with
  | none => 0
  | some c => if c.port = p ∧ c.action = .holdOnly then 1 else 0

/-- The reservations that decodes in progress hold. -/
def Units.owes (us : Units) (p : PortId) : Nat :=
  match us with
  | .apart a b => (a.any (·.port == p)).toNat + (b.any (·.port == p)).toNat
  | .paired j => (j.port == p).toNat

/-- The answers that a port still owes with a reservation made (R153). -/
def State.owed (s : State) (p : PortId) : Nat :=
  ((s.port p).slot != .empty).toNat + (s.port p).headReserved.toNat +
    ((allEntries.filter fun e => (s.ctx e).port == p).map fun e => (s.ctx e).owes).sum + s.engine.owes p + s.units.owes p

/-- The answer queue never lacks an entry for an owed answer: reservations count what is owed, and records and reservations together fit (R152, R153); a reservation at the head of the queue belongs to a stalled RELEASE (spec/07 R144); and while a context waits in CLOSING no entry is free (R158). -/
structure AnswerLaw (s : State) : Prop where
  reserved : ∀ p, (s.port p).state.isResetting = false → (s.port p).reservations = s.owed p
  fits : ∀ p, (s.port p).answers.length + (s.port p).reservations ≤ 64
  head : ∀ p, (s.port p).headReserved = true →
    (s.port p).intake = .keyOrder ∧ ∃ x rest, (s.port p).queue = x :: rest ∧ x.descriptor.kind = .release
  waiting : ∀ p, (s.port p).closing ≠ [] → (s.port p).answers.length + (s.port p).reservations = 64

/-! ### Attempt numbers and budgets (spec/01 R5, R6, spec/02 R35, R36) -/

/-- The counts that the profile bounds: contexts (R5), attempt numbers (R6), pages (R35), and the reserve law (R36). -/
structure BudgetLaw (s : State) : Prop where
  contexts : ∀ p, s.contextCount p ≤ (s.port p).profile.maxContexts
  attempts : ∀ e, (s.ctx e).state ≠ .free →
    (s.ctx e).combinedCount ≤ (s.ctx e).lastAttempt ∧
      (s.ctx e).lastAttempt ≤ (s.port (s.ctx e).port).profile.maxAttempts
  slot : ∀ p r, ((s.port p).slot = .ready r ∨ (s.port p).slot = .keyWait r) →
    1 ≤ r.attempt ∧ r.attempt ≤ (s.port p).profile.maxAttempts
  cap : ∀ p, s.pool.usageOf p ≤ (s.port p).profile.cap
  reserve : ((allPorts.filter fun p => (s.port p).state.counted).map s.unmet).sum ≤
    s.pool.freeList.length + s.pool.shortfall

/-- Every law at once. -/
structure Laws (s : State) : Prop where
  pool : PoolLaw s
  store : StoreLaw s
  key : KeyLaw s
  free : FreeLaw s
  fields : FieldLaw s
  expiry : ExpiryLaw s
  dispatch : DispatchLaw s
  closing : ClosingLaw s
  engine : EngineLaw s
  units : UnitLaw s
  ports : PortLaw s
  answers : AnswerLaw s
  budget : BudgetLaw s

/-! ### The Geometry Table (spec/01 R28, R29) -/

/-- The Geometry Table holds at most 128 entries in ascending order of K, no K twice (R28), each valid as R29 says. -/
structure GeometryLaw (s : State) : Prop where
  ascending : s.geometry.Pairwise fun a b => a.K < b.K
  room : s.geometry.length ≤ 128
  valid : ∀ g ∈ s.geometry, 64 ≤ g.K ∧ g.K ≤ 8192 ∧ g.K % 8 = 0 ∧ 1 ≤ g.permA ∧ g.permA < g.K ∧
    Nat.gcd g.permA g.K = 1 ∧ g.permB < g.K

/-! ### Decodes (spec/05 R94, R96) -/

/-- The extrinsic store of every decode has one value per systematic position, each within -1023..+1023 (R94), and every damping weight is at most 32 (R96, spec/09 Table 9-1). -/
structure DecodeLaw (s : State) : Prop where
  values : ∀ u j, s.units.job u = some j → j.extrinsic.length = j.K ∧ ∀ e ∈ j.extrinsic, -1023 ≤ e ∧ e ≤ 1023
  weights : ∀ u j, s.units.job u = some j → ∀ w ∈ j.damping, w ≤ 32
  profiles : ∀ p, ∀ w ∈ (s.port p).profile.damping, w ≤ 32

/-! ### Words that statements about events share -/

/-- An entry that is not FREE has the key (p, tag) (spec/01 R4). -/
def State.hasKey (s : State) (e : Entry) (p : PortId) (tag : Tag) : Prop :=
  (s.ctx e).state ≠ .free ∧ (s.ctx e).port = p ∧ (s.ctx e).tag = tag

/-- A READY slot that a scan finds busy goes into KEY_WAIT (spec/03 R55). -/
def Port.waiting (q : Port) : Port :=
  { q with
    slot := match q.slot with
      | .ready r => .keyWait r
      | .keyWait r => .keyWait r
      | .empty => .empty }

/-- The port that a scan reaches after i others (spec/03 R54). -/
def portAfter (pointer : PortId) (i : Fin 4) : PortId := pointer + i

/-- The intake offers a descriptor without a reservation made before (spec/07 Table 7-3). -/
def Port.triesFresh (q : Port) : Prop :=
  q.headReserved = false ∧ (q.intake = .running ∨ ((q.intake = .requestSlotBusy ∨ q.intake = .keyOrder) ∧ q.slot = .empty))

/-- The intake offers a RELEASE again after R9's signal, with the reservation it holds (spec/07 R144). -/
def Port.triesAgain (q : Port) : Prop := q.headReserved = true ∧ q.intake = .keyOrder ∧ q.stallSignalled = true

/-- A port whose head has been disposed of by an answer into the space that its try found or had reserved (spec/07 R137, R144). -/
def Port.disposed (a : Answer) (rest : List QueueEntry) (q : Port) : Port :=
  { q with
    queue := rest, intake := .running, headReserved := false, stallSignalled := false, answers := q.answers ++ [a],
    reservations := if q.headReserved then q.reservations - 1 else q.reservations }

/-- Answers posted into the entries reserved for them (spec/08 R153). -/
def Port.answered (as : List Answer) (q : Port) : Port :=
  { q with answers := q.answers ++ as, reservations := q.reservations - as.length }

/-- An attempt is answered without combining: its answer is posted and its buffer freed (spec/01 R14). -/
def State.answersAlone (p : PortId) (r : Request) (body : AnswerBody) (s : State) : State :=
  s.setPort p (((s.port p).answered [⟨r.tag, r.cookie, body⟩]).freeBuffer r.buffer)

/-- Evict HELD contexts of a port one after the other, each counted (spec/02 R45). -/
def State.evictAll (p : PortId) (es : List Entry) (s : State) : State :=
  es.foldl (fun t e => (t.endHeld .evicted e).countEviction p) s

/-- The dispatch event, part by part (spec/04 R81, Table 4-2, spec/05 R93): the head leaves its queue, the mode is NORMAL and the pointer past the port, the slot is RESERVED, the units are assigned a fresh decode, and the context is DECODING with its owed decode handed over. -/
def State.dispatched (p : PortId) (e : Entry) (d : PendingDecode) (slot : SlotId) (a : Assignment) (s : State) : State :=
  (((s.setDispatcher
    { mode := .normal, pointer := p + 1, queues := s.dispatcher.queues.set p.val (s.dispatchQueue p).tail p.isLt }).setPort p
    ((s.port p).setOutSlot slot .reserved)).setUnits
      (s.units.assign a (Job.beginReads a.isPair
        { port := (s.ctx e).port, entry := e, K := (s.ctx e).K, L := (s.ctx e).L, permA := (s.ctx e).permA,
          permB := (s.ctx e).permB, pages := (s.ctx e).pages, cookie := d.cookie, iterationLimit := d.iterationLimit,
          stopMode := d.stopMode, checksumPresent := d.checksumPresent, damping := (s.port p).profile.damping,
          slot := slot, h := 0, extrinsic := List.replicate (s.ctx e).K 0, previous := none, stopping := false,
          reads := ⟨0, []⟩, readsPartner := ⟨0, []⟩, damaged := [],
          pairMetrics1 := ⟨List.replicate 16 0, List.replicate 16 0⟩,
          pairMetrics2 := ⟨List.replicate 16 0, List.replicate 16 0⟩ }))).setCtx e
    { s.ctx e with state := .decoding, units := a.unitSet, pendingDecode := none }

/-- The scans of one dispatch opportunity, from a state in NORMAL to the state they leave (spec/04 R77): the heads before a port are passed over; the scan ends after the fourth port, or enters PAIR_WAIT at a head, or dispatches a head and is followed by the scans from the pointer as moved. -/
inductive Scans : State → State → Prop
  | passes (s : State) : (∀ p, s.evaluateHead p = .passedOver) → Scans s s
  | waits (s : State) (i : Fin 4) :
    (∀ k, k < i → s.evaluateHead (portAfter s.dispatcher.pointer k) = .passedOver) →
    s.evaluateHead (portAfter s.dispatcher.pointer i) = .pairWait →
    Scans s (s.setDispatcher { s.dispatcher with mode := .pairWait (portAfter s.dispatcher.pointer i) })
  | goesOn (s t : State) (i : Fin 4) (e : Entry) (d : PendingDecode) (slot : SlotId) (a : Assignment) :
    (∀ k, k < i → s.evaluateHead (portAfter s.dispatcher.pointer k) = .passedOver) →
    s.evaluateHead (portAfter s.dispatcher.pointer i) = .dispatched e d slot a →
    Scans (s.dispatched (portAfter s.dispatcher.pointer i) e d slot a) t → Scans s t

/-! ### The trellis (spec/05 R95, R98) -/

/-- The largest of the values that a property names. -/
def IsLargest (P : Int → Prop) (x : Int) : Prop := P x ∧ ∀ y, P y → y ≤ x

/-- The metrics of a boundary, from the sums that reach each of its 16 states: each state takes its largest sum; the largest of the boundary is subtracted from every one, and a metric below -65535 is held there (R95). -/
def BoundaryMetrics (sums : Nat → Int → Prop) (m : List Int) : Prop :=
  m.length = 16 ∧ ∃ (raw : Nat → Int) (top : Int), (∀ σ, σ < 16 → IsLargest (sums σ) (raw σ)) ∧
    IsLargest (fun v => ∃ σ, σ < 16 ∧ v = raw σ) top ∧ ∀ σ, σ < 16 → m.getD σ 0 = max (-65535) (raw σ - top)

/-- Forward metrics over consecutive steps, boundary by boundary from those of the first boundary (R95). -/
def ForwardRun (steps : List StepValues) (start : List Int) (fw : Nat → List Int) : Prop :=
  fw 0 = start ∧ ∀ t v, steps[t]? = some v → fw (t + 1) = forwardStep (fw t) v

/-- Backward metrics over consecutive steps, boundary by boundary down from those of the last boundary (R95). -/
def BackwardRun (branches : List Branch) (steps : List StepValues) (stop : List Int) (bw : Nat → List Int) : Prop :=
  bw steps.length = stop ∧ ∀ t v, steps[t]? = some v → bw t = backwardStep branches v (bw (t + 1))

/-- The extrinsic values of consecutive steps from their forward metrics at the start of each step and their backward metrics at its end (R95). -/
def ExtrinsicRun (steps : List StepValues) (fw bw : Nat → List Int) (es : List Int) : Prop :=
  es.length = steps.length ∧ ∀ t v, steps[t]? = some v → es[t]? = some (extrinsicOf v (fw t) (bw (t + 1)))

/-- A port after an access: OKAY with the read data. -/
def Port.okay (data : List Word64) (q : Port) : Port := { q with bus := ⟨some .okay, data⟩ }

/-- A single-beat write with all eight byte lanes enabled (spec/07 R128). -/
def FullWrite (w : WriteBurst) : Prop := w.beats = 1 ∧ w.lanes = 0xFF

/-- The port's decode or combine in a shared block (spec/09 R183). -/
def State.inFlightWork (s : State) (p : PortId) : Prop :=
  ∃ e, (s.ctx e).port = p ∧ ((s.ctx e).state = .combining ∨ (s.ctx e).state = .decoding)

/-- The contexts that a port reset ends in its event (spec/01 R24). -/
def State.endsAtReset (s : State) (p : PortId) (e : Entry) : Prop :=
  (s.ctx e).port = p ∧
    ((s.ctx e).state = .queued ∨ (s.ctx e).state = .held ∨ (s.ctx e).state = .solved ∨ (s.ctx e).state = .closing)

/-- The port after the event that starts its reset while work of it is in flight (spec/07 R147, spec/08 R168, spec/09 R181). -/
structure PortCleared (q r : Port) (target : ResetTarget) : Prop where
  state : r.state = .resetting target
  profile : r.profile = q.profile
  submission : r.assembly = [] ∧ r.queue = [] ∧ r.slot = .empty ∧ r.intake = .running ∧ r.headReserved = false ∧
    r.stallSignalled = false ∧ r.submitDropped = false ∧ r.softDropped = false
  bus : r.bus = q.bus
  answers : r.answers = [] ∧ r.reservations = 0 ∧ r.closing = []
  slots : ∀ i, r.outSlot i = if q.outSlot i = .reserved then .reserved else .free
  combining0 : q.buf0.state = .combining → r.buf0 = q.buf0
  combining1 : q.buf1.state = .combining → r.buf1 = q.buf1
  lower : q.buf0.state ≠ .combining → r.buf0 = Buffer.filling
  upper : q.buf1.state ≠ .combining → r.buf1 = if q.buf0.state = .combining then Buffer.filling else Buffer.free

/-- What the event that starts a port reset leaves in everything but the port itself (spec/09 R181): contexts (spec/01 R24), pages in ascending order of entry number and the usage they counted in (spec/02 R41), the dispatcher and its opportunity (spec/04 R77, R84), the engine (spec/03 R70), the units (spec/05 R108), the expiry list (spec/06 R121). When every value of the combine is already added, the boundary of its abort is reached at once (log entry 13). A decode that damage has stopped becomes STOPPING like any other until its report (log entry 25). -/
structure ResetEvent (s t : State) (p : PortId) : Prop where
  contexts : ∀ e, (s.endsAtReset p e → t.ctx e = Context.free) ∧ (¬ s.endsAtReset p e → t.ctx e = s.ctx e)
  pages : t.pool.freeList = s.pool.freeList ++
    (allEntries.filter fun e => (s.ctx e).port == p && ((s.ctx e).state == .queued || (s.ctx e).state == .held)).flatMap
      fun e => (s.ctx e).pages
  lists : t.pool.spareList = s.pool.spareList ∧ t.pool.retiredList = s.pool.retiredList ∧
    t.pool.shortfall = s.pool.shortfall
  usage : ∀ r, r ≠ p → t.pool.usageOf r = s.pool.usageOf r
  ownUsage : t.pool.usageOf p = s.pool.usageOf p -
    ((allEntries.filter fun e =>
      (s.ctx e).port == p && ((s.ctx e).state == .queued || (s.ctx e).state == .held)).map
        fun e => (s.ctx e).pageCount).sum
  queue : t.dispatchQueue p = [] ∧ ∀ r, r ≠ p → t.dispatchQueue r = s.dispatchQueue r
  pointer : t.dispatcher.pointer = s.dispatcher.pointer
  mode : t.dispatcher.mode = if s.dispatcher.mode = .pairWait p then .normal else s.dispatcher.mode
  opportunity : t.opportunity = true
  expiry : t.expiry.list.Sublist s.expiry.list ∧
    ∀ e, e ∈ t.expiry.list ↔ e ∈ s.expiry.list ∧ ¬ s.endsAtReset p e
  clock : t.expiry.clock = s.expiry.clock ∧ t.expiry.timebase = s.expiry.timebase ∧
    t.expiry.period = s.expiry.period ∧ t.expiry.elapsed = s.expiry.elapsed
  engine : t.engine.pointer = s.engine.pointer ∧ (s.engine.combine = none → t.engine.combine = none) ∧
    (∀ c, s.engine.combine = some c → c.port ≠ p → t.engine.combine = some c) ∧
    (∀ c, s.engine.combine = some c → c.port = p → t.engine.combine = some
      { c with
        abortRequested := true
        atBoundary := c.atBoundary || (c.phase == .adding && decide (c.count ≤ c.valueIndex)) })
  units : ∀ u, t.units.job u = (s.units.job u).map fun j => if j.port = p then { j with stopping := true } else j
  others : ∀ r, r ≠ p → t.port r = s.port r ∧ t.causes r = s.causes r
  link : t.link = { s.link with causes := t.link.causes }
  rest : t.geometry = s.geometry ∧ t.store = s.store ∧ t.pending = s.pending

/-- How a port stands after the event that starts its reset: RESETTING while work of it is in flight, otherwise in its target with usage 0 and RESET_DONE set (spec/09 R183). -/
structure ResetOutcome (s t : State) (p : PortId) (target : ResetTarget) : Prop where
  inFlight : s.inFlightWork p → PortCleared (s.port p) (t.port p) target ∧ t.causes p = s.causes p
  done : ¬ s.inFlightWork p → t.causes p = { s.causes p with resetDone := true }
  usage : ¬ s.inFlightWork p → PoolLaw s → t.pool.usageOf p = 0
  off : ¬ s.inFlightWork p → target = .off → t.port p = Port.offWith (s.port p).profile (s.port p).bus
  active : ¬ s.inFlightWork p → target = .active →
    ∃ r, PortCleared (s.port p) r .active ∧ t.port p = { r with state := .active }

end Sys2Proof.Machine
end

