-- ==== Sys2Proof/WellFormed.lean ====
section
/-! DEFINITION. Which operands a command can carry: the checks on the terms of Instr that the spec's own forms impose. -/

namespace Sys2Proof

/-- A burst has at least one beat. -/
def WriteBurst.wf (w : WriteBurst) : Bool := decide (0 < w.beats)

/-- Fewer than eight bits follow the last complete byte of a frame (spec/10 R186). -/
def Frame.wf (f : Frame) : Bool := decide (f.spare.length < 8)

/-- Every command code of spec/11 Table 11-9. -/
def commandCodes : List Byte :=
  [0x01, 0x02, 0x03, 0x04, 0x05, 0x06, 0x08, 0x09, 0x0A, 0x0F, 0x10, 0x11, 0x12, 0x13, 0x14, 0x15]

/-- Whether an offset is one of the four write-side registers (spec/11 Table 11-1). -/
def isWriteRegister (off : Nat) : Bool :=
  off == Config.offSubmit || off == Config.offSoftData || off == Config.offReturnSlot || off == Config.offSelfReset

/-- Whether a read that begins at an offset is an ANSWER or a STATUS read (spec/08 R160, spec/11 R203). -/
def isReadRegister (off : Nat) : Bool := off == Config.offAnswer || off == Config.offStatus

/-- An access of the UNMAPPED_WRITE row begins at an offset that no other row takes in its direction. -/
def OtherAccess.wf : OtherAccess → Bool
  | .write addr w => w.wf && !isWriteRegister (wordOffset addr)
  | .read [] => false
  | .read (b :: _) => !isReadRegister (wordOffset b.addr)

/-- A refused frame: no complete byte and so no bytes after it, or a code that names no command (spec/10 R188). -/
def refusedFrameWf (code : Option Byte) (f : Frame) : Bool :=
  match code with
  | none => f.args.isEmpty && f.wf
  | some c => !commandCodes.contains c && f.wf

/-- The well-formed commands. -/
def Instr.wf : Instr → Bool
  | .submit _ w => w.wf
  | .softData _ w => w.wf
  | .returnSlot _ w => w.wf
  | .selfReset _ w => w.wf
  | .answer _ beats => !beats.isEmpty
  | .status _ _ _ => true
  | .unmappedWrite _ a => a.wf
  | .intakeTry _ => true
  | .combineSelection => true
  | .clearPageEnd => true
  | .combinePageReadEnd _ => true
  | .visitWriteEnd => true
  | .combineCompletion => true
  | .combineDamage => true
  | .combineAbort => true
  | .dispatch => true
  | .decodePageReadEnd _ _ => true
  | .halfIterationEnd _ => true
  | .iterationEnd _ => true
  | .decodeDamage _ => true
  | .tick => true
  | .expiryHeld => true
  | .expiryTombstone => true
  | .statusRead f => f.wf
  | .profileWrite f => f.wf
  | .profileRead f => f.wf
  | .geometryWrite f => f.wf
  | .geometryRead f => f.wf
  | .geometryDelete f => f.wf
  | .portEnable f => f.wf
  | .portDisable f => f.wf
  | .portReset f => f.wf
  | .deviceReset f => f.wf
  | .timebaseWrite f => f.wf
  | .poolRead f => f.wf
  | .contextRead f => f.wf
  | .countersRead f => f.wf
  | .countersClear f => f.wf
  | .clockRead f => f.wf
  | .frameRefused c f => refusedFrameWf c f
  | .powerOnReset => true

end Sys2Proof
end

