-- ==== Sys2Proof/Certificates/Slice0/Obligations.lean ====
section
/-! DEFINITION. The statements for the provers: what the rules of spec/ say the commands of the HC-42 do, and the laws that every step keeps. -/

open Sys2Proof Sys2Proof.Machine

/-! ### The queue of commands -/

/-- One step takes the command at the front of the queue and runs it on the state with the queue's rest. -/
def Obligations.StepTakesTheFrontCommand : Prop :=
  ∀ (c : Instr) (rest : List Instr) (s : State), step { s with pending := c :: rest } = exec c { s with pending := rest }

/-- With no command waiting, one unit of 10000 CLK cycles passes (the model's choice, log entry 5): elapsed grows by one, and a tick arrives when it reaches period (spec/06 R115, R116). -/
def Obligations.EmptyQueueLetsOneUnitPass : Prop :=
  ∀ s : State, s.pending = [] →
    (s.expiry.elapsed + 1 < s.expiry.period →
      step s = .next (s.setExpiry { s.expiry with elapsed := s.expiry.elapsed + 1 })) ∧
    (s.expiry.period ≤ s.expiry.elapsed + 1 →
      step s = .next (s.setExpiry
        { s.expiry with clock := s.expiry.clock + 1, elapsed := 0, period := s.expiry.timebase }))

/-- No command stops the device, and none touches the queue of commands that wait. Two parts of this are the model's choices: that the resets leave the waiting commands alone (log entry 21), and that a command whose event does not arise answers the same state (log entry 2). -/
def Obligations.EveryCommandAnswersANextState : Prop :=
  ∀ (c : Instr) (s : State), ∃ t, exec c s = .next t ∧ t.pending = s.pending

/-! ### The laws that every step keeps -/

/-- Every step keeps the laws of the Page Pool: each page in exactly one place, page lists as long as R3 says, usage equal to the pages held; and with them the identity that POOL_READ lets management check, free count, pages held and shortfall add to 2048 (spec/01 R3, spec/02 R32, R35, R49). -/
def Obligations.StepKeepsPoolLaw : Prop :=
  ∀ s t : State, PoolLaw s → step s = .next t →
    PoolLaw t ∧
      t.pool.freeList.length + (allEntries.map fun e => (t.ctx e).pages.length).sum + t.pool.shortfall = 2048 ∧
      (allPorts.map t.pool.usageOf).sum = (allEntries.map fun e => (t.ctx e).pages.length).sum

/-- Every step keeps the soft store in its one canonical form. -/
def Obligations.StepKeepsStoreForm : Prop := ∀ s t : State, StoreLaw s → step s = .next t → StoreLaw t

/-- Every step keeps keys apart, and FREE entries at the values of R8 (spec/01 R4, R8). -/
def Obligations.StepKeepsKeysApart : Prop :=
  ∀ s t : State, KeyLaw s → FreeLaw s → step s = .next t → KeyLaw t ∧ FreeLaw t

/-- Every step keeps the lists that name contexts: the expiry list is exactly the HELD and SOLVED contexts, each once; a dispatch queue exactly the QUEUED contexts of its port, each once and owed a decode, and a PAIR_WAIT holds a head; a closing order exactly the CLOSING contexts of its port, each once (spec/01 R23, spec/04 R75, R76, spec/06 R119). It keeps the Geometry Table too: at most 128 valid entries in ascending order of K, no K twice (spec/01 R28, R29). -/
def Obligations.StepKeepsTheLists : Prop :=
  ∀ s t : State, step s = .next t →
    (ExpiryLaw s → ExpiryLaw t) ∧ (DispatchLaw s → DispatchLaw t) ∧ (GeometryLaw s → GeometryLaw t) ∧
      (Laws s → ClosingLaw t)

/-- Every step keeps one COMBINING context while the engine is BUSY, that of the combine record, and none while it is IDLE (spec/01 section 1.2, spec/03 R53). -/
def Obligations.StepKeepsEngineLaw : Prop := ∀ s t : State, EngineLaw s → step s = .next t → EngineLaw t

/-- Every step keeps the assignment of units: a context is DECODING exactly when a unit, or the pair for K above 4096, is assigned to it, and no unit to two (spec/04 R81, spec/01 R18). -/
def Obligations.StepKeepsUnitAssignment : Prop := ∀ s t : State, UnitLaw s → step s = .next t → UnitLaw t

/-- From a state that keeps every law, a step leaves an OFF port with nothing left over, and a RESETTING port with only work in shared blocks that ends without completion (spec/09 R173, R182). -/
def Obligations.StepKeepsPortLaw : Prop := ∀ s t : State, Laws s → step s = .next t → PortLaw t

/-- From a state that keeps every law, a step leaves reservations equal to the answers owed, and room for each of them (spec/08 R152, R153, R158). -/
def Obligations.StepKeepsAnswerSpace : Prop := ∀ s t : State, Laws s → step s = .next t → AnswerLaw t

/-- From a state that keeps every law, a step leaves the optional fields in the states of Table 1-2 only (spec/01 Table 1-2, R26). -/
def Obligations.StepKeepsFieldsInUse : Prop := ∀ s t : State, Laws s → step s = .next t → FieldLaw t

/-- From a state that keeps every law, a step leaves every budget kept: contexts, attempt numbers, pages and reserves (spec/01 R5, R6, spec/02 R35, R36). -/
def Obligations.StepKeepsBudgets : Prop := ∀ s t : State, Laws s → step s = .next t → BudgetLaw t

/-- Every step keeps every extrinsic store at one value per systematic position, each within -1023..+1023, and every damping weight at most 32 (spec/05 R94, R96). -/
def Obligations.StepKeepsExtrinsicRange : Prop := ∀ s t : State, DecodeLaw s → step s = .next t → DecodeLaw t

/-- Every law holds after reset. -/
def Obligations.ResetKeepsEveryLaw : Prop := Laws State.reset ∧ GeometryLaw State.reset ∧ DecodeLaw State.reset

/-! ### Client port writes (spec/07 R128 to R135, spec/08 R167) -/

/-- A full SUBMIT write to an ACTIVE port is the next word of the descriptor; the fourth completes it, and the descriptor is dropped at a full queue, or appended with the FILLING buffer sealed to it when it is an ATTEMPT (R130, R131, R135). Nothing else changes. -/
def Obligations.SubmitTakesAWord : Prop :=
  ∀ (p : PortId) (w : WriteBurst) (s : State) (q : Port), s.port p = q → q.state = .active → FullWrite w →
    (q.assembly.length < 3 →
      exec (.submit p w) s = .next (s.setPort p (Port.okay [] { q with assembly := q.assembly ++ [w.data] }))) ∧
    (q.assembly.length = 3 → 32 ≤ q.queue.length →
      exec (.submit p w) s = .next (s.setPort p (Port.okay [] { q with assembly := [], submitDropped := true }))) ∧
    ∀ d, d = descriptorOfWords (q.assembly ++ [w.data]) → q.assembly.length = 3 → q.queue.length < 32 →
      ((d.kind ≠ .attempt ∨ (q.buf0.state ≠ .filling ∧ q.buf1.state ≠ .filling)) →
        exec (.submit p w) s =
          .next (s.setPort p (Port.okay [] { q with assembly := [], queue := q.queue ++ [⟨d, none, 0, false⟩] }))) ∧
      (d.kind = .attempt → q.buf0.state = .filling →
        exec (.submit p w) s =
          .next (s.setPort p (Port.okay [] { q with
            assembly := []
            queue := q.queue ++ [⟨d, some .s0, q.buf0.values.length, q.buf0.overrun⟩]
            buf0 := { q.buf0 with state := .sealed }
            buf1 := if q.buf1.state = .free then Buffer.filling else q.buf1 }))) ∧
      (d.kind = .attempt → q.buf0.state ≠ .filling → q.buf1.state = .filling →
        exec (.submit p w) s =
          .next (s.setPort p (Port.okay [] { q with
            assembly := []
            queue := q.queue ++ [⟨d, some .s1, q.buf1.values.length, q.buf1.overrun⟩]
            buf1 := { q.buf1 with state := .sealed }
            buf0 := if q.buf0.state = .free then Buffer.filling else q.buf0 })))

/-- The fields of a complete descriptor by the bytes of Table 11-2; in a RELEASE or QUERY everything but kind, tag and cookie reads as 0. The bytes that a queue entry so holds are the 32 bytes as written, a kind byte that names no kind included, with exactly the bytes and bits that R204 copies into no queue entry at 0 (spec/07 R132, spec/11 Table 11-2, R204). Word i of its four words gives bytes 8i to 8i+7, byte 8i on lane 0 (spec/07 R130, spec/11 R202). An action byte names DECODE or HOLD_ONLY and a stop_mode byte one of four modes; other values name none (spec/11 Table 11-2). -/
def Obligations.DescriptorFields : Prop :=
  (∀ ws : List Word64, ws.length = 4 → ∃ bs : List Byte, bs.length = 32 ∧
    (∀ i k, i < 4 → k < 8 → bs.getD (8 * i + k) 0 = (ws.getD i 0).extractLsb' (8 * k) 8) ∧
    descriptorOfWords ws = descriptorOfBytes bs) ∧
  (∀ (b : Byte) (a : Action),
    actionOfByte b = some a ↔ (b = 0x01 ∧ a = .decode) ∨ (b = 0x02 ∧ a = .holdOnly)) ∧
  (∀ (b : Byte) (m : StopMode),
    stopModeOfByte b = some m ↔
      (b = 0x01 ∧ m = .full) ∨ (b = 0x02 ∧ m = .check) ∨ (b = 0x03 ∧ m = .agree) ∨ (b = 0x04 ∧ m = .either)) ∧
  ∀ bs : List Byte, bs.length = 32 →
    (descriptorOfBytes bs).tag.toNat = byteAt bs 2 + 256 * (byteAt bs 3 % 16) ∧
    (descriptorOfBytes bs).cookie.toNat =
      byteAt bs 24 + 256 * byteAt bs 25 + 65536 * byteAt bs 26 + 16777216 * byteAt bs 27 ∧
    (bs.getD 0 0 = 0x02 ∨ bs.getD 0 0 = 0x03 →
      descriptorOfBytes bs =
        { kind := if bs.getD 0 0 = 0x02 then .release else .query, tag := (descriptorOfBytes bs).tag,
          cookie := (descriptorOfBytes bs).cookie, checksumPresent := false, K := 0, attempt := 0, action := 0,
          start := 0, count := 0, iterationLimit := 0, stopMode := 0 }) ∧
    (bs.getD 0 0 ≠ 0x02 → bs.getD 0 0 ≠ 0x03 →
      descriptorOfBytes bs =
        { kind := if bs.getD 0 0 = 0x01 then .attempt else .unnamed (bs.getD 0 0), tag := (descriptorOfBytes bs).tag,
          cookie := (descriptorOfBytes bs).cookie, checksumPresent := (bs.getD 1 0).getLsbD 0,
          K := byteAt bs 4 + 256 * byteAt bs 5, attempt := byteAt bs 6, action := bs.getD 7 0,
          start := byteAt bs 8 + 256 * byteAt bs 9 + 65536 * byteAt bs 10 + 16777216 * byteAt bs 11,
          count := byteAt bs 12 + 256 * byteAt bs 13 + 65536 * byteAt bs 14 + 16777216 * byteAt bs 15,
          iterationLimit := byteAt bs 16, stopMode := bs.getD 17 0 } ∧
      (descriptorOfBytes bs).bytes =
        [bs.getD 0 0, bs.getD 1 0 &&& 0x01, bs.getD 2 0, bs.getD 3 0 &&& 0x0F] ++ (bs.drop 4).take 14 ++
          List.replicate 6 0 ++ (bs.drop 24).take 4 ++ List.replicate 4 0) ∧
    (bs.getD 0 0 = 0x02 ∨ bs.getD 0 0 = 0x03 →
      (descriptorOfBytes bs).bytes =
        [bs.getD 0 0, 0, bs.getD 2 0, bs.getD 3 0 &&& 0x0F] ++ List.replicate 20 0 ++ (bs.drop 24).take 4 ++
          List.replicate 4 0)

/-- A full SOFT_DATA write to an ACTIVE port stores its eight bytes in the FILLING buffer, byte 0 first; a full buffer takes an overrun, and no FILLING buffer drops the write (R134). Nothing else changes. -/
def Obligations.SoftDataFillsTheBuffer : Prop :=
  (∀ q : Port, (q.filling? = some .s0 ↔ q.buf0.state = .filling) ∧
    (q.filling? = some .s1 ↔ q.buf0.state ≠ .filling ∧ q.buf1.state = .filling)) ∧
  ∀ (p : PortId) (w : WriteBurst) (s : State) (q : Port), s.port p = q → q.state = .active → FullWrite w →
    (q.filling? = none → exec (.softData p w) s = .next (s.setPort p (Port.okay [] { q with softDropped := true }))) ∧
    ∀ b, q.filling? = some b →
      ((q.buf b).values.length ≤ 24584 →
        exec (.softData p w) s =
          .next (s.setPort p (Port.okay [] (q.setBuf b
            { q.buf b with values := (q.buf b).values ++
                [w.data.extractLsb' 0 8, w.data.extractLsb' 8 8, w.data.extractLsb' 16 8, w.data.extractLsb' 24 8,
                 w.data.extractLsb' 32 8, w.data.extractLsb' 40 8, w.data.extractLsb' 48 8,
                 w.data.extractLsb' 56 8] })))) ∧
      (24584 < (q.buf b).values.length →
        exec (.softData p w) s = .next (s.setPort p (Port.okay [] (q.setBuf b { q.buf b with overrun := true }))))

/-- SUBMIT and SOFT_DATA writes that are not taken: ignored in OFF; dropped with their flag in DRAINING and RESETTING, and in ACTIVE when partial or a burst, a dropped SUBMIT also discarding the words taken so far (R128, Table 7-1). -/
def Obligations.WritesNotTaken : Prop :=
  ∀ (p : PortId) (w : WriteBurst) (s : State) (q : Port), s.port p = q →
    (q.state = .off →
      exec (.submit p w) s = .next (s.setPort p (Port.okay [] q)) ∧
        exec (.softData p w) s = .next (s.setPort p (Port.okay [] q))) ∧
    (q.state ≠ .off → (q.state = .active → ¬ FullWrite w) →
      exec (.submit p w) s = .next (s.setPort p (Port.okay [] { q with assembly := [], submitDropped := true })) ∧
        exec (.softData p w) s = .next (s.setPort p (Port.okay [] { q with softDropped := true })))

/-- RETURN_SLOT: a full write in ACTIVE or DRAINING that names a HELD slot frees it, and the freed slot is a dispatch opportunity; every other write to RETURN_SLOT is answered OKAY and changes nothing (R167). -/
def Obligations.ReturnSlotFreesAHeldSlot : Prop :=
  ∀ (p : PortId) (w : WriteBurst) (s : State) (q : Port), s.port p = q →
    (∀ (i : SlotId) (payload : List Byte), (q.state = .active ∨ q.state = .draining) → FullWrite w →
      w.data.toNat = i.val → q.outSlot i = .held payload →
      exec (.returnSlot p w) s = .next ((s.setPort p (Port.okay [] (q.setOutSlot i .free))).setOpportunity true)) ∧
    ((∀ (i : SlotId) (payload : List Byte), (q.state = .active ∨ q.state = .draining) → FullWrite w →
        w.data.toNat = i.val → q.outSlot i ≠ .held payload) →
      exec (.returnSlot p w) s = .next (s.setPort p (Port.okay [] q)))

/-- SELF_RESET and PORT_RESET start the same reset: from ACTIVE with target ACTIVE, from DRAINING with target OFF; a SELF_RESET of another form or state is ignored and changes no result code, and a PORT_RESET in OFF or RESETTING is refused BAD_STATE, one of a port byte of 4 or more BAD_PORT (spec/07 R146, spec/09 R180, R181, R183). The event leaves the reply register, last_result and the last MISO bits to the way it came; usage falls by the pages given back, as a natural number (log entry 22); it is a dispatch opportunity (spec/04 R77). That a combine with every value added is at its boundary at once is the model's reading (log entry 13), and that a decode already found damaged becomes STOPPING like any other until its report is its choice (log entry 25). -/
def Obligations.PortResetEvent : Prop :=
  (∀ (b : Byte) (more : List Byte) (spare : List Bool) (s : State), 4 ≤ b.toNat →
    exec (.portReset ⟨b :: more, spare⟩) s =
      .next (s.answerFrame (frameLength ⟨b :: more, spare⟩) 0x0A .badPort [])) ∧
  (∀ (s : State) (p : PortId) (data : List Word64), s.busAnswer p data = s.setPort p (Port.okay data (s.port p))) ∧
  ∀ (p : PortId) (w : WriteBurst) (b : Byte) (more : List Byte) (spare : List Bool) (s : State), b.toNat = p.val →
    (∀ target, ((s.port p).state = .active ∧ target = .active ∨ (s.port p).state = .draining ∧ target = .off) →
      ∃ t, ResetEvent s t p ∧ ResetOutcome s t p target ∧
        (FullWrite w → w.data = 1 → exec (.selfReset p w) s = .next (t.busAnswer p [])) ∧
        exec (.portReset ⟨b :: more, spare⟩) s =
          .next (t.answerFrame (frameLength ⟨b :: more, spare⟩) 0x0A .ok [])) ∧
    ((s.port p).state ≠ .active → (s.port p).state ≠ .draining →
      exec (.selfReset p w) s = .next (s.busAnswer p []) ∧
        exec (.portReset ⟨b :: more, spare⟩) s =
          .next (s.answerFrame (frameLength ⟨b :: more, spare⟩) 0x0A .badState [])) ∧
    ((¬ FullWrite w ∨ w.data ≠ 1) → exec (.selfReset p w) s = .next (s.busAnswer p []))

/-! ### Client port reads (spec/08 R157 to R162, spec/07 R149, spec/11 R203, R205) -/

/-- A read of ANSWER: four full beats pop the head record and grant the freed entry to the oldest CLOSING context, or else clear a NO_ANSWER_SPACE stall; every other form returns the words of the head record and changes nothing; an empty queue reads 0 (R157, R160 to R162). ANS_N is low while the queue holds a record: a pop of the last record releases it, and one whose entry is granted to a CLOSING context leaves it low (R163). That the intake reads RUNNING at the pop is the model's reading (log entry 6), and that lanes not enabled are recorded as 0 is its choice (log entry 8). -/
def Obligations.AnswerPopsOrPeeks : Prop :=
  ∀ (p : PortId) (s : State) (q : Port), s.port p = q →
    (s.ansN p = false ↔ q.answers ≠ []) ∧
    (∀ a rest data, q.answers = a :: rest → data = (List.range 4).map (recordWord a.bytes) →
      (q.closing = [] →
        exec (.answer p (List.replicate 4 0xFF)) s =
          .next (s.setPort p (Port.okay data { q with
            answers := rest, intake := if q.intake = .noAnswerSpace then .running else q.intake })) ∧
        ∃ t, exec (.answer p (List.replicate 4 0xFF)) s = .next t ∧ (t.ansN p = true ↔ rest = [])) ∧
      (∀ e more n, q.closing = e :: more → (s.ctx e).state = .closing → (s.ctx e).port = p →
        (s.ctx e).owedNotice = some n →
        exec (.answer p (List.replicate 4 0xFF)) s =
          .next ((s.setCtx e Context.free).setPort p (Port.okay data (Port.signalled
            { q with
              answers := rest ++ [⟨(s.ctx e).tag, 0, .notice n.kind n.lastAttempt⟩], closing := more }
            (s.ctx e).tag))) ∧
        ∃ t, exec (.answer p (List.replicate 4 0xFF)) s = .next t ∧ t.ansN p = false) ∧
      ∀ beats, beats ≠ List.replicate 4 0xFF →
        exec (.answer p beats) s =
          .next (s.setPort p (Port.okay (beats.zipIdx.map fun x => maskLanes x.1 (recordWord a.bytes x.2)) q))) ∧
    (q.answers = [] → ∀ beats,
      exec (.answer p beats) s = .next (s.setPort p (Port.okay (beats.map fun _ => 0) q)))

/-- The 32 bytes of a record: its common part, the kind code and body of each of the twelve kinds with their outcome, reason and state codes, and 0 in every byte and flag bit that its kind does not use (spec/11 Tables 11-4 to 11-7, R205); word i holds bytes 8i to 8i+7, byte 8i on lane 0 (spec/08 R160, spec/11 R202), the words beyond word 3 are 0 (spec/08 R161), and a beat returns the bytes of its enabled lanes, the others recorded as 0 (the model's choice, log entry 8). -/
def Obligations.AnswerRecordLayout : Prop :=
  (∀ (lanes : Lanes) (w : Word64) (i : Nat), i < 8 →
    (maskLanes lanes w).extractLsb' (8 * i) 8 = if lanes.getLsbD i then w.extractLsb' (8 * i) 8 else 0) ∧
  (∀ (bs : List Byte) (i k : Nat), k < 8 → (recordWord bs i).extractLsb' (8 * k) 8 = bs.getD (8 * i + k) 0) ∧
  ∀ (tag : Tag) (cookie : Cookie) (body : AnswerBody),
    (∀ i, 4 ≤ i → recordWord (Answer.bytes ⟨tag, cookie, body⟩) i = 0) ∧
    (Answer.bytes ⟨tag, cookie, body⟩).length = 32 ∧
    (Answer.bytes ⟨tag, cookie, body⟩).take 8 =
      [body.kindCode, body.flags, BitVec.ofNat 8 tag.toNat, BitVec.ofNat 8 (tag.toNat / 256), cookie.extractLsb' 0 8,
       cookie.extractLsb' 8 8, cookie.extractLsb' 16 8, cookie.extractLsb' 24 8] ∧
    (∀ gap n, body = .stored gap n →
      body.kindCode = 0x01 ∧ body.flags = (if gap then 1 else 0) ∧
        (Answer.bytes ⟨tag, cookie, body⟩).drop 8 = BitVec.ofNat 8 n :: List.replicate 23 0) ∧
    (∀ outcome i gap final slot len mism zeros, body = .decoded outcome i gap final slot len mism zeros →
      body.kindCode = 0x02 ∧ body.flags = (if gap then 1 else 0) + (if final then 2 else 0) ∧
        (Answer.bytes ⟨tag, cookie, body⟩).drop 8 =
          [outcome.code, BitVec.ofNat 8 i, BitVec.ofNat 8 slot, 0, BitVec.ofNat 8 len, BitVec.ofNat 8 (len / 256), 0, 0,
           BitVec.ofNat 8 mism, BitVec.ofNat 8 (mism / 256), BitVec.ofNat 8 zeros, BitVec.ofNat 8 (zeros / 256)] ++
            List.replicate 12 0) ∧
    (∀ n, (body = .superseded n → body.kindCode = 0x03) ∧ (body = .duplicate n → body.kindCode = 0x05) ∧
      (body = .alreadySolved n → body.kindCode = 0x06) ∧ (body = .notice .expired n → body.kindCode = 0x10) ∧
      (body = .notice .evicted n → body.kindCode = 0x11) ∧
      (body = .superseded n ∨ body = .duplicate n ∨ body = .alreadySolved n ∨ body = .notice .expired n ∨
          body = .notice .evicted n →
        body.flags = 0 ∧ (Answer.bytes ⟨tag, cookie, body⟩).drop 8 = BitVec.ofNat 8 n :: List.replicate 23 0)) ∧
    (body = .withdrawn → body.kindCode = 0x04) ∧ (body = .damaged → body.kindCode = 0x07) ∧
    (body = .damaged ∨ body = .withdrawn →
      body.flags = 0 ∧ (Answer.bytes ⟨tag, cookie, body⟩).drop 8 = List.replicate 24 0) ∧
    (∀ r, body = .refused r →
      body.kindCode = 0x08 ∧ body.flags = 0 ∧
        (Answer.bytes ⟨tag, cookie, body⟩).drop 8 = r.code :: List.replicate 23 0) ∧
    (∀ previous, body = .released previous →
      body.kindCode = 0x09 ∧ body.flags = 0 ∧
        (Answer.bytes ⟨tag, cookie, body⟩).drop 8 = previous.code :: List.replicate 23 0) ∧
    (∀ state K last combined pages ticks, body = .status state K last combined pages ticks →
      body.kindCode = 0x0A ∧ body.flags = 0 ∧
        (Answer.bytes ⟨tag, cookie, body⟩).drop 8 =
          [state.code, 0, BitVec.ofNat 8 K, BitVec.ofNat 8 (K / 256), BitVec.ofNat 8 last, BitVec.ofNat 8 combined,
           BitVec.ofNat 8 pages, 0, ticks.extractLsb' 0 8, ticks.extractLsb' 8 8, ticks.extractLsb' 16 8,
           ticks.extractLsb' 24 8] ++ List.replicate 12 0) ∧
    DecodeOutcome.pass.code = 0x01 ∧ DecodeOutcome.fail.code = 0x02 ∧ DecodeOutcome.abandoned.code = 0x03 ∧
    RefusalReason.badKind.code = 0x01 ∧ RefusalReason.badSize.code = 0x02 ∧ RefusalReason.badAttempt.code = 0x03 ∧
    RefusalReason.badRange.code = 0x04 ∧ RefusalReason.badLimit.code = 0x05 ∧ RefusalReason.badStop.code = 0x06 ∧
    RefusalReason.lengthMismatch.code = 0x07 ∧ RefusalReason.keyMismatch.code = 0x08 ∧
    RefusalReason.tableFull.code = 0x09 ∧ RefusalReason.noSpace.code = 0x0A ∧
    CtxState.free.code = 0x00 ∧ CtxState.combining.code = 0x01 ∧ CtxState.queued.code = 0x02 ∧
    CtxState.decoding.code = 0x03 ∧ CtxState.held.code = 0x04 ∧ CtxState.solved.code = 0x05 ∧
    CtxState.closing.code = 0x06

/-- A read that begins at STATUS returns the enabled lanes of the STATUS word and clears both sticky flags; its later beats, and the beats of every other read, return payload of a HELD slot, its first byte on lane 0, or 0; every other write changes nothing (R149, R150, R166, R203). Three parts are the model's choices: an address counts by the 64-bit word it lies in (log entry 7), reads of the slot window and of other offsets come as the row UNMAPPED_WRITE (log entry 9), and all beats of a burst are served in one event (log entry 10). -/
def Obligations.StatusAndOtherAccesses : Prop :=
  (∀ (bs : List Byte) (i k : Nat), k < 8 → (bytesWord (field bs i 8)).extractLsb' (8 * k) 8 = bs.getD (i + k) 0) ∧
  ∀ (p : PortId) (s : State) (q : Port), s.port p = q →
    (∀ lanes later, exec (.status p lanes later) s =
      .next (s.setPort p (Port.okay (maskLanes lanes q.statusWord :: later.map q.beatWord)
        { q with submitDropped := false, softDropped := false }))) ∧
    (∀ beats, exec (.unmappedWrite p (.read beats)) s = .next (s.setPort p (Port.okay (beats.map q.beatWord) q))) ∧
    (∀ addr w, exec (.unmappedWrite p (.write addr w)) s = .next (s.setPort p (Port.okay [] q))) ∧
    ∀ b : ReadBeat,
      ((b.addr.toNat < 0x4000 ∨ 0x5000 ≤ b.addr.toNat) → q.beatWord b = 0) ∧
      ∀ i : SlotId, 0x4000 + 0x400 * i.val ≤ b.addr.toNat → b.addr.toNat < 0x4400 + 0x400 * i.val →
        (∀ payload, q.outSlot i = .held payload →
          q.beatWord b =
            maskLanes b.lanes (bytesWord (field payload (b.addr.toNat / 8 * 8 - (0x4000 + 0x400 * i.val)) 8))) ∧
        ((∀ payload, q.outSlot i ≠ .held payload) → q.beatWord b = 0)

/-- The STATUS word has each field of Table 11-8 at its bits, with the codes of its states, and its last bits read 0 (spec/07 R149, spec/11 Table 11-8). -/
def Obligations.StatusWordFields : Prop :=
  ∀ (q : Port) (v : Nat), q.assembly.length ≤ 3 → q.queue.length ≤ 32 → q.fillingBuffer.values.length ≤ 24592 →
    q.answers.length ≤ 64 → q.reservations ≤ 64 → q.statusWord.toNat = v →
    v % 2 ^ 2 = q.state.code ∧ v / 2 ^ 2 % 2 ^ 2 = q.intake.code ∧ v / 2 ^ 4 % 2 = q.submitDropped.toNat ∧
      v / 2 ^ 5 % 2 = q.softDropped.toNat ∧ v / 2 ^ 6 % 2 ^ 2 = q.assembly.length ∧
      v / 2 ^ 8 % 2 ^ 6 = q.queue.length ∧ v / 2 ^ 14 % 2 ^ 2 = q.fillingCode ∧
      v / 2 ^ 16 % 2 ^ 15 = q.fillingBuffer.values.length ∧ v / 2 ^ 31 % 2 = q.fillingBuffer.overrun.toNat ∧
      v / 2 ^ 32 % 2 ^ 2 = q.slot.code ∧ v / 2 ^ 34 % 2 ^ 7 = q.answers.length ∧
      v / 2 ^ 41 % 2 ^ 7 = q.reservations ∧ v / 2 ^ 48 % 2 ^ 3 = q.slotsHeld ∧ v / 2 ^ 51 = 0 ∧
      (q.state.code = match q.state with | .off => 0 | .active => 1 | .draining => 2 | .resetting _ => 3) ∧
      (q.intake.code =
        match q.intake with | .running => 0 | .noAnswerSpace => 1 | .requestSlotBusy => 2 | .keyOrder => 3) ∧
      (q.slot.code = match q.slot with | .empty => 0 | .ready _ => 1 | .keyWait _ => 2) ∧
      (q.buf0.state = .filling → q.fillingCode = 1 ∧ q.fillingBuffer = q.buf0) ∧
      (q.buf0.state ≠ .filling → q.buf1.state = .filling → q.fillingCode = 2 ∧ q.fillingBuffer = q.buf1) ∧
      (q.buf0.state ≠ .filling → q.buf1.state ≠ .filling →
        q.fillingCode = 0 ∧ q.fillingBuffer.values = [] ∧ q.fillingBuffer.overrun = false) ∧
      q.slotsHeld = ((List.finRange 4).filter fun i =>
        decide (q.outSlot i ≠ .free ∧ q.outSlot i ≠ .reserved)).length

/-! ### The intake (spec/07 R137 to R144) -/

/-- The checks of an ATTEMPT in the order of Table 7-4; the first that fails decides, and an attempt that passes them goes on as written (R139). A K is looked up in the Geometry Table: the entry found is in the table and has that K, and none is found where no entry has it (spec/01 R28). -/
def Obligations.IntakeChecksInOrder : Prop :=
  (∀ (s : State) (K : Nat), (∀ g, s.geometryOf K = some g → g ∈ s.geometry ∧ g.K = K) ∧
    (s.geometryOf K = none ↔ ∀ g ∈ s.geometry, g.K ≠ K)) ∧
  ∀ (s : State) (p : PortId) (x : QueueEntry) (d : Descriptor) (f : Profile), x.descriptor = d →
    (s.port p).profile = f →
    ((d.kind ≠ .attempt ∨ actionOfByte d.action = none) → s.checkAttempt p x = .error .badKind) ∧
    ∀ a, d.kind = .attempt → actionOfByte d.action = some a →
      (s.geometryOf d.K = none → s.checkAttempt p x = .error .badSize) ∧
      ∀ g, s.geometryOf d.K = some g →
        ((d.attempt = 0 ∨ f.maxAttempts < d.attempt) → s.checkAttempt p x = .error .badAttempt) ∧
        (1 ≤ d.attempt → d.attempt ≤ f.maxAttempts →
          ((3 * d.K + 16 ≤ d.start ∨ d.count = 0 ∨ 3 * d.K + 16 < d.count) →
            s.checkAttempt p x = .error .badRange) ∧
          (d.start < 3 * d.K + 16 → 1 ≤ d.count → d.count ≤ 3 * d.K + 16 →
            ((d.iterationLimit = 0 ∨ f.iterationCap < d.iterationLimit ∨
                (d.iterationLimit = 1 ∧ d.checksumPresent = false ∧ a = .decode)) →
              s.checkAttempt p x = .error .badLimit) ∧
            (1 ≤ d.iterationLimit → d.iterationLimit ≤ f.iterationCap →
              (d.iterationLimit = 1 → d.checksumPresent = true ∨ a = .holdOnly) →
              (stopModeOfByte d.stopMode = none → s.checkAttempt p x = .error .badStop) ∧
              ∀ m, stopModeOfByte d.stopMode = some m →
                ((m = .check ∨ m = .either) → d.checksumPresent = false → s.checkAttempt p x = .error .badStop) ∧
                ((m = .check ∨ m = .either → d.checksumPresent = true) →
                  ((x.buffer = none ∨ x.valuesReceived ≠ (d.count + 7) / 8 * 8 ∨ x.overrun = true) →
                    s.checkAttempt p x = .error .lengthMismatch) ∧
                  ∀ b, x.buffer = some b → x.valuesReceived = (d.count + 7) / 8 * 8 → x.overrun = false →
                    s.checkAttempt p x = .ok
                      { tag := d.tag, K := d.K, attempt := d.attempt, start := d.start, count := d.count,
                        checksumPresent := d.checksumPresent, action := a, iterationLimit := d.iterationLimit,
                        stopMode := m, cookie := d.cookie, buffer := b, valuesReceived := x.valuesReceived }))))

/-- A try: without answer space the intake stalls, whatever the head. With space, for an ATTEMPT or a descriptor that names no kind: a failed check is answered REFUSED at once, its buffer freed and the refusal counted; a valid attempt enters an EMPTY slot, READY or in KEY_WAIT by its key, with a reservation; with the slot taken the intake stalls (R138 to R141, spec/01 R9). A lookup finds an entry that is not FREE and has the key, or none where none has it, and a key is busy when the context it names is COMBINING, DECODING or CLOSING (spec/01 R4, R9). -/
def Obligations.IntakeTriesAnAttempt : Prop :=
  (∀ (s : State) (p : PortId) (tag : Tag) (busy : Entry → Prop),
    busy = (fun e => (s.ctx e).state = .combining ∨ (s.ctx e).state = .decoding ∨ (s.ctx e).state = .closing) →
    (∀ e, s.lookup p tag = some e → s.hasKey e p tag) ∧ (s.lookup p tag = none ↔ ∀ e, ¬ s.hasKey e p tag) ∧
    (s.keyBusy p tag = true ↔ ∃ e, s.lookup p tag = some e ∧ busy e) ∧
    (KeyLaw s → (∀ e, s.lookup p tag = some e ↔ s.hasKey e p tag) ∧
      (s.keyBusy p tag = true ↔ ∃ e, s.hasKey e p tag ∧ busy e))) ∧
  ∀ (p : PortId) (s : State) (q : Port) (x : QueueEntry) (rest : List QueueEntry), s.port p = q →
    q.queue = x :: rest → q.triesFresh →
    (64 ≤ q.answers.length + q.reservations →
      exec (.intakeTry p) s =
        .next ((s.setPort p { q with intake := .noAnswerSpace, stallSignalled := false }).settle p)) ∧
    (q.answers.length + q.reservations < 64 → (x.descriptor.kind = .attempt ∨ ∃ code, x.descriptor.kind = .unnamed code) →
      (∀ r, s.checkAttempt p x = .error r →
        (x.buffer = none →
          exec (.intakeTry p) s =
            .next (((s.setPort p (q.disposed ⟨x.descriptor.tag, x.descriptor.cookie, .refused r⟩ rest)).countRefusal
              p).settle p)) ∧
        (∀ b, x.buffer = some b →
          exec (.intakeTry p) s =
            .next (((s.setPort p ((q.disposed ⟨x.descriptor.tag, x.descriptor.cookie, .refused r⟩
              rest).freeBuffer b)).countRefusal p).settle p))) ∧
      ∀ r, s.checkAttempt p x = .ok r →
        (q.slot = .empty →
          exec (.intakeTry p) s =
            .next ((s.setPort p { q with
              queue := rest, intake := .running, headReserved := false, stallSignalled := false,
              reservations := q.reservations + 1,
              slot := if s.keyBusy p r.tag then .keyWait r else .ready r }).settle p)) ∧
        (q.slot ≠ .empty →
          exec (.intakeTry p) s =
            .next ((s.setPort p { q with intake := .requestSlotBusy, stallSignalled := false }).settle p)))

/-- A try of a QUERY or a RELEASE stalls KEY_ORDER behind an attempt of its key in the slot; otherwise a QUERY is answered STATUS with the view of Table 1-5, and no context changes (R143, R144, spec/01 R27). -/
def Obligations.IntakeAnswersAQuery : Prop :=
  (∀ (slot : RequestSlot) (tag : Tag), slot.tag? = some tag ↔ ∃ r, (slot = .ready r ∨ slot = .keyWait r) ∧ r.tag = tag) ∧
  ∀ (p : PortId) (s : State) (q : Port) (x : QueueEntry) (rest : List QueueEntry) (d : Descriptor), s.port p = q →
    q.queue = x :: rest → x.descriptor = d → q.triesFresh → q.answers.length + q.reservations < 64 →
    ((d.kind = .query ∨ d.kind = .release) → q.slot.tag? = some d.tag →
      exec (.intakeTry p) s =
        .next ((s.setPort p { q with intake := .keyOrder, stallSignalled := false }).settle p)) ∧
    (d.kind = .query → q.slot.tag? ≠ some d.tag →
      (s.lookup p d.tag = none →
        exec (.intakeTry p) s =
          .next ((s.setPort p (q.disposed ⟨d.tag, d.cookie, .status .free 0 0 0 0 0⟩ rest)).settle p)) ∧
      ∀ e c ticks, s.lookup p d.tag = some e → s.ctx e = c →
        ticks = (if c.state = .held ∨ c.state = .solved then
            (if (s.expiry.clock - c.deadline).toNat < 2 ^ 31 then 0 else c.deadline - s.expiry.clock)
          else 0) →
        exec (.intakeTry p) s =
          .next ((s.setPort p (q.disposed
            ⟨d.tag, d.cookie, .status c.state c.K c.lastAttempt c.combinedCount c.pageCount ticks⟩ rest)).settle p))

/-- A RELEASE handed to the Context Table: answered at once for no context and for one in HELD, SOLVED or QUEUED; kept with the context in COMBINING and DECODING, where it asks an abandon, which makes the units of that context STOPPING and no other (spec/05 R108); stalled KEY_ORDER with its reservation in CLOSING or behind another release (R143, R144, spec/01 R25, R26). That a decode already found damaged takes the release like any other until its report is the model's choice (log entry 25). -/
def Obligations.IntakeHandsOverARelease : Prop :=
  (∀ (s : State) (e : Entry), s.abandonEntry e = s.setUnits (s.abandonEntry e).units ∧
    (s.abandonEntry e).units.isPaired = s.units.isPaired ∧
    ∀ u, (s.abandonEntry e).units.job u =
      (s.units.job u).map fun j => if j.entry = e then { j with stopping := true } else j) ∧
  ∀ (p : PortId) (s : State) (q : Port) (x : QueueEntry) (rest : List QueueEntry) (d : Descriptor), s.port p = q →
    q.queue = x :: rest → x.descriptor = d → d.kind = .release →
    (q.triesFresh ∧ q.answers.length + q.reservations < 64 ∨ q.triesAgain) → q.slot.tag? ≠ some d.tag →
    (s.lookup p d.tag = none →
      exec (.intakeTry p) s =
        .next ((s.setPort p (q.disposed ⟨d.tag, d.cookie, .released .free⟩ rest)).settle p)) ∧
    ∀ e c, s.lookup p d.tag = some e → s.ctx e = c →
      (c.state = .held →
        exec (.intakeTry p) s =
          .next ((((((s.expiryRemove e).giveBack p c.pages c.pageCount).setCtx e Context.free).setPort p
            (q.disposed ⟨d.tag, d.cookie, .released .held⟩ rest))).settle p)) ∧
      (c.state = .solved →
        exec (.intakeTry p) s =
          .next ((((s.expiryRemove e).setCtx e Context.free).setPort p
            (q.disposed ⟨d.tag, d.cookie, .released .solved⟩ rest)).settle p)) ∧
      (∀ owed, c.state = .queued → c.pendingDecode = some owed →
        exec (.intakeTry p) s =
          .next (((((s.dispatchRemove p e).giveBack p c.pages c.pageCount).setCtx e Context.free).setPort p
            { q.disposed ⟨d.tag, d.cookie, .released .queued⟩ rest with
              answers := q.answers ++ [⟨c.tag, owed.cookie, .withdrawn⟩, ⟨d.tag, d.cookie, .released .queued⟩]
              reservations := (if q.headReserved then q.reservations - 1 else q.reservations) - 1 }).settle p)) ∧
      (c.state = .combining → c.releasePending = none →
        exec (.intakeTry p) s =
          .next (((s.setCtx e { c with releasePending := some d.cookie }).setPort p
            { q with
              queue := rest, intake := .running, headReserved := false, stallSignalled := false,
              reservations := if q.headReserved then q.reservations else q.reservations + 1 }).settle p)) ∧
      (c.state = .decoding → c.releasePending = none →
        exec (.intakeTry p) s =
          .next ((((s.setCtx e { c with releasePending := some d.cookie }).abandonEntry e).setPort p
            { q with
              queue := rest, intake := .running, headReserved := false, stallSignalled := false,
              reservations := if q.headReserved then q.reservations else q.reservations + 1 }).settle p)) ∧
      ((c.state = .closing ∨ ((c.state = .combining ∨ c.state = .decoding) ∧ c.releasePending ≠ none)) →
        exec (.intakeTry p) s =
          .next ((s.setPort p
            { q with
              intake := .keyOrder, headReserved := true, stallSignalled := false,
              reservations := if q.headReserved then q.reservations else q.reservations + 1 }).settle p))

/-! ### What happens to a port when work of it ends (spec/01 R9, spec/07 R136, spec/09 R177, R178, R183) -/

/-- The Port Life Cycle at an event that can complete a drain or a reset: a DRAINING port that is quiet closes, its HELD, SOLVED and CLOSING contexts ended silently, its pages returned in ascending order of entry number, its sides in the OFF state and DRAIN_DONE set; a RESETTING port with no combine or decode left enters its target with RESET_DONE set; each is a dispatch opportunity (spec/04 R77); nothing else happens (R177, R178, R183, R148, R168). ATTN_N is low while a cause of some port is set, so either end leaves it low (spec/10 R190). A page list that the quiet event itself returns is on the free list before those of the contexts closed, the model's choice (log entry 26). -/
def Obligations.DrainsCloseAndResetsEnd : Prop :=
  ∀ (s : State) (p : PortId) (q : Port), s.port p = q →
    (s.attnN = false ↔ ∃ r, (s.causes r).drainDone = true ∨ (s.causes r).resetDone = true) ∧
    ((q.state = .off ∨ q.state = .active) → s.settle p = s) ∧
    (q.state = .draining →
      (q.queue ≠ [] ∨ q.slot ≠ .empty ∨ (∃ e, (s.ctx e).port = p ∧
          ((s.ctx e).state = .combining ∨ (s.ctx e).state = .queued ∨ (s.ctx e).state = .decoding)) →
        s.settle p = s) ∧
      (q.queue = [] → q.slot = .empty →
        (∀ e, (s.ctx e).port = p →
          (s.ctx e).state ≠ .combining ∧ (s.ctx e).state ≠ .queued ∧ (s.ctx e).state ≠ .decoding) →
        s.settle p = { s with
          contexts := (s.settle p).contexts
          pool := { s.pool with freeList := (s.settle p).pool.freeList, usage := (s.settle p).pool.usage }
          expiry := { s.expiry with list := (s.settle p).expiry.list }
          ports := (s.settle p).ports
          link := { s.link with causes := (s.settle p).link.causes }
          opportunity := true } ∧
        (s.settle p).port p = Port.offWith q.profile q.bus ∧
        (∀ e, (s.settle p).ctx e = if (s.ctx e).port = p ∧ (s.ctx e).state ≠ .free then Context.free else s.ctx e) ∧
        (s.settle p).pool.freeList = s.pool.freeList ++
          (allEntries.filter fun e => (s.ctx e).port == p && (s.ctx e).state == .held).flatMap (fun e => (s.ctx e).pages) ∧
        (PoolLaw s → (s.settle p).pool.usageOf p = 0) ∧
        (s.settle p).expiry.list.Sublist s.expiry.list ∧
        (∀ e, e ∈ (s.settle p).expiry.list ↔ e ∈ s.expiry.list ∧ ¬ ((s.ctx e).port = p ∧ (s.ctx e).state ≠ .free)) ∧
        (s.settle p).causes p = { s.causes p with drainDone := true } ∧ (s.settle p).attnN = false ∧
        ∀ r, r ≠ p → (s.settle p).port r = s.port r ∧ (s.settle p).causes r = s.causes r ∧
          (s.settle p).pool.usageOf r = s.pool.usageOf r)) ∧
    (∀ target, q.state = .resetting target →
      (s.inFlightWork p → s.settle p = s) ∧
      (¬ s.inFlightWork p →
        (s.settle p).attnN = false ∧
        (target = .active →
          s.settle p = ((s.setPort p { q with state := .active }).setCauses p
            { s.causes p with resetDone := true }).setOpportunity true) ∧
        (target = .off →
          s.settle p = ((s.setPort p (Port.offWith q.profile q.bus)).setCauses p
            { s.causes p with resetDone := true }).setOpportunity true)))

/-- R9's signal makes a slot in KEY_WAIT on the key READY and lets a RELEASE stalled on the key be offered again (R144); a signal for another key leaves the slot and the stall as they were; a freed buffer is FREE, and the lower-numbered FREE buffer becomes FILLING when none is (spec/01 R9, spec/07 R136, R142, R144). -/
def Obligations.SignalsAndFreedBuffers : Prop :=
  ∀ (q : Port) (tag : Tag),
    (∀ r, q.slot = .keyWait r → (q.signalled tag).slot = if r.tag = tag then .ready r else .keyWait r) ∧
    ((∀ r, q.slot ≠ .keyWait r) → (q.signalled tag).slot = q.slot) ∧
    (∀ x rest, q.intake = .keyOrder → q.headReserved = true → q.queue = x :: rest → x.descriptor.tag = tag →
      (q.signalled tag).triesAgain) ∧
    ((∀ x rest, q.queue = x :: rest → x.descriptor.tag ≠ tag) ∨ q.intake ≠ .keyOrder ∨ q.headReserved = false →
      (q.signalled tag).stallSignalled = q.stallSignalled) ∧
    q.signalled tag = { q with slot := (q.signalled tag).slot, stallSignalled := (q.signalled tag).stallSignalled } ∧
    Buffer.free = ⟨.free, [], false⟩ ∧ Buffer.filling = ⟨.filling, [], false⟩ ∧
    (q.buf1.state = .filling → q.freeBuffer .s0 = { q with buf0 := Buffer.free }) ∧
    (q.buf1.state ≠ .filling → q.freeBuffer .s0 = { q with buf0 := Buffer.filling }) ∧
    (q.buf0.state = .filling → q.freeBuffer .s1 = { q with buf1 := Buffer.free }) ∧
    (q.buf0.state = .free → q.freeBuffer .s1 = { q with buf0 := Buffer.filling, buf1 := Buffer.free }) ∧
    (q.buf0.state ≠ .filling → q.buf0.state ≠ .free → q.freeBuffer .s1 = { q with buf1 := Buffer.filling })

/-! ### The Page Pool (spec/02 R37, R44, R46) -/

/-- The pool grants a request exactly when its three conditions hold: free pages, the cap, and the unmet reserves after the grant (R37). -/
def Obligations.GrantNeedsThreeConditions : Prop :=
  ∀ (s : State) (c : PortId) (n : Nat),
    s.grants c n = true ↔
      n ≤ s.pool.freeList.length ∧ s.pool.usageOf c + n ≤ (s.port c).profile.cap ∧
        ((allPorts.filter fun p => p != c && (s.port p).state != .off).map fun p =>
            (s.port p).profile.reserve - s.pool.usageOf p).sum +
          ((s.port c).profile.reserve - (s.pool.usageOf c + n)) ≤ s.pool.freeList.length - n + s.pool.shortfall

/-- A damage report retires each page of the context's list that it names, once, in report order, each replaced by the head of the spare list or counted in shortfall; the rest of the list is kept in order for its return (R46 to R48). Pages given back stand at the tail of the free list in their order, and the port's usage falls by the number given, as a natural number (R40, log entry 22). -/
def Obligations.DamagedPagesAreRetiredOnce : Prop :=
  (∀ (pl : Pool) (s : State) (p : PortId) (pages : List Page) (n : Nat),
    pl.giveBack p pages n =
      { pl with freeList := pl.freeList ++ pages, usage := pl.usage.set p.val (pl.usageOf p - n) p.isLt } ∧
    s.giveBack p pages n = s.setPool (s.pool.giveBack p pages n)) ∧
  ∀ (report pages named : List Page) (pl : Pool), pages.Nodup → named = (report.filter (· ∈ pages)).eraseDups →
    (Pool.retireAll report pages pl).1 = pages.filter (· ∉ report) ∧
    (Pool.retireAll report pages pl).2 =
      { pl with
        retiredList := pl.retiredList ++ named
        spareList := pl.spareList.drop named.length
        freeList := pl.freeList ++ pl.spareList.take named.length
        shortfall := pl.shortfall + (named.length - pl.spareList.length) }

/-- Eviction under EVICT_OWN: for pages, where the test of R44 passes, that is, where the three conditions of R37 hold with the pages of every HELD context of the port given back, the port's HELD contexts are ended in expiry-list order, no more than the grant needs, and the grant is certain; for an entry, tombstones first and then HELD contexts, each in expiry-list order, no more than needed. Under REFUSE, and where the test fails, nothing is ended (R42 to R45). An entry is available when some entry is FREE and the port has fewer than max_contexts that are not (R43, spec/01 R11). An evicted HELD context gives its pages back and is FREE with its EVICTED notice posted, or in CLOSING with it owed where the answer queue has no room; a tombstone is ended silently (spec/01 R22). -/
def Obligations.EvictionRelievesShortages : Prop :=
  (∀ (s : State) (p : PortId), s.entryAvailable p = true ↔
    (∃ e, (s.ctx e).state = .free) ∧
      (allEntries.filter fun e => (s.ctx e).port == p && (s.ctx e).state != .free).length <
        (s.port p).profile.maxContexts) ∧
  (∀ (s u : State) (e : Entry) (c : Context) (q : Port), s.ctx e = c → s.port c.port = q →
    u = (s.setExpiryList (s.expiry.list.erase e)).setPool
      { s.pool with
        freeList := s.pool.freeList ++ c.pages
        usage := s.pool.usage.set c.port.val (s.pool.usageOf c.port - c.pageCount) c.port.isLt } →
    (c.state = .held → q.answers.length + q.reservations < 64 →
      s.endHeld .evicted e = (u.setCtx e Context.free).setPort c.port (Port.signalled
        { q with answers := q.answers ++ [⟨c.tag, 0, .notice .evicted c.lastAttempt⟩] } c.tag)) ∧
    (c.state = .held → 64 ≤ q.answers.length + q.reservations →
      s.endHeld .evicted e = (u.setCtx e { c with
        state := .closing, pages := [], gap := false, deadline := 0,
        owedNotice := some ⟨.evicted, c.lastAttempt⟩ }).setPort c.port { q with closing := q.closing ++ [e] }) ∧
    (c.state = .solved →
      s.endTombstone e =
        ((s.setExpiryList (s.expiry.list.erase e)).setCtx e Context.free).setPort c.port (q.signalled c.tag))) ∧
  ∀ (s : State) (p : PortId) (n H unmet : Nat) (tombs helds : List Entry) (can : Prop), PoolLaw s → ExpiryLaw s →
    tombs = (s.expiry.list.filter fun e => (s.ctx e).port == p && (s.ctx e).state == .solved) →
    helds = (s.expiry.list.filter fun e => (s.ctx e).port == p && (s.ctx e).state == .held) →
    H = (helds.map fun e => (s.ctx e).pageCount).sum →
    unmet = ((allPorts.filter fun r => r != p && (s.port r).state != .off).map fun r =>
      (s.port r).profile.reserve - s.pool.usageOf r).sum →
    can = (n ≤ s.pool.freeList.length + H ∧ s.pool.usageOf p - H + n ≤ (s.port p).profile.cap ∧
      unmet + ((s.port p).profile.reserve - (s.pool.usageOf p - H + n)) ≤
        s.pool.freeList.length + H - n + s.pool.shortfall) →
    ((s.port p).profile.evictionPolicy = .refuse → s.relievePages p n = s ∧ s.relieveEntries p = s) ∧
    ((s.port p).profile.evictionPolicy = .evictOwn →
      (¬ can → s.relievePages p n = s) ∧
      (can →
        (s.relievePages p n).grants p n = true ∧
        ∃ k, k ≤ helds.length ∧ s.relievePages p n = s.evictAll p (helds.take k) ∧
          ∀ i, i < k → (s.evictAll p (helds.take i)).grants p n = false) ∧
      ∃ j k, j ≤ tombs.length ∧ k ≤ helds.length ∧
        s.relieveEntries p = ((tombs.take j).foldl (fun t e => t.endTombstone e) s).evictAll p (helds.take k) ∧
        (∀ i, i < j → ((tombs.take i).foldl (fun t e => t.endTombstone e) s).entryAvailable p = false) ∧
        (0 < k → j = tombs.length) ∧
        (∀ i, i < k →
          ((tombs.foldl (fun t e => t.endTombstone e) s).evictAll p (helds.take i)).entryAvailable p = false) ∧
        ((s.relieveEntries p).entryAvailable p = false → j = tombs.length ∧ k = helds.length))

/-! ### The Combine Engine (spec/03, spec/01 section 1.3) -/

/-- A selection takes the first port in scan order whose slot is READY and whose key is not busy; READY slots found busy before it go into KEY_WAIT; the pointer moves past the port taken, its slot is EMPTY, and the attempt goes to admission; where no port has one, only those slots change (R54, R55). -/
def Obligations.SelectionScansInOrder : Prop :=
  ∀ (s u : State), s.engine.combine = none →
    (∀ (i : Fin 4) (p : PortId) (r : Request), p = portAfter s.engine.pointer i → (s.port p).slot = .ready r →
      s.keyBusy p r.tag = false →
      (∀ (k : Fin 4) (o : Request), k < i → (s.port (portAfter s.engine.pointer k)).slot = .ready o →
        s.keyBusy (portAfter s.engine.pointer k) o.tag = true) →
      u = { s with ports := u.ports } →
      (∀ k : Fin 4, u.port (portAfter s.engine.pointer k) =
        if k < i then (s.port (portAfter s.engine.pointer k)).waiting else s.port (portAfter s.engine.pointer k)) →
      State.scanSlots (scanOrder s.engine.pointer) s = (u, some (p, r)) ∧
      u.takeSlot p = (u.setPort p { u.port p with slot := .empty }).setEngine { s.engine with pointer := p + 1 } ∧
      exec .combineSelection s =
        .next (((((u.setPort p { u.port p with slot := .empty }).setEngine { s.engine with pointer := p + 1 })).admitAttempt
          p r).settle p)) ∧
    ((∀ (p : PortId) (o : Request), (s.port p).slot = .ready o → s.keyBusy p o.tag = true) →
      u = { s with ports := u.ports } → (∀ p, u.port p = (s.port p).waiting) →
      State.scanSlots (scanOrder s.engine.pointer) s = (u, none) ∧ exec .combineSelection s = .next u)

/-- The admission of a New attempt, with its shortages relieved where they can be: the lowest-numbered FREE entry is filled, the pages come from the head of the free list, the engine is BUSY in CLEARING, the buffer is COMBINING, and the admission is counted (spec/01 R4, R11, spec/02 R38, R57). -/
def Obligations.AdmissionOpensANewContext : Prop :=
  ∀ (s u v w x : State) (p : PortId) (r : Request) (g : GeometryEntry) (e : Entry) (n : Nat),
    s.engine.combine = none → State.scanSlots (scanOrder s.engine.pointer) s = (u, some (p, r)) → v = u.takeSlot p →
    v.lookup p r.tag = none → v.geometryOf r.K = some g →
    w = (if v.entryAvailable p then v else v.relieveEntries p) → w.entryAvailable p = true →
    n = (3 * g.K + 16 + 511) / 512 → x = (if w.grants p n then w else w.relievePages p n) → x.grants p n = true →
    (x.ctx e).state = .free → (∀ d, d < e → (x.ctx d).state ≠ .free) →
    exec .combineSelection s =
      .next ((((((x.setPool { x.pool with
          freeList := x.pool.freeList.drop n
          usage := x.pool.usage.set p.val (x.pool.usageOf p + n) p.isLt }).setCtx e
        { state := .combining, port := p, tag := r.tag, K := g.K, L := 3 * g.K + 16, pageCount := n, permA := g.permA,
          permB := g.permB, pages := x.pool.freeList.take n, lastAttempt := r.attempt, combinedCount := 1,
          gap := decide (1 < r.attempt),
          pendingDecode := if r.action = .decode then
              some ⟨r.cookie, r.iterationLimit, r.stopMode, r.checksumPresent⟩ else none,
          releasePending := none, deadline := 0, owedNotice := none, units := ⟨false, false⟩ }).setEngine
        { pointer := x.engine.pointer
          combine := some
            { port := p, entry := e, cookie := r.cookie, action := r.action, buffer := r.buffer, start := r.start,
              count := r.count, phase := .clearing, clearIndex := 0, valueIndex := 0, abortRequested := false,
              openReads := [], readsEnded := 0, damaged := [], atBoundary := false } }).setPort p
        ((x.port p).setBuf r.buffer { (x.port p).buf r.buffer with state := .combining })).countAdmitted p).settle p)

/-- The admission of a Continuing attempt and of a Merge: the context leaves the expiry list or the dispatch queue, takes the attempt's number, and the engine is BUSY in ADDING with its first reads begun; a DECODE merge answers the earlier attempt SUPERSEDED and takes over the owed decode, a HOLD_ONLY merge keeps it (spec/01 R7, R12, R13, R57, R64). -/
def Obligations.AdmissionContinuesOrMerges : Prop :=
  ∀ (s u v : State) (p : PortId) (r : Request) (e : Entry) (c d : Context) (b : Combine) (q : Port),
    s.engine.combine = none → State.scanSlots (scanOrder s.engine.pointer) s = (u, some (p, r)) → v = u.takeSlot p →
    v.lookup p r.tag = some e → v.ctx e = c → r.K = c.K → c.lastAttempt < r.attempt →
    d = { c with
      state := .combining, gap := c.gap || decide (c.lastAttempt + 1 < r.attempt), lastAttempt := r.attempt,
      combinedCount := c.combinedCount + 1 } →
    b = Combine.beginReads c.L c.pages 2
      { port := p, entry := e, cookie := r.cookie, action := r.action, buffer := r.buffer, start := r.start,
        count := r.count, phase := .adding, clearIndex := 0, valueIndex := 0, abortRequested := false, openReads := [],
        readsEnded := 0, damaged := [], atBoundary := false } →
    q = (v.port p).setBuf r.buffer { (v.port p).buf r.buffer with state := .combining } →
    (c.state = .held →
      exec .combineSelection s =
        .next ((((((v.expiryRemove e).setCtx e
          { d with
            deadline := 0
            pendingDecode := if r.action = .decode then
                some ⟨r.cookie, r.iterationLimit, r.stopMode, r.checksumPresent⟩ else none }).setEngine
          { pointer := v.engine.pointer, combine := some b }).setPort p q).countAdmitted p).settle p)) ∧
    (c.state = .queued → r.action = .holdOnly →
      exec .combineSelection s =
        .next ((((((v.dispatchRemove p e).setCtx e d).setEngine
          { pointer := v.engine.pointer, combine := some b }).setPort p q).countAdmitted p).settle p)) ∧
    (∀ owed, c.state = .queued → r.action = .decode → c.pendingDecode = some owed →
      exec .combineSelection s =
        .next ((((((v.dispatchRemove p e).setCtx e
          { d with pendingDecode := some ⟨r.cookie, r.iterationLimit, r.stopMode, r.checksumPresent⟩ }).setEngine
          { pointer := v.engine.pointer, combine := some b }).setPort p
          (q.answered [⟨c.tag, owed.cookie, .superseded r.attempt⟩])).countAdmitted p).settle p))

/-- The attempts that admission answers without combining, in the order of Tables 1-3 and R11: the reserved answer is posted, the slot left EMPTY, the buffer freed, the context found unchanged, and a refusal counted (spec/01 R10, R11, R14, spec/03 R56). -/
def Obligations.AttemptsAnsweredWithoutCombining : Prop :=
  ∀ (s u v : State) (p : PortId) (r : Request), s.engine.combine = none →
    State.scanSlots (scanOrder s.engine.pointer) s = (u, some (p, r)) → v = u.takeSlot p →
    (∀ e c, v.lookup p r.tag = some e → v.ctx e = c →
      (r.K ≠ c.K →
        exec .combineSelection s = .next (((v.answersAlone p r (.refused .keyMismatch)).countRefusal p).settle p)) ∧
      (r.K = c.K → c.state = .solved →
        exec .combineSelection s = .next ((v.answersAlone p r (.alreadySolved c.lastAttempt)).settle p)) ∧
      (r.K = c.K → (c.state = .held ∨ c.state = .queued) → r.attempt ≤ c.lastAttempt →
        exec .combineSelection s = .next ((v.answersAlone p r (.duplicate c.lastAttempt)).settle p))) ∧
    (v.lookup p r.tag = none →
      (v.geometryOf r.K = none →
        exec .combineSelection s = .next (((v.answersAlone p r (.refused .badSize)).countRefusal p).settle p)) ∧
      ∀ g w x n, v.geometryOf r.K = some g → w = (if v.entryAvailable p then v else v.relieveEntries p) →
        n = (3 * g.K + 16 + 511) / 512 → x = (if w.grants p n then w else w.relievePages p n) →
        (w.entryAvailable p = false →
          exec .combineSelection s = .next (((w.answersAlone p r (.refused .tableFull)).countRefusal p).settle p)) ∧
        (w.entryAvailable p = true → x.grants p n = false →
          exec .combineSelection s = .next (((x.answersAlone p r (.refused .noSpace)).countRefusal p).settle p)))

/-- The end of a page's clearing sets all 512 values of the page to 0 and no other; the last page ends CLEARING and opens the first reads (R61, R64, R70). -/
def Obligations.ClearPageEndZeroesThePage : Prop :=
  ∀ (s : State) (c : Combine) (x : Context) (pg : Page), s.engine.combine = some c → s.ctx c.entry = x →
    c.phase = .clearing → c.damaged = [] → c.atBoundary = false → x.pages[c.clearIndex]? = some pg →
    ∃ t : State, exec .clearPageEnd s = .next t ∧
      (∀ a, Memory.read t.store a =
        if 512 * pg.val ≤ a ∧ a < 512 * pg.val + 512 then 0 else Memory.read s.store a) ∧
      t = { s with store := t.store, engine := { s.engine with combine := t.engine.combine } } ∧
      (c.clearIndex + 1 < x.pages.length →
        t.engine.combine = some { c with clearIndex := c.clearIndex + 1, atBoundary := c.abortRequested }) ∧
      (x.pages.length ≤ c.clearIndex + 1 →
        t.engine.combine = some (Combine.beginReads x.L x.pages 2
          { c with phase := .adding, clearIndex := c.clearIndex + 1, atBoundary := c.abortRequested }))

/-- The end of a combine's page read: a passed check lets the next read begin, a failed one names the page as damaged and stops every further read. A read begins when fewer than two are open, no damage or boundary of an abort has stopped the engine, and no earlier visit of its page is unwritten; the visits written are those whose values all lie below the value index (R64, R67, R69, R70). -/
def Obligations.CombineReadsAhead : Prop :=
  (∀ (s : State) (c : Combine) (x : Context) (pg : Page) (rest : List Page), s.engine.combine = some c →
    s.ctx c.entry = x → c.openReads = pg :: rest →
    exec (.combinePageReadEnd true) s =
      .next (s.setEngine { s.engine with combine := some (Combine.beginReads x.L x.pages 1
        { c with openReads := rest, readsEnded := c.readsEnded + 1 }) }) ∧
    exec (.combinePageReadEnd false) s =
      .next (s.setEngine { s.engine with combine := some (
        { c with openReads := rest, readsEnded := c.readsEnded + 1, damaged := c.damaged ++ [pg] }) })) ∧
  ∀ (L : Nat) (pages : List Page) (c : Combine) (m : Nat), m = c.readsEnded + c.openReads.length →
    c.written L = ((visits L c.start c.count).filter fun v => decide (v.first + v.length ≤ c.valueIndex)).length ∧
    Combine.beginReads L pages 2 c = Combine.beginReads L pages 1 (Combine.beginReads L pages 1 c) ∧
    ((c.damaged ≠ [] ∨ c.atBoundary = true ∨ 2 ≤ c.openReads.length ∨ (visits L c.start c.count).length ≤ m) →
      Combine.beginReads L pages 1 c = c) ∧
    ∀ v pg, (visits L c.start c.count)[m]? = some v → pages[v.position / 512]? = some pg →
      ((∃ i w, c.written L ≤ i ∧ i < m ∧ (visits L c.start c.count)[i]? = some w ∧
          pages[w.position / 512]? = some pg) → Combine.beginReads L pages 1 c = c) ∧
      (c.damaged = [] → c.atBoundary = false → c.openReads.length < 2 →
        (∀ i w, c.written L ≤ i → i < m → (visits L c.start c.count)[i]? = some w →
          pages[w.position / 512]? ≠ some pg) →
        Combine.beginReads L pages 1 c = { c with openReads := c.openReads ++ [pg] })

/-- The visits of an attempt: value j goes to position (start + j) mod L, every value in exactly one visit, each visit a longest run in one page that does not pass the wrap, at most page_count + 1 of them (R62). -/
def Obligations.VisitsPlaceEveryValue : Prop :=
  ∀ (L start count : Nat) (vs : List Visit), start < L → count ≤ L → vs = visits L start count →
    (∀ v ∈ vs, 0 < v.length ∧ v.position + v.length ≤ L ∧ v.position % 512 + v.length ≤ 512 ∧
      v.first + v.length ≤ count) ∧
    (∀ j, j < count → ∃! v, v ∈ vs ∧ v.first ≤ j ∧ j < v.first + v.length) ∧
    (∀ v ∈ vs, ∀ j, v.first ≤ j → j < v.first + v.length → (start + j) % L = v.position + (j - v.first)) ∧
    (∀ i a b, vs[i]? = some a → vs[i + 1]? = some b →
      b.first = a.first + a.length ∧ (b.position = 0 ∨ b.position / 512 ≠ a.position / 512)) ∧
    vs.length ≤ (L + 511) / 512 + 1

/-- The end of a visit's write adds the visit's staged values at their positions, each sum held within -127..+127 and -128 taken as -127, and changes no other byte of the store; it is a page boundary (R60, R63, R64, R70). -/
def Obligations.VisitWriteAddsTheValues : Prop :=
  ∀ (s : State) (c : Combine) (x : Context) (v : Visit) (pg : Page) (staged : List Byte) (base : Nat),
    s.engine.combine = some c → s.ctx c.entry = x → (visits x.L c.start c.count)[c.written x.L]? = some v →
    x.pages[v.position / 512]? = some pg → c.phase = .adding → c.damaged = [] → c.atBoundary = false →
    c.written x.L < c.readsEnded → staged = ((s.port c.port).buf c.buffer).values →
    base = 512 * pg.val + v.position % 512 →
    ∃ t : State, exec .visitWriteEnd s = .next t ∧
      (∀ i value, i < v.length → staged[v.first + i]? = some value →
        (Memory.read t.store (base + i)).toInt =
          max (-127) (min 127 ((Memory.read s.store (base + i)).toInt + if value = 0x80 then -127 else value.toInt))) ∧
      (∀ a, (a < base ∨ base + v.length ≤ a) → Memory.read t.store a = Memory.read s.store a) ∧
      t = { s with
        store := t.store
        engine := { s.engine with combine := some (Combine.beginReads x.L x.pages 1
          { c with valueIndex := v.first + v.length, atBoundary := c.abortRequested }) } }

/-- The completion of a combine: QUEUED at the tail of the dispatch queue with a decode owed, HELD with a deadline without one, or FREE with its answers in the order of R16 when a release waits; STORED to a HOLD_ONLY attempt, the engine IDLE, the buffer freed, R9's signal given (spec/01 R7, R15, R16, R67). -/
def Obligations.CombineCompletion : Prop :=
  ∀ (s : State) (c : Combine) (x : Context) (p : PortId) (q : Port), s.engine.combine = some c →
    s.ctx c.entry = x → x.state = .combining → c.port = p → x.port = p → s.port p = q → c.phase = .adding →
    c.count ≤ c.valueIndex → c.damaged = [] → c.abortRequested = false →
    (∀ owed, x.releasePending = none → x.pendingDecode = some owed →
      (c.action = .decode →
        exec .combineCompletion s =
          .next (((((s.setCtx c.entry { x with state := .queued }).dispatchAppend p c.entry).setEngine
            { s.engine with combine := none }).setPort p ((q.signalled x.tag).freeBuffer c.buffer)).settle p)) ∧
      (c.action = .holdOnly →
        exec .combineCompletion s =
          .next (((((s.setCtx c.entry { x with state := .queued, gap := false }).dispatchAppend p c.entry).setEngine
            { s.engine with combine := none }).setPort p
            (((q.answered [⟨x.tag, c.cookie, .stored x.gap x.combinedCount⟩]).signalled x.tag).freeBuffer
              c.buffer)).settle p))) ∧
    (x.releasePending = none → x.pendingDecode = none → c.action = .holdOnly →
      exec .combineCompletion s =
        .next (((((s.setCtx c.entry
            { x with
              state := .held, gap := false, units := UnitSet.none,
              deadline := s.expiry.clock + BitVec.ofNat 32 q.profile.holdLifetime }).expiryInsert c.entry).setEngine
          { s.engine with combine := none }).setPort p
          (((q.answered [⟨x.tag, c.cookie, .stored x.gap x.combinedCount⟩]).signalled x.tag).freeBuffer
            c.buffer)).settle p)) ∧
    (∀ k, x.releasePending = some k →
      exec .combineCompletion s =
        .next (((((s.giveBack p x.pages x.pageCount).setCtx c.entry Context.free).setEngine
          { s.engine with combine := none }).setPort p
          (((q.answered ((x.pendingDecode.toList.map fun owed => ⟨x.tag, owed.cookie, .withdrawn⟩) ++
              (if c.action = .holdOnly then [⟨x.tag, c.cookie, .stored x.gap x.combinedCount⟩] else []) ++
              [⟨x.tag, k, .released .combining⟩])).signalled x.tag).freeBuffer c.buffer)).settle p))

/-- The two other ends of a combine, once no read is open. Damage: the named pages are retired, the rest returned, the answers of Table 3-4 posted, none to a RESETTING port. Abort: every page returned, nothing posted. Either way the entry is FREE, the engine IDLE and the buffer freed (spec/01 R17, R24, R69, R71, spec/02 R46, R47). -/
def Obligations.CombineDamageAndAbort : Prop :=
  ∀ (s : State) (c : Combine) (x : Context) (p : PortId) (q : Port) (answers : List Answer),
    s.engine.combine = some c → s.ctx c.entry = x → x.state = .combining → c.port = p → x.port = p → s.port p = q →
    c.openReads = [] →
    (c.damaged ≠ [] →
      answers = (if q.state = .resetting .active ∨ q.state = .resetting .off then [] else
        [⟨x.tag, c.cookie, .damaged⟩] ++
          (if c.action = .holdOnly then x.pendingDecode.toList.map fun owed => ⟨x.tag, owed.cookie, .damaged⟩ else []) ++
          (x.releasePending.toList.map fun k => ⟨x.tag, k, .released .combining⟩)) →
      exec .combineDamage s =
        .next (((((s.setPool ((Pool.retireAll c.damaged x.pages s.pool).2.giveBack p
          (Pool.retireAll c.damaged x.pages s.pool).1 x.pageCount)).setCtx c.entry Context.free).setEngine
          { s.engine with combine := none }).setPort p
          (((q.answered answers).signalled x.tag).freeBuffer c.buffer)).settle p)) ∧
    (c.damaged = [] → c.atBoundary = true →
      exec .combineAbort s =
        .next (((((s.giveBack p x.pages x.pageCount).setCtx c.entry Context.free).setEngine
          { s.engine with combine := none }).setPort p ((q.signalled x.tag).freeBuffer c.buffer)).settle p))

/-! ### Decode Dispatch (spec/04) -/

/-- A head is evaluated as Table 4-1 says, taking the lowest-numbered FREE slot and the lower-numbered IDLE unit. DISPATCH handles an outstanding opportunity whole: in NORMAL it scans, each scan from the pointer as the dispatch before moved it, until one dispatches nothing or enters PAIR_WAIT; in PAIR_WAIT it dispatches nothing but the held head, on the pair, once both units are IDLE, and those scans follow. There is always such a run of scans; without an opportunity the event does not arise (log entry 2). An append, and the leaving of a head other than by dispatch, is an opportunity, and the latter ends a PAIR_WAIT held for it (R74, R77 to R84, spec/01 R18, spec/05 R93). -/
def Obligations.DispatchFollowsTheTable : Prop :=
  (∀ (us : Units) (j : Job),
    (us.isPaired = false → ∀ u v, (us.assign (.one u) j).isPaired = false ∧
      (us.assign (.one u) j).job v = if v = u then some j else us.job v) ∧
    us.assign .pair j = .paired j ∧ (∀ u, (Units.paired j).job u = some j)) ∧
  ((Assignment.one .du0).unitSet = ⟨true, false⟩ ∧ (Assignment.one .du1).unitSet = ⟨false, true⟩ ∧
    Assignment.pair.unitSet = ⟨true, true⟩ ∧ Assignment.pair.isPair = true ∧ ∀ u, (Assignment.one u).isPair = false) ∧
  ∀ (s : State) (p : PortId),
    (s.dispatchQueue p = [] → s.evaluateHead p = .passedOver) ∧
    (∀ (e : Entry) (rest : List Entry) (c : Context) (d : PendingDecode), s.dispatchQueue p = e :: rest →
      s.ctx e = c → c.state = .queued → c.pendingDecode = some d →
      ((∀ i, (s.port p).outSlot i ≠ .free) → s.evaluateHead p = .passedOver) ∧
      ∀ i, (s.port p).outSlot i = .free → (∀ k, k < i → (s.port p).outSlot k ≠ .free) →
        (c.K ≤ 4096 →
          (s.units.job .du0 = none → s.evaluateHead p = .dispatched e d i (.one .du0)) ∧
          (s.units.job .du0 ≠ none → s.units.job .du1 = none → s.evaluateHead p = .dispatched e d i (.one .du1)) ∧
          (s.units.job .du0 ≠ none → s.units.job .du1 ≠ none → s.evaluateHead p = .passedOver)) ∧
        (4096 < c.K →
          (s.units.job .du0 = none → s.units.job .du1 = none → s.evaluateHead p = .dispatched e d i .pair) ∧
          (s.units.job .du0 ≠ none ∨ s.units.job .du1 ≠ none → s.evaluateHead p = .pairWait))) ∧
    (s.opportunity = false → exec .dispatch s = .next s) ∧
    (∃ t, Scans s t) ∧
    (∀ t, s.opportunity = true → s.dispatcher.mode = .normal → Scans s t →
      exec .dispatch s = .next (t.setOpportunity false)) ∧
    (s.opportunity = true → s.dispatcher.mode = .pairWait p →
      (s.units.job .du0 ≠ none ∨ s.units.job .du1 ≠ none → 4096 < (s.ctx ((s.dispatchQueue p).headD 0)).K →
        exec .dispatch s = .next (s.setOpportunity false)) ∧
      ∀ e d slot t, s.evaluateHead p = .dispatched e d slot .pair → Scans (s.dispatched p e d slot .pair) t →
        exec .dispatch s = .next (t.setOpportunity false)) ∧
    ∀ e : Entry,
      s.dispatchAppend p e = (s.setDispatcher { s.dispatcher with
        queues := s.dispatcher.queues.set p.val (s.dispatchQueue p ++ [e]) p.isLt }).setOpportunity true ∧
      (∀ rest, s.dispatchQueue p = e :: rest →
        s.dispatchRemove p e = (s.setDispatcher { s.dispatcher with
          mode := if s.dispatcher.mode = .pairWait p then .normal else s.dispatcher.mode
          queues := s.dispatcher.queues.set p.val rest p.isLt }).setOpportunity true) ∧
      ((s.dispatchQueue p).head? ≠ some e →
        s.dispatchRemove p e = s.setDispatcher { s.dispatcher with
          queues := s.dispatcher.queues.set p.val ((s.dispatchQueue p).erase e) p.isLt })

/-! ### The Decode Units (spec/05, spec/01 section 1.5) -/

/-- The pages that a half-iteration reads are those that hold a position its pass uses, in page-list order, each once; two reads open at its start. The end of a read opens the page two places on when its check passed and nothing is damaged; a failed check names the page and opens none (R97, R111). Each unit of a pair reads the pages of the positions that its own steps use (R98), computed from the permutation in pass 2 (the model's reading, log entry 15). -/
def Obligations.DecodeReadsThePagesItUses : Prop :=
  (∀ us : Units, us.part .du0 = (if us.isPaired then .first else .whole) ∧
    us.part .du1 = if us.isPaired then .second else .whole) ∧
  (∀ (j : Job) (r : Reads), j.readsOf .whole = j.reads ∧ j.readsOf .first = j.reads ∧ j.readsOf .second = j.readsPartner ∧
    j.setReads .whole r = { j with reads := r } ∧ j.setReads .first r = { j with reads := r } ∧
    j.setReads .second r = { j with readsPartner := r }) ∧
  (∀ (j : Job) (used : Nat → Bool), 0 < j.K → Nat.gcd j.permA j.K = 1 →
    used = (fun pos =>
      if j.h % 2 = 0 then decide (pos < 2 * j.K) || (decide (3 * j.K ≤ pos) && decide (pos < 3 * j.K + 8))
      else decide (pos < j.K) || (decide (2 * j.K ≤ pos) && decide (pos < 3 * j.K)) ||
        (decide (3 * j.K + 8 ≤ pos) && decide (pos < 3 * j.K + 16))) →
    j.readList .whole =
      ((List.range j.pages.length).filter fun i =>
        (List.range (3 * j.K + 16)).any fun pos => used pos && pos / 512 == i).filterMap (j.pages[·]?) ∧
    Job.beginReads false j =
      { j with reads := ⟨0, (j.readList .whole).take 2⟩, readsPartner := ⟨0, []⟩ } ∧
    Job.beginReads true j =
      { j with reads := ⟨0, (j.readList .first).take 2⟩, readsPartner := ⟨0, (j.readList .second).take 2⟩ }) ∧
  (∀ (j : Job) (holds : Nat → Nat → Bool), 0 < j.K → Nat.gcd j.permA j.K = 1 →
    holds = (fun i t =>
      if j.h % 2 = 0 then t / 512 == i || (j.K + t) / 512 == i
      else (j.permA * t + j.permB) % j.K / 512 == i || (2 * j.K + t) / 512 == i) →
    j.readList .first =
      ((List.range j.pages.length).filter fun i => (List.range (j.K / 2)).any (holds i)).filterMap (j.pages[·]?) ∧
    j.readList .second =
      ((List.range j.pages.length).filter fun i =>
        ((List.range j.K).any fun t => decide (j.K / 2 ≤ t) && holds i t) ||
          (List.range 8).any fun r => ((if j.h % 2 = 0 then 3 * j.K else 3 * j.K + 8) + r) / 512 == i).filterMap
        (j.pages[·]?)) ∧
  ∀ (s : State) (u : UnitId) (j : Job) (r : Reads) (part : Part) (pg : Page) (rest : List Page),
    s.units.job u = some j → part = s.units.part u → r = j.readsOf part → r.openReads = pg :: rest →
    exec (.decodePageReadEnd u false) s =
      .next (s.setUnits (s.units.setJob u
        { j.setReads part ⟨r.ended + 1, rest⟩ with damaged := j.damaged ++ [pg] })) ∧
    (j.damaged ≠ [] →
      exec (.decodePageReadEnd u true) s =
        .next (s.setUnits (s.units.setJob u (j.setReads part ⟨r.ended + 1, rest⟩)))) ∧
    (j.damaged = [] →
      exec (.decodePageReadEnd u true) s =
        .next (s.setUnits (s.units.setJob u
          (j.setReads part ⟨r.ended + 1, rest ++ ((j.readList part)[r.ended + 2]?).toList⟩))))

/-- A pass of a decode. The encoder of the component code and its branch metric; forward and backward metrics, each the largest sum over the branches of a state, normalised and held at -65535, from the edge metrics of the block's two ends; the extrinsic value of a step from its two maxima (R95). The steps of a pass with their record positions and a-priori values (R94), run by one unit or halved by a pair, whose halves start at K/2 from the metrics that the partner handed out there in the same pass of the iteration before (R95, R98, kept as log entry 16 says; no forward metric beyond boundary K is used, log entry 17). The damping into the store (R96) and the hard decisions (R99). -/
def Obligations.PassArithmetic : Prop :=
  (∀ s1 s2 s3 s4 u a : Bool, a = xor (xor u s3) s4 →
    branchOf (s1.toNat + 2 * s2.toNat + 4 * s3.toNat + 8 * s4.toNat) u =
      ⟨s1.toNat + 2 * s2.toNat + 4 * s3.toNat + 8 * s4.toNat, u, xor (xor (xor a s1) s2) s4,
        a.toNat + 2 * s1.toNat + 4 * s2.toNat + 8 * s3.toNat⟩ ∧
    (u = xor s3 s4 → a = false ∧
      tailInput (s1.toNat + 2 * s2.toNat + 4 * s3.toNat + 8 * s4.toNat) = u)) ∧
  (∀ (v : StepValues) (b : Branch),
    branchMetric v b = (if b.input then -(v.x + v.A) else v.x + v.A) + if b.parity then -v.y else v.y) ∧
  (edgeMetrics.length = 16 ∧ edgeMetrics.getD 0 0 = 0 ∧ ∀ σ, 0 < σ → σ < 16 → edgeMetrics.getD σ 0 = -65535) ∧
  (∀ (m : List Int) (v : StepValues),
    BoundaryMetrics (fun τ y => ∃ σ u, σ < 16 ∧ (branchOf σ u).target = τ ∧
      y = m.getD σ 0 + branchMetric v (branchOf σ u)) (forwardStep m v) ∧
    BoundaryMetrics (fun σ y => ∃ u, y = m.getD (branchOf σ u).target 0 + branchMetric v (branchOf σ u))
      (backwardStep infoBranches v m) ∧
    BoundaryMetrics (fun σ y => ∃ u, u = tailInput σ ∧
      y = m.getD (branchOf σ u).target 0 + branchMetric v (branchOf σ u)) (backwardStep tailBranches v m)) ∧
  (∀ (fw bw : List Int) (v : StepValues) (sums : Bool → Int → Prop),
    sums = (fun u y => ∃ σ, σ < 16 ∧
      y = fw.getD σ 0 + (if (branchOf σ u).parity then -v.y else v.y) + bw.getD (branchOf σ u).target 0) →
    ∃ first second, IsLargest (sums false) first ∧ IsLargest (sums true) second ∧
      extrinsicOf v fw bw = max (-1023) (min 1023 ((first - second).tdiv 2))) ∧
  (∀ info tail : List StepValues, ∃ fw bw ends,
    ForwardRun info edgeMetrics fw ∧ BackwardRun tailBranches tail edgeMetrics ends ∧
      BackwardRun infoBranches info (ends 0) bw ∧ ExtrinsicRun info fw bw (singlePass info tail)) ∧
  (∀ (first second tail : List StepValues) (m : PairMetrics), ∃ fw0 bw0 fw1 bw1 ends es0 es1,
    ForwardRun first edgeMetrics fw0 ∧ BackwardRun infoBranches first m.backward bw0 ∧
      ForwardRun second m.forward fw1 ∧ BackwardRun tailBranches tail edgeMetrics ends ∧
      BackwardRun infoBranches second (ends 0) bw1 ∧ ExtrinsicRun first fw0 bw0 es0 ∧
      ExtrinsicRun second fw1 bw1 es1 ∧
      pairPass first second tail m = (es0 ++ es1, ⟨fw0 first.length, bw1 0⟩)) ∧
  (∀ (j : Job) (record : Array Int) (second : Bool) (info tail : List StepValues) (place : Nat → Nat) (base : Nat)
      (m : PairMetrics),
    place = (fun t => if second then (j.permA * t + j.permB) % j.K else t) →
    base = (if second then 3 * j.K + 8 else 3 * j.K) → m = (if second then j.pairMetrics2 else j.pairMetrics1) →
    info = ((List.range j.K).map fun t =>
      ⟨record.getD (place t) 0, record.getD ((if second then 2 * j.K else j.K) + t) 0,
        j.extrinsic.getD (place t) 0⟩) →
    tail = ((List.range 4).map fun r => ⟨record.getD (base + 2 * r) 0, record.getD (base + 2 * r + 1) 0, 0⟩) →
    j.runPass false record second = (singlePass info tail, m) ∧
    j.runPass true record second = pairPass (info.take (j.K / 2)) (info.drop (j.K / 2)) tail m) ∧
  ∀ (j : Job) (second : Bool) (es : List Int) (record : Array Int) (t pos : Nat) (e : Int), 0 < j.K →
    Nat.gcd j.permA j.K = 1 → es.length = j.K → j.extrinsic.length = j.K → es[t]? = some e →
    pos = (if second then (j.permA * t + j.permB) % j.K else t) →
    (j.storeExtrinsic second es)[pos]? =
      some ((e * ((j.damping.getD (if j.h < 11 then j.h else 11) 0 : Nat) : Int)).tdiv 32) ∧
    (second = true → (j.decisions record es)[pos]? = some (decide (record.getD pos 0 + j.extrinsic.getD pos 0 + e < 0)))

/-- The end of pass 1 of a RUNNING decode: h grows by one, the damped extrinsic values are stored, a pair exchanges its metrics, and the reads of pass 2 begin; nothing outside the unit changes (R94, R98). What the pass computes (Job.runPass) is PassArithmetic. The record it computes on holds at each position below L the stored value of page p / 512 of the list at offset p mod 512, signed (spec/01 R2). A half-iteration can end when nothing is damaged, no read is open and every page of the read list is read, of both units of a pair (R92, R97). -/
def Obligations.HalfIterationGoesOn : Prop :=
  (∀ (store : List Host.Cell) (pages : List Page) (L : Nat),
    (L ≤ 512 * pages.length → (recordValues store pages L).length = L) ∧
    ∀ p pg, p < L → pages[p / 512]? = some pg →
      (recordValues store pages L)[p]? = some (Memory.read store (512 * pg.val + p % 512)).toInt) ∧
  (∀ j : Job,
    (j.halfDone false = true ↔
      j.damaged = [] ∧ j.reads.openReads = [] ∧ j.reads.ended = (j.readList .whole).length) ∧
    (j.halfDone true = true ↔
      j.damaged = [] ∧ j.reads.openReads = [] ∧ j.reads.ended = (j.readList .first).length ∧
        j.readsPartner.openReads = [] ∧ j.readsPartner.ended = (j.readList .second).length)) ∧
  (∀ (us : Units) (u : UnitId) (j : Job), (us.setJob u j).isPaired = us.isPaired ∧
    ∀ v, (us.setJob u j).job v = if us.isPaired = true ∨ v = u then some j else us.job v) ∧
  ∀ (s : State) (u : UnitId) (j : Job) (pass : List Int × PairMetrics), s.units.job u = some j →
    (s.ctx j.entry).state = .decoding → j.halfDone s.units.isPaired = true → j.h % 2 = 0 → j.stopping = false →
    pass = j.runPass s.units.isPaired (recordValues s.store j.pages j.L).toArray false →
    exec (.halfIterationEnd u) s =
      .next (s.setUnits (s.units.setJob u (Job.beginReads s.units.isPaired
        { j with h := j.h + 1, extrinsic := j.storeExtrinsic false pass.1, pairMetrics1 := pass.2 })))

/-- The iteration end of a RUNNING decode. No stop: h grows by one and the decisions become the previous decisions. PASS: payload in the slot, pages returned, a tombstone kept or not, PASSES counted. FAIL: the slot FREE, the context HELD or, at max_attempts, FREE with FINAL, FAILURES counted. A completion makes the unit IDLE, a dispatch opportunity, and posts its DECODED answer with the values of Table 5-7 (R101 to R107, spec/01 R19, R20, spec/04 R77). What the pass computes (Job.runPass) is PassArithmetic. -/
def Obligations.IterationEndOutcomes : Prop :=
  ∀ (s t : State) (u : UnitId) (j : Job) (x : Context) (p : PortId) (q : Port) (record : List Int)
    (pass : List Int × PairMetrics) (bits : List Bool) (stop : Option DecodeOutcome) (mism zeros : Nat),
    s.units.job u = some j → s.ctx j.entry = x → x.state = .decoding → x.port = p → j.port = p → s.port p = q →
    j.halfDone s.units.isPaired = true → j.h % 2 = 1 → j.stopping = false →
    record = recordValues s.store j.pages j.L → pass = j.runPass s.units.isPaired record.toArray true →
    bits = j.decisions record.toArray pass.1 →
    stop = stopEvaluation j.stopMode j.checksumPresent (checksumPasses bits) (decide (j.previous = some bits))
      (decide (j.h / 2 + 1 = j.iterationLimit)) →
    mism = mismatchCount (record.take j.K) bits → zeros = zeroCount (record.take j.K) →
    t = (s.setUnits (s.units.clear u)).setOpportunity true →
    (stop = none →
      exec (.iterationEnd u) s =
        .next (s.setUnits (s.units.setJob u (Job.beginReads s.units.isPaired
          { j with
            h := j.h + 1, extrinsic := j.storeExtrinsic true pass.1, previous := some bits,
            pairMetrics2 := pass.2 })))) ∧
    (∀ r, r = Port.signalled (Port.answered
        [⟨x.tag, j.cookie, .decoded .pass (j.h / 2 + 1) x.gap false j.slot.val (j.K / 8) mism zeros⟩]
        (q.setOutSlot j.slot (.held (payloadOf bits)))) x.tag → stop = some .pass →
      (q.profile.tombstoneLifetime = 0 →
        exec (.iterationEnd u) s =
          .next (((((t.giveBack p x.pages x.pageCount).setCtx j.entry Context.free).setPort p r).countPass p).settle
            p)) ∧
      (0 < q.profile.tombstoneLifetime →
        exec (.iterationEnd u) s =
          .next ((((((t.giveBack p x.pages x.pageCount).setCtx j.entry
            { x with
              state := .solved, pages := [], gap := false, units := ⟨false, false⟩,
              deadline := s.expiry.clock + BitVec.ofNat 32 q.profile.tombstoneLifetime }).expiryInsert
            j.entry).setPort p r).countPass p).settle p))) ∧
    (∀ r final, final = decide (x.lastAttempt = q.profile.maxAttempts) →
      r = Port.signalled (Port.answered
        [⟨x.tag, j.cookie, .decoded .fail (j.h / 2 + 1) x.gap final 0 0 mism zeros⟩]
        (q.setOutSlot j.slot .free)) x.tag → stop = some .fail →
      (final = true →
        exec (.iterationEnd u) s =
          .next (((((t.giveBack p x.pages x.pageCount).setCtx j.entry Context.free).setPort p r).countFailure
            p).settle p)) ∧
      (final = false →
        exec (.iterationEnd u) s =
          .next (((((t.setCtx j.entry
            { x with
              state := .held, gap := false, units := ⟨false, false⟩,
              deadline := s.expiry.clock + BitVec.ofNat 32 q.profile.holdLifetime }).expiryInsert j.entry).setPort
            p r).countFailure p).settle p)))

/-- The two ends of a decode without an outcome of its own. A STOPPING decode ends at the end of either pass, ABANDONED with the iterations completed; a decode stopped for damage ends once no read is open, its pages retired. Either way the slot and the unit are free, a dispatch opportunity, the pages that are left are returned, the entry is FREE, and a RESETTING port is posted nothing (R103, R109, R112, spec/01 R21, R24, spec/02 R46, R47, spec/04 R77). A release taken after a check failed and before the report is answered as one taken earlier, the model's choice (log entry 25). -/
def Obligations.DecodeAbandonAndDamage : Prop :=
  (∀ (us : Units) (u : UnitId), (us.clear u).isPaired = false ∧
    ∀ v, (us.clear u).job v = if us.isPaired = true ∨ v = u then none else us.job v) ∧
  ∀ (s t : State) (u : UnitId) (j : Job) (x : Context) (p : PortId) (q : Port) (first : AnswerBody)
    (answers : List Answer) (r : Port),
    s.units.job u = some j → s.ctx j.entry = x → x.state = .decoding → x.port = p → j.port = p → s.port p = q →
    t = (s.setUnits (s.units.clear u)).setOpportunity true →
    answers = (if q.state = .resetting .active ∨ q.state = .resetting .off then [] else
      [⟨x.tag, j.cookie, first⟩] ++ (x.releasePending.toList.map fun k => ⟨x.tag, k, .released .decoding⟩)) →
    r = ((q.setOutSlot j.slot .free).answered answers).signalled x.tag →
    (j.halfDone s.units.isPaired = true → j.stopping = true →
      first = .decoded .abandoned ((j.h + 1) / 2) x.gap false 0 0 0 0 →
      (j.h % 2 = 0 →
        exec (.halfIterationEnd u) s =
          .next ((((t.giveBack p x.pages x.pageCount).setCtx j.entry Context.free).setPort p r).settle p)) ∧
      (j.h % 2 = 1 →
        exec (.iterationEnd u) s =
          .next ((((t.giveBack p x.pages x.pageCount).setCtx j.entry Context.free).setPort p r).settle p))) ∧
    (j.damaged ≠ [] → j.reads.openReads = [] → j.readsPartner.openReads = [] → first = .damaged →
      exec (.decodeDamage u) s =
        .next ((((t.setPool ((Pool.retireAll j.damaged x.pages s.pool).2.giveBack p
          (Pool.retireAll j.damaged x.pages s.pool).1 x.pageCount)).setCtx j.entry Context.free).setPort p r).settle
          p))

/-- What a decode is judged by: the stop evaluation of R102 over its three steps, the checksum register of R100, the measures of R104, and the payload of R105. -/
def Obligations.DecodeVerdict : Prop :=
  (∀ (mode : StopMode) (present passes agrees atLimit : Bool),
    ((present = true ∧ passes = true ∧ (mode = .check ∨ mode = .either)) →
      stopEvaluation mode present passes agrees atLimit = some .pass) ∧
    (¬ (present = true ∧ passes = true ∧ (mode = .check ∨ mode = .either)) → agrees = true →
      (mode = .agree ∨ mode = .either) →
      stopEvaluation mode present passes agrees atLimit =
        some (if present = false ∨ passes = true then .pass else .fail)) ∧
    (¬ (present = true ∧ passes = true ∧ (mode = .check ∨ mode = .either)) →
      ¬ (agrees = true ∧ (mode = .agree ∨ mode = .either)) →
      (atLimit = true →
        stopEvaluation mode present passes agrees atLimit =
          some (if (if present then passes else agrees) then .pass else .fail)) ∧
      (atLimit = false → stopEvaluation mode present passes agrees atLimit = none))) ∧
  (∀ (stages : List Bool) (bit feed : Bool), stages.length = 24 → feed = xor bit (stages.getD 23 false) →
    checksumStep stages bit =
      (List.range 24).map fun i =>
        xor (if i = 0 then false else stages.getD (i - 1) false) (feed && [0, 3, 8, 11, 17, 22].contains i)) ∧
  (∀ info tail : List Bool, tail.length = 24 →
    (checksumPasses (info ++ tail) = true ↔
      tail = (info.foldl checksumStep (List.replicate 24 false)).reverse)) ∧
  (∀ (v : Int) (bit : Bool) (vs : List Int) (bits : List Bool),
    mismatchCount (v :: vs) (bit :: bits) =
      mismatchCount vs bits + (if (0 < v ∧ bit = true) ∨ (v < 0 ∧ bit = false) then 1 else 0) ∧
    zeroCount (v :: vs) = zeroCount vs + if v = 0 then 1 else 0) ∧
  (mismatchCount [] [] = 0 ∧ zeroCount [] = 0) ∧
  ∀ bits : List Bool, bits.length % 8 = 0 → bits.length ≤ 8192 →
    (payloadOf bits).length = 1024 ∧
    (∀ j bit, bits[j]? = some bit → ((payloadOf bits).getD (j / 8) 0).getLsbD (j % 8) = bit) ∧
    ∀ i, bits.length / 8 ≤ i → (payloadOf bits).getD i 0 = 0

/-! ### Hold clock and expiry (spec/06) -/

/-- A tick: clock becomes (clock + 1) mod 2^32, elapsed 0, and period is loaded from timebase; nothing else changes (R116). How time reaches a tick with no command waiting is EmptyQueueLetsOneUnitPass. -/
def Obligations.TickAdvancesTheClock : Prop :=
  ∀ s : State,
    ∃ x, exec .tick s = .next (s.setExpiry x) ∧ x.clock.toNat = (s.expiry.clock.toNat + 1) % 2 ^ 32 ∧ x.elapsed = 0 ∧
      x.period = s.expiry.timebase ∧ x.timebase = s.expiry.timebase ∧ x.list = s.expiry.list

/-- Expiries: the head of the list is due when its remaining time is not above 0; a due HELD head is ended with its pages at the tail of the free list and an EXPIRED notice posted, or owed in CLOSING when the answer queue has no room, and counted; a due SOLVED head is freed silently. The remaining time is the signed difference of deadline and clock mod 2^32, and an insertion keeps the list in the order of remaining time, behind equals (spec/01 R22, R23, R118, R120, R122 to R124). -/
def Obligations.ExpiryEndsTheHead : Prop :=
  (∀ (clock d : Ticks) (r : Nat), r = (d.toNat + 2 ^ 32 - clock.toNat) % 2 ^ 32 →
    (r ≤ 2 ^ 31 → remaining clock d = r) ∧ (2 ^ 31 < r → remaining clock d = (r : Int) - 2 ^ 32)) ∧
  (∀ clock d : Ticks, (deadlineReached clock d = true ↔ remaining clock d ≤ 0) ∧
    (deadlineReached clock d = true ↔ (clock.toNat + 2 ^ 32 - d.toNat) % 2 ^ 32 < 2 ^ 31)) ∧
  (∀ (s : State) (e : Entry), s.expiryInsert e =
    s.setExpiryList (insertDue (fun a => remaining s.expiry.clock (s.ctx a).deadline) e s.expiry.list)) ∧
  (∀ (r : Entry → Int) (e : Entry) (l : List Entry), l.Pairwise (fun a b => r a ≤ r b) →
    insertDue r e l = (l.filter fun a => decide (r a ≤ r e)) ++ e :: l.filter fun a => decide (r e < r a)) ∧
  ∀ (s u : State) (e : Entry) (rest : List Entry) (c : Context) (q : Port), s.expiry.list = e :: rest → s.ctx e = c →
    s.port c.port = q → deadlineReached s.expiry.clock c.deadline = true →
    u = (s.setExpiryList rest).setPool
      { s.pool with
        freeList := s.pool.freeList ++ c.pages
        usage := s.pool.usage.set c.port.val (s.pool.usageOf c.port - c.pageCount) c.port.isLt } →
    (c.state = .held → q.answers.length + q.reservations < 64 →
      exec .expiryHeld s = .next (((u.setCtx e Context.free).setPort c.port (Port.signalled
        { q with answers := q.answers ++ [⟨c.tag, 0, .notice .expired c.lastAttempt⟩] } c.tag)).countExpiry c.port)) ∧
    (c.state = .held → 64 ≤ q.answers.length + q.reservations →
      exec .expiryHeld s = .next (((u.setCtx e { c with
        state := .closing, pages := [], gap := false, deadline := 0,
        owedNotice := some ⟨.expired, c.lastAttempt⟩ }).setPort c.port
        { q with closing := q.closing ++ [e] }).countExpiry c.port)) ∧
    (c.state = .solved →
      exec .expiryTombstone s =
        .next (((s.setExpiryList rest).setCtx e Context.free).setPort c.port (q.signalled c.tag)))

/-! ### The Management Link (spec/10, spec/09, spec/11 section 11.5) -/

/-- How every frame is answered: the reply register is replaced, last_result set, and the frame shifts out the reply before it, then zeros; a frame shorter than its command needs is SHORT_FRAME, one with no complete byte SHORT_FRAME with code 0, an unknown code BAD_COMMAND, and none of them changes anything else (R187 to R189). -/
def Obligations.FramesAreAnswered : Prop :=
  (∀ f : Frame, frameLength f = 8 * (1 + f.args.length) + f.spare.length) ∧
  (∀ (n : Nat) (code : Byte) (r : ResultCode) (data : List Byte) (s : State), data.length ≤ 132 →
    s.answerFrame n code r data =
      s.setLink { s.link with
        reply := [code, r.code] ++ data ++ List.replicate (132 - data.length) 0
        lastResult := r
        miso := misoBits n s.link.reply }) ∧
  (∀ (n k : Nat) (reply : List Byte), k < n →
    (misoBits n reply)[k]? = some ((reply.getD (k / 8) 0).getLsbD (7 - k % 8)) ∧ (misoBits n reply).length = n) ∧
  ∀ (f : Frame) (s : State),
    exec (.frameRefused none f) s = .next (s.answerFrame f.spare.length 0 .shortFrame []) ∧
    (∀ c, c ∉ commandCodes →
      exec (.frameRefused (some c) f) s = .next (s.answerFrame (frameLength f) c .badCommand [])) ∧
    (f.args.length < 25 →
      exec (.profileWrite f) s = .next (s.answerFrame (frameLength f) 0x02 .shortFrame [])) ∧
    (f.args.length < 6 →
      exec (.geometryWrite f) s = .next (s.answerFrame (frameLength f) 0x04 .shortFrame [])) ∧
    (f.args.length < 2 →
      exec (.geometryDelete f) s = .next (s.answerFrame (frameLength f) 0x06 .shortFrame []) ∧
      exec (.timebaseWrite f) s = .next (s.answerFrame (frameLength f) 0x10 .shortFrame [])) ∧
    (f.args = [] →
      exec (.profileRead f) s = .next (s.answerFrame (frameLength f) 0x03 .shortFrame []) ∧
      exec (.geometryRead f) s = .next (s.answerFrame (frameLength f) 0x05 .shortFrame []) ∧
      exec (.portEnable f) s = .next (s.answerFrame (frameLength f) 0x08 .shortFrame []) ∧
      exec (.portDisable f) s = .next (s.answerFrame (frameLength f) 0x09 .shortFrame []) ∧
      exec (.portReset f) s = .next (s.answerFrame (frameLength f) 0x0A .shortFrame []) ∧
      exec (.contextRead f) s = .next (s.answerFrame (frameLength f) 0x12 .shortFrame []) ∧
      exec (.countersRead f) s = .next (s.answerFrame (frameLength f) 0x13 .shortFrame []) ∧
      exec (.countersClear f) s = .next (s.answerFrame (frameLength f) 0x14 .shortFrame []))

/-- The management reads: what each reply carries, taken in the event of the frame; STATUS_READ clears every attention cause, and the others change nothing but the link's answer (R191, R192, R194, R195, R198, spec/02 R49, spec/09 R171, spec/11 Tables 11-9 to 11-11). With them the result codes, the most significant byte first (spec/11 R202), the port state codes and the profile's 24 bytes. -/
def Obligations.ManagementReads : Prop :=
  (ResultCode.ok.code = 0x00 ∧ ResultCode.badCommand.code = 0x01 ∧ ResultCode.shortFrame.code = 0x02 ∧
    ResultCode.badPort.code = 0x03 ∧ ResultCode.badState.code = 0x04 ∧ ResultCode.badProfile.code = 0x05 ∧
    ResultCode.noReserve.code = 0x06 ∧ ResultCode.badGeometry.code = 0x07 ∧ ResultCode.geometryFull.code = 0x08) ∧
  (PortState.off.code = 0 ∧ PortState.active.code = 1 ∧ PortState.draining.code = 2 ∧
    ∀ target, (PortState.resetting target).code = 3) ∧
  ∀ (s : State) (f : Frame) (n : Nat), n = frameLength f →
    exec (.statusRead f) s =
      .next ((s.setLink { s.link with causes := Vector.replicate 4 ⟨false, false⟩ }).answerFrame n 0x01 .ok
        [s.link.lastResult.code, s.portByte 0, s.portByte 1, s.portByte 2, s.portByte 3]) ∧
    (∀ p, (s.portByte p).toNat = (s.port p).state.code + (if (s.port p).state = .resetting .off then 4 else 0) +
      (if (s.causes p).drainDone then 16 else 0) + if (s.causes p).resetDone then 32 else 0) ∧
    exec (.poolRead f) s =
      .next (s.answerFrame n 0x11 .ok
        (beBytes 2 s.pool.freeList.length ++ beBytes 2 (s.pool.usageOf 0) ++ beBytes 2 (s.pool.usageOf 1) ++
          beBytes 2 (s.pool.usageOf 2) ++ beBytes 2 (s.pool.usageOf 3) ++ beBytes 1 s.pool.spareList.length ++
          beBytes 2 s.pool.retiredList.length ++ beBytes 2 s.pool.shortfall)) ∧
    exec (.clockRead f) s =
      .next (s.answerFrame n 0x15 .ok (beBytes 4 s.expiry.clock.toNat ++ beBytes 2 s.expiry.timebase)) ∧
    (∀ width v, v < 256 ^ width → (beBytes width v).length = width ∧ beNat (beBytes width v) = v) ∧
    (∀ width v k, k < width → (beBytes width v)[k]? = some (BitVec.ofNat 8 (v / 256 ^ (width - 1 - k)))) ∧
    ∀ b more, f.args = b :: more →
      exec (.contextRead f) s = .next (s.answerFrame n 0x12 .ok ((s.ctx b.toFin).view b)) ∧
      (b.toNat < 128 →
        exec (.geometryRead f) s =
          .next (s.answerFrame n 0x05 .ok
            (BitVec.ofNat 8 s.geometry.length ::
              (s.geometry[b.toNat]?.elim (List.replicate 6 0) fun g =>
                beBytes 2 g.K ++ beBytes 2 g.permA ++ beBytes 2 g.permB)))) ∧
      (128 ≤ b.toNat → exec (.geometryRead f) s = .next (s.answerFrame n 0x05 .badGeometry [])) ∧
      (4 ≤ b.toNat →
        exec (.profileRead f) s = .next (s.answerFrame n 0x03 .badPort []) ∧
        exec (.countersRead f) s = .next (s.answerFrame n 0x13 .badPort [])) ∧
      ∀ p : PortId, b.toNat = p.val →
        (∀ x : Profile, (s.port p).profile = x →
          exec (.profileRead f) s = .next (s.answerFrame n 0x03 .ok (b ::
            ([BitVec.ofNat 8 (x.reserve / 256), BitVec.ofNat 8 x.reserve, BitVec.ofNat 8 (x.cap / 256),
              BitVec.ofNat 8 x.cap, BitVec.ofNat 8 x.maxContexts, BitVec.ofNat 8 x.maxAttempts,
              BitVec.ofNat 8 x.iterationCap, BitVec.ofNat 8 (x.holdLifetime / 256), BitVec.ofNat 8 x.holdLifetime,
              BitVec.ofNat 8 (x.tombstoneLifetime / 256), BitVec.ofNat 8 x.tombstoneLifetime,
              if x.evictionPolicy = .refuse then 0x00 else 0x01] ++ x.damping.map (BitVec.ofNat 8))))) ∧
        exec (.countersRead f) s =
          .next (s.answerFrame n 0x13 .ok (b ::
            (beBytes 4 (s.counters p).attemptsAdmitted.toNat ++ beBytes 4 (s.counters p).passes.toNat ++
              beBytes 4 (s.counters p).failures.toNat ++ beBytes 4 (s.counters p).expiries.toNat ++
              beBytes 4 (s.counters p).evictions.toNat ++ beBytes 4 (s.counters p).refusals.toNat)))

/-- The fields of the context diagnostic view at the places of Table 11-12, absent parts and bytes beyond the page list 0, numbers with the most significant byte first (R194, spec/11 Table 11-12, R202, R207). -/
def Obligations.ContextViewFields : Prop :=
  (∀ (bs : List Byte) (i : Nat),
    (i + 2 ≤ bs.length → beNat (field bs i 2) = 256 * byteAt bs i + byteAt bs (i + 1)) ∧
    (i + 4 ≤ bs.length → beNat (field bs i 4) =
      16777216 * byteAt bs i + 65536 * byteAt bs (i + 1) + 256 * byteAt bs (i + 2) + byteAt bs (i + 3)) ∧
    byteAt bs i = (bs.getD i 0).toNat) ∧
  ∀ (index : Byte) (c : Context) (v : List Byte), v = c.view index → c.K < 65536 → c.L < 65536 → c.permA < 65536 →
    c.permB < 65536 → c.pageCount < 256 → c.lastAttempt < 256 → c.combinedCount < 256 → c.pages.length ≤ 49 →
    v.length = 132 ∧ v[0]? = some index ∧ v[1]? = some c.state.code ∧ byteAt v 2 = c.port.val ∧
      beNat (field v 3 2) = c.tag.toNat ∧ beNat (field v 5 2) = c.K ∧ beNat (field v 7 2) = c.L ∧
      byteAt v 9 = c.pageCount ∧ beNat (field v 10 2) = c.permA ∧ beNat (field v 12 2) = c.permB ∧
      byteAt v 14 = c.lastAttempt ∧ byteAt v 15 = c.combinedCount ∧
      (v.getD 16 0).getLsbD 0 = c.gap ∧ (v.getD 16 0).getLsbD 1 = c.pendingDecode.isSome ∧
      (v.getD 16 0).getLsbD 2 = c.pendingDecode.any (·.checksumPresent) ∧
      (v.getD 16 0).getLsbD 3 = c.releasePending.isSome ∧ (v.getD 16 0).getLsbD 4 = c.owedNotice.isSome ∧
      (v.getD 16 0).getLsbD 5 = c.units.du0 ∧ (v.getD 16 0).getLsbD 6 = c.units.du1 ∧
      (v.getD 16 0).getLsbD 7 = false ∧
      (c.pendingDecode = none → field v 17 6 = List.replicate 6 0) ∧
      (∀ d, c.pendingDecode = some d → d.iterationLimit < 256 →
        byteAt v 17 = d.iterationLimit ∧ v[18]? = some d.stopMode.code ∧ beNat (field v 19 4) = d.cookie.toNat) ∧
      beNat (field v 23 4) = c.releasePending.elim 0 (·.toNat) ∧ beNat (field v 27 4) = c.deadline.toNat ∧
      (c.owedNotice = none → field v 31 2 = [0, 0]) ∧
      (∀ o, c.owedNotice = some o → o.lastAttempt < 256 → v[31]? = some o.kind.code ∧ byteAt v 32 = o.lastAttempt) ∧
      byteAt v 33 = c.pages.length ∧
      (∀ i, i < 49 → beNat (field v (34 + 2 * i) 2) = (c.pages[i]?).elim 0 (·.val)) ∧
      StopMode.full.code = 0x01 ∧ StopMode.check.code = 0x02 ∧ StopMode.agree.code = 0x03 ∧
      StopMode.either.code = 0x04 ∧ NoticeKind.expired.code = 0x10 ∧ NoticeKind.evicted.code = 0x11

/-- PROFILE_WRITE, PORT_ENABLE and PORT_DISABLE: their checks in order, and what each changes when it passes: a profile is taken when its 24 bytes, laid out as Table 11-10 says, give values within the ranges of Table 9-1; a port's change of state is a dispatch opportunity (spec/09 R169, R170, R174, R175, spec/02 R51, spec/04 R77, spec/11 Table 11-10). -/
def Obligations.ProfileAndPortCommands : Prop :=
  (∀ x : Profile, x.valid = true ↔
    1 ≤ x.cap ∧ x.cap ≤ 2048 ∧ x.reserve ≤ x.cap ∧ 1 ≤ x.maxContexts ∧ x.maxContexts ≤ 128 ∧ 1 ≤ x.maxAttempts ∧
      x.maxAttempts ≤ 15 ∧ 1 ≤ x.iterationCap ∧ x.iterationCap ≤ 16 ∧ 1 ≤ x.holdLifetime ∧ x.holdLifetime ≤ 65535 ∧
      x.tombstoneLifetime ≤ 65535 ∧ x.damping.length = 12 ∧ ∀ w ∈ x.damping, w ≤ 32) ∧
  ∀ (s : State) (b : Byte) (more : List Byte) (spare : List Bool) (f : Frame) (n : Nat) (bytes : Profile → List Byte),
    f = ⟨b :: more, spare⟩ → n = frameLength f →
    bytes = (fun x =>
      [BitVec.ofNat 8 (x.reserve / 256), BitVec.ofNat 8 x.reserve, BitVec.ofNat 8 (x.cap / 256), BitVec.ofNat 8 x.cap,
       BitVec.ofNat 8 x.maxContexts, BitVec.ofNat 8 x.maxAttempts, BitVec.ofNat 8 x.iterationCap,
       BitVec.ofNat 8 (x.holdLifetime / 256), BitVec.ofNat 8 x.holdLifetime,
       BitVec.ofNat 8 (x.tombstoneLifetime / 256), BitVec.ofNat 8 x.tombstoneLifetime,
       if x.evictionPolicy = .refuse then 0x00 else 0x01] ++ x.damping.map (BitVec.ofNat 8)) →
    (4 ≤ b.toNat →
      (24 ≤ more.length → exec (.profileWrite f) s = .next (s.answerFrame n 0x02 .badPort [])) ∧
      exec (.portEnable f) s = .next (s.answerFrame n 0x08 .badPort []) ∧
      exec (.portDisable f) s = .next (s.answerFrame n 0x09 .badPort [])) ∧
    ∀ (p : PortId) (q : Port), b.toNat = p.val → s.port p = q →
      (24 ≤ more.length → q.state ≠ .off → exec (.profileWrite f) s = .next (s.answerFrame n 0x02 .badState [])) ∧
      (24 ≤ more.length → q.state = .off →
        (∀ x : Profile, x.valid = true → more.take 24 = bytes x →
          exec (.profileWrite f) s = .next ((s.setPort p { q with profile := x }).answerFrame n 0x02 .ok [])) ∧
        ((∀ x : Profile, x.valid = true → more.take 24 ≠ bytes x) →
          exec (.profileWrite f) s = .next (s.answerFrame n 0x02 .badProfile []))) ∧
      (q.state ≠ .off → exec (.portEnable f) s = .next (s.answerFrame n 0x08 .badState [])) ∧
      (q.state = .off → q.profile.valid = false →
        exec (.portEnable f) s = .next (s.answerFrame n 0x08 .badProfile [])) ∧
      (∀ unmet, q.state = .off → q.profile.valid = true →
        unmet = ((allPorts.filter fun r => r != p && (s.port r).state != .off).map fun r =>
          (s.port r).profile.reserve - s.pool.usageOf r).sum →
        (s.pool.freeList.length < unmet + q.profile.reserve →
          exec (.portEnable f) s = .next (s.answerFrame n 0x08 .noReserve [])) ∧
        (unmet + q.profile.reserve ≤ s.pool.freeList.length →
          exec (.portEnable f) s =
            .next (((s.setPort p { q with state := .active }).setOpportunity true).answerFrame n 0x08 .ok []))) ∧
      (q.state ≠ .active → exec (.portDisable f) s = .next (s.answerFrame n 0x09 .badState [])) ∧
      (q.state = .active →
        exec (.portDisable f) s =
          .next ((((s.setPort p { q with
            state := .draining, assembly := [],
            submitDropped := q.submitDropped || decide (q.assembly ≠ []) }).setOpportunity true).settle
              p).answerFrame n 0x09 .ok []))

/-- GEOMETRY_WRITE, GEOMETRY_DELETE, TIMEBASE_WRITE and COUNTERS_CLEAR: their checks, and what each changes; the Geometry Table stays in ascending order of K with no K twice (spec/01 R28 to R30, spec/06 R117, R192, R199). With them what counting an event does: its port's counter of Table 10-3 grows by one and stays at 2^32 - 1, and nothing else changes (R196). -/
def Obligations.TableCommands : Prop :=
  (∀ n : BitVec 32, (countUp n).toNat = if n.toNat = 2 ^ 32 - 1 then 2 ^ 32 - 1 else n.toNat + 1) ∧
  (∀ (s : State) (p : PortId) (k c : Counters), s.counters p = k →
    s.setCounters p c = s.setLink { s.link with counters := s.link.counters.set p.val c p.isLt } ∧
    s.countAdmitted p = s.setCounters p { k with attemptsAdmitted := countUp k.attemptsAdmitted } ∧
    s.countPass p = s.setCounters p { k with passes := countUp k.passes } ∧
    s.countFailure p = s.setCounters p { k with failures := countUp k.failures } ∧
    s.countExpiry p = s.setCounters p { k with expiries := countUp k.expiries } ∧
    s.countEviction p = s.setCounters p { k with evictions := countUp k.evictions } ∧
    s.countRefusal p = s.setCounters p { k with refusals := countUp k.refusals }) ∧
  ∀ (s : State) (f : Frame) (n : Nat), n = frameLength f →
    (∀ g, 6 ≤ f.args.length → g = ⟨beNat (field f.args 0 2), beNat (field f.args 2 2), beNat (field f.args 4 2)⟩ →
      (¬ (64 ≤ g.K ∧ g.K ≤ 8192 ∧ g.K % 8 = 0 ∧ 1 ≤ g.permA ∧ g.permA < g.K ∧ Nat.gcd g.permA g.K = 1 ∧ g.permB < g.K) →
        exec (.geometryWrite f) s = .next (s.answerFrame n 0x04 .badGeometry [])) ∧
      (64 ≤ g.K → g.K ≤ 8192 → g.K % 8 = 0 → 1 ≤ g.permA → g.permA < g.K → Nat.gcd g.permA g.K = 1 → g.permB < g.K →
        s.geometry.Pairwise (fun a b => a.K < b.K) →
        ((∀ x ∈ s.geometry, x.K ≠ g.K) → 128 ≤ s.geometry.length →
          exec (.geometryWrite f) s = .next (s.answerFrame n 0x04 .geometryFull [])) ∧
        (((∃ x ∈ s.geometry, x.K = g.K) ∨ s.geometry.length < 128) →
          ∃ table, exec (.geometryWrite f) s = .next ((s.setGeometry table).answerFrame n 0x04 .ok []) ∧
            table.Pairwise (fun a b => a.K < b.K) ∧
            ∀ x, x ∈ table ↔ x = g ∨ (x ∈ s.geometry ∧ x.K ≠ g.K)))) ∧
    (∀ K, 2 ≤ f.args.length → K = beNat (field f.args 0 2) →
      ((∀ x ∈ s.geometry, x.K ≠ K) → exec (.geometryDelete f) s = .next (s.answerFrame n 0x06 .badGeometry [])) ∧
      ((∃ x ∈ s.geometry, x.K = K) →
        exec (.geometryDelete f) s =
          .next ((s.setGeometry (s.geometry.filter fun x => decide (x.K ≠ K))).answerFrame n 0x06 .ok []))) ∧
    (∀ v, 2 ≤ f.args.length → v = beNat (field f.args 0 2) →
      ((v = 0 ∨ 4000 < v) → exec (.timebaseWrite f) s = .next (s.answerFrame n 0x10 .badProfile [])) ∧
      (1 ≤ v → v ≤ 4000 →
        exec (.timebaseWrite f) s =
          .next ((s.setExpiry { s.expiry with timebase := v }).answerFrame n 0x10 .ok []))) ∧
    ∀ b more, f.args = b :: more →
      (4 ≤ b.toNat → exec (.countersClear f) s = .next (s.answerFrame n 0x14 .badPort [])) ∧
      ∀ p : PortId, b.toNat = p.val →
        exec (.countersClear f) s =
          .next ((s.setCounters p ⟨0, 0, 0, 0, 0, 0⟩).answerFrame n 0x14 .ok [])

/-- DEVICE_RESET and the power-on reset: every item of the device at the value its rule gives, with the profiles, the Geometry Table, the spares, the retired pages, the shortfall and the timebase kept by DEVICE_RESET alone. An OFF port and a FREE entry are spelled field by field (spec/01 R8, spec/07 R148, spec/08 R168). That the waiting commands and a port's last bus output are kept is the model's choice (log entries 8 and 21) (R193, R201, spec/02 R33, R34, spec/06 Table 6-1, spec/09 R185). -/
def Obligations.ResetsOfTheDevice : Prop :=
  (∀ (f : Profile) (b : BusOut), Port.offWith f b =
    { state := .off, profile := f, assembly := [], queue := [], buf0 := ⟨.filling, [], false⟩,
      buf1 := ⟨.free, [], false⟩, slot := .empty, intake := .running, headReserved := false, stallSignalled := false,
      submitDropped := false, softDropped := false, answers := [], reservations := 0,
      outSlots := Vector.replicate 4 .free, closing := [], bus := b }) ∧
  Context.free =
    { state := .free, port := 0, tag := 0, K := 0, L := 0, pageCount := 0, permA := 0, permB := 0, pages := [],
      lastAttempt := 0, combinedCount := 0, gap := false, pendingDecode := none, releasePending := none, deadline := 0,
      owedNotice := none, units := ⟨false, false⟩ } ∧
  ∀ (s : State) (f : Frame),
    (∃ t : State, exec (.deviceReset f) s = .next (t.answerFrame (frameLength f) 0x0F .ok []) ∧
      (∀ e, t.ctx e = Context.free) ∧ t.geometry = s.geometry ∧
      t.pool.freeList = (List.finRange 2112).filter (fun pg =>
        decide (pg ∉ s.pool.spareList ∧ pg ∉ s.pool.retiredList)) ∧
      t.pool.spareList = s.pool.spareList ∧ t.pool.retiredList = s.pool.retiredList ∧
      t.pool.shortfall = s.pool.shortfall ∧ (∀ p, t.pool.usageOf p = 0) ∧ t.store = s.store ∧
      t.engine = ⟨0, none⟩ ∧ t.dispatcher.mode = .normal ∧ t.dispatcher.pointer = 0 ∧
      (∀ p, t.dispatchQueue p = []) ∧ t.opportunity = false ∧ t.units = .apart none none ∧
      t.expiry = ⟨0, s.expiry.timebase, s.expiry.timebase, 0, []⟩ ∧
      (∀ p, t.port p = Port.offWith (s.port p).profile (s.port p).bus) ∧ (∀ p, t.causes p = ⟨false, false⟩) ∧
      (∀ p, t.counters p = ⟨0, 0, 0, 0, 0, 0⟩) ∧ t.link.reply = s.link.reply ∧ t.pending = s.pending) ∧
    ∃ t : State, exec .powerOnReset s = .next t ∧ (∀ e, t.ctx e = Context.free) ∧ t.geometry = [] ∧
      t.pool.freeList.map Fin.val = List.range 2048 ∧
      t.pool.spareList.map Fin.val = (List.range 64).map (2048 + ·) ∧ t.pool.retiredList = [] ∧
      t.pool.shortfall = 0 ∧ (∀ p, t.pool.usageOf p = 0) ∧ t.engine = ⟨0, none⟩ ∧ t.dispatcher.mode = .normal ∧
      t.dispatcher.pointer = 0 ∧ (∀ p, t.dispatchQueue p = []) ∧ t.opportunity = false ∧
      t.units = .apart none none ∧ t.expiry = ⟨0, 4, 4, 0, []⟩ ∧
      (∀ p, t.port p = Port.offWith
        ⟨0, 0, 0, 4, 8, 500, 50, .refuse, [24, 24, 24, 24, 24, 24, 24, 24, 24, 24, 24, 24]⟩ (t.port p).bus) ∧
      (∀ p, t.causes p = ⟨false, false⟩) ∧ (∀ p, t.counters p = ⟨0, 0, 0, 0, 0, 0⟩) ∧
      t.link.lastResult = .ok ∧ t.link.reply = List.replicate 134 0 ∧ t.pending = s.pending

/-! ### The two doors of the device -/

/-- Decoding and encoding agree: every well-formed management command is read back from its frame bits, and every bit sequence spells exactly one command; every well-formed client port command is read back from its bus access. The code byte of each management command is that of Table 11-9 and every byte goes most significant bit first; the offset of each client port command is that of Table 11-1 (spec/10 R186, R188, spec/07 R128, spec/11 R203). That an access counts by the 64-bit word it lies in (log entry 7), and that the row UNMAPPED_WRITE carries the reads that no other row takes (log entry 9), are the model's choices. -/
def Obligations.DoorsReadBackWhatTheySpell : Prop :=
  (∀ (f : Frame) (spell : Byte → Option (List Bool)),
    spell = (fun code => some ((code :: f.args).flatMap (fun b => (List.range 8).map fun k => b.getLsbD (7 - k)) ++
      f.spare)) →
    frameBits (.statusRead f) = spell 0x01 ∧ frameBits (.profileWrite f) = spell 0x02 ∧
    frameBits (.profileRead f) = spell 0x03 ∧ frameBits (.geometryWrite f) = spell 0x04 ∧
    frameBits (.geometryRead f) = spell 0x05 ∧ frameBits (.geometryDelete f) = spell 0x06 ∧
    frameBits (.portEnable f) = spell 0x08 ∧ frameBits (.portDisable f) = spell 0x09 ∧
    frameBits (.portReset f) = spell 0x0A ∧ frameBits (.deviceReset f) = spell 0x0F ∧
    frameBits (.timebaseWrite f) = spell 0x10 ∧ frameBits (.poolRead f) = spell 0x11 ∧
    frameBits (.contextRead f) = spell 0x12 ∧ frameBits (.countersRead f) = spell 0x13 ∧
    frameBits (.countersClear f) = spell 0x14 ∧ frameBits (.clockRead f) = spell 0x15 ∧
    frameBits (.frameRefused none f) = some f.spare ∧ ∀ c, frameBits (.frameRefused (some c) f) = spell c) ∧
  (∀ (p : PortId) (addr : BitVec 16) (w : WriteBurst) (word : Nat), word = addr.toNat / 8 * 8 →
    (word = 0x0000 → busCommand p (.write addr w) = .submit p w) ∧
    (word = 0x0008 → busCommand p (.write addr w) = .softData p w) ∧
    (word = 0x0020 → busCommand p (.write addr w) = .returnSlot p w) ∧
    (word = 0x0030 → busCommand p (.write addr w) = .selfReset p w) ∧
    (word ∉ [0x0000, 0x0008, 0x0020, 0x0030] → busCommand p (.write addr w) = .unmappedWrite p (.write addr w))) ∧
  (∀ (p : PortId) (b : ReadBeat) (later : List ReadBeat) (word : Nat), word = b.addr.toNat / 8 * 8 →
    (word = 0x0010 → busCommand p (.read b later) = .answer p (b.lanes :: later.map (·.lanes))) ∧
    (word = 0x0028 → busCommand p (.read b later) = .status p b.lanes later) ∧
    (word ∉ [0x0010, 0x0028] → busCommand p (.read b later) = .unmappedWrite p (.read (b :: later)))) ∧
  (∀ (i : Instr) (bits : List Bool), i.wf = true → frameBits i = some bits → frameCommand bits = i) ∧
  (∀ bits : List Bool, frameBits (frameCommand bits) = some bits ∧ (frameCommand bits).wf = true) ∧
  ∀ (i : Instr) (p : PortId) (a : BusAccess), i.wf = true → busAccess i = some (p, a) → busCommand p a = i
end

