-- ==== Sys2Proof/Laws/State.lean ====
section
/-! SUPPORT. One lemma per field per update of State, and what each update of an indexed part reads back as. -/

namespace Sys2Proof.Machine

/-! ### What an indexed update reads back as -/

@[simp] theorem State.setCtx_ctx_same (s : State) (e : Entry) (c : Context) : (s.setCtx e c).ctx e = c := by
  simp [State.setCtx, State.ctx, Vector.get_eq_getElem]

@[simp] theorem State.setCtx_ctx_other (s : State) (e d : Entry) (c : Context) (h : e ≠ d) :
    (s.setCtx e c).ctx d = s.ctx d := by
  have h' : (e : Nat) ≠ d := fun x => h (Fin.ext x)
  simp [State.setCtx, State.ctx, Vector.get_eq_getElem, Vector.getElem_set_ne, h']

/-- Every entry after one is replaced. -/
theorem State.setCtx_ctx (s : State) (e d : Entry) (c : Context) :
    (s.setCtx e c).ctx d = if e = d then c else s.ctx d := by
  by_cases h : e = d
  · subst h; simp
  · simp [h]

@[simp] theorem State.setPort_port_same (s : State) (p : PortId) (q : Port) : (s.setPort p q).port p = q := by
  simp [State.setPort, State.port, Vector.get_eq_getElem]

@[simp] theorem State.setPort_port_other (s : State) (p r : PortId) (q : Port) (h : p ≠ r) :
    (s.setPort p q).port r = s.port r := by
  have h' : (p : Nat) ≠ r := fun x => h (Fin.ext x)
  simp [State.setPort, State.port, Vector.get_eq_getElem, Vector.getElem_set_ne, h']

@[simp] theorem State.onPort_port_same (s : State) (p : PortId) (f : Port → Port) :
    (s.onPort p f).port p = f (s.port p) := by simp [State.onPort]

@[simp] theorem State.onPort_port_other (s : State) (p r : PortId) (f : Port → Port) (h : p ≠ r) :
    (s.onPort p f).port r = s.port r := by simp [State.onPort, h]

/-- Every port after one is changed. -/
theorem State.onPort_port (s : State) (p r : PortId) (f : Port → Port) :
    (s.onPort p f).port r = if p = r then f (s.port p) else s.port r := by
  by_cases h : p = r
  · subst h; simp
  · simp [h]

@[simp] theorem State.setDispatchQueue_same (s : State) (p : PortId) (l : List Entry) :
    (s.setDispatchQueue p l).dispatchQueue p = l := by
  simp [State.setDispatchQueue, State.dispatchQueue, State.setDispatcher, Vector.get_eq_getElem]

@[simp] theorem State.setDispatchQueue_other (s : State) (p r : PortId) (l : List Entry) (h : p ≠ r) :
    (s.setDispatchQueue p l).dispatchQueue r = s.dispatchQueue r := by
  have h' : (p : Nat) ≠ r := fun x => h (Fin.ext x)
  simp [State.setDispatchQueue, State.dispatchQueue, State.setDispatcher, Vector.get_eq_getElem,
    Vector.getElem_set_ne, h']

@[simp] theorem State.setDispatchQueue_mode (s : State) (p : PortId) (l : List Entry) :
    (s.setDispatchQueue p l).dispatcher.mode = s.dispatcher.mode := rfl

@[simp] theorem State.setDispatchQueue_pointer (s : State) (p : PortId) (l : List Entry) :
    (s.setDispatchQueue p l).dispatcher.pointer = s.dispatcher.pointer := rfl

@[simp] theorem State.setCounters_same (s : State) (p : PortId) (k : Counters) :
    (s.setCounters p k).counters p = k := by
  simp [State.setCounters, State.counters, State.setLink, Vector.get_eq_getElem]

@[simp] theorem State.setCounters_other (s : State) (p r : PortId) (k : Counters) (h : p ≠ r) :
    (s.setCounters p k).counters r = s.counters r := by
  have h' : (p : Nat) ≠ r := fun x => h (Fin.ext x)
  simp [State.setCounters, State.counters, State.setLink, Vector.get_eq_getElem, Vector.getElem_set_ne, h']

@[simp] theorem State.setCounters_causes (s : State) (p r : PortId) (k : Counters) :
    (s.setCounters p k).causes r = s.causes r := rfl

@[simp] theorem State.setCauses_same (s : State) (p : PortId) (k : Causes) : (s.setCauses p k).causes p = k := by
  simp [State.setCauses, State.causes, State.setLink, Vector.get_eq_getElem]

@[simp] theorem State.setCauses_other (s : State) (p r : PortId) (k : Causes) (h : p ≠ r) :
    (s.setCauses p k).causes r = s.causes r := by
  have h' : (p : Nat) ≠ r := fun x => h (Fin.ext x)
  simp [State.setCauses, State.causes, State.setLink, Vector.get_eq_getElem, Vector.getElem_set_ne, h']

@[simp] theorem State.setCauses_counters (s : State) (p r : PortId) (k : Causes) :
    (s.setCauses p k).counters r = s.counters r := rfl

@[simp] theorem State.setExpiryList_list (s : State) (l : List Entry) : (s.setExpiryList l).expiry.list = l := rfl

@[simp] theorem State.setExpiryList_clock (s : State) (l : List Entry) :
    (s.setExpiryList l).expiry.clock = s.expiry.clock := rfl

@[simp] theorem Pool.setUsage_same (pl : Pool) (p : PortId) (n : Nat) : (pl.setUsage p n).usageOf p = n := by
  simp [Pool.setUsage, Pool.usageOf, Vector.get_eq_getElem]

@[simp] theorem Pool.setUsage_other (pl : Pool) (p r : PortId) (n : Nat) (h : p ≠ r) :
    (pl.setUsage p n).usageOf r = pl.usageOf r := by
  have h' : (p : Nat) ≠ r := fun x => h (Fin.ext x)
  simp [Pool.setUsage, Pool.usageOf, Vector.get_eq_getElem, Vector.getElem_set_ne, h']

/-- Usage after pages are given back. -/
theorem Pool.giveBack_usage (pl : Pool) (p r : PortId) (pages : List Page) (n : Nat) :
    (pl.giveBack p pages n).usageOf r = if p = r then pl.usageOf p - n else pl.usageOf r := by
  by_cases h : p = r
  · subst h; simp [Pool.giveBack, Pool.usageOf, Vector.get_eq_getElem]
  · have h' : (p : Nat) ≠ r := fun x => h (Fin.ext x)
    simp [Pool.giveBack, Pool.usageOf, Vector.get_eq_getElem, Vector.getElem_set_ne, h', h]

/-- Usage after a grant. -/
theorem Pool.take_usage (pl : Pool) (p r : PortId) (n : Nat) :
    (pl.take p n).usageOf r = if p = r then pl.usageOf p + n else pl.usageOf r := by
  by_cases h : p = r
  · subst h; simp [Pool.take, Pool.usageOf, Vector.get_eq_getElem]
  · have h' : (p : Nat) ≠ r := fun x => h (Fin.ext x)
    simp [Pool.take, Pool.usageOf, Vector.get_eq_getElem, Vector.getElem_set_ne, h', h]

/-! ### What each update leaves as it was -/

@[simp] theorem State.setCtx_geometry (s : State) (e : Entry) (c : Context) : (s.setCtx e c).geometry = s.geometry := rfl

@[simp] theorem State.setCtx_pool (s : State) (e : Entry) (c : Context) : (s.setCtx e c).pool = s.pool := rfl

@[simp] theorem State.setCtx_store (s : State) (e : Entry) (c : Context) : (s.setCtx e c).store = s.store := rfl

@[simp] theorem State.setCtx_engine (s : State) (e : Entry) (c : Context) : (s.setCtx e c).engine = s.engine := rfl

@[simp] theorem State.setCtx_dispatcher (s : State) (e : Entry) (c : Context) : (s.setCtx e c).dispatcher = s.dispatcher := rfl

@[simp] theorem State.setCtx_opportunity (s : State) (e : Entry) (c : Context) : (s.setCtx e c).opportunity = s.opportunity := rfl

@[simp] theorem State.setCtx_units (s : State) (e : Entry) (c : Context) : (s.setCtx e c).units = s.units := rfl

@[simp] theorem State.setCtx_expiry (s : State) (e : Entry) (c : Context) : (s.setCtx e c).expiry = s.expiry := rfl

@[simp] theorem State.setCtx_ports (s : State) (e : Entry) (c : Context) : (s.setCtx e c).ports = s.ports := rfl

@[simp] theorem State.setCtx_link (s : State) (e : Entry) (c : Context) : (s.setCtx e c).link = s.link := rfl

@[simp] theorem State.setCtx_pending (s : State) (e : Entry) (c : Context) : (s.setCtx e c).pending = s.pending := rfl

@[simp] theorem State.setCtx_port (s : State) (e : Entry) (c : Context) (x : PortId) : (s.setCtx e c).port x = s.port x := rfl

@[simp] theorem State.setCtx_dispatchQueue (s : State) (e : Entry) (c : Context) (x : PortId) : (s.setCtx e c).dispatchQueue x = s.dispatchQueue x := rfl

@[simp] theorem State.setCtx_counters (s : State) (e : Entry) (c : Context) (x : PortId) : (s.setCtx e c).counters x = s.counters x := rfl

@[simp] theorem State.setCtx_causes (s : State) (e : Entry) (c : Context) (x : PortId) : (s.setCtx e c).causes x = s.causes x := rfl

@[simp] theorem State.setPort_contexts (s : State) (p : PortId) (q : Port) : (s.setPort p q).contexts = s.contexts := rfl

@[simp] theorem State.setPort_geometry (s : State) (p : PortId) (q : Port) : (s.setPort p q).geometry = s.geometry := rfl

@[simp] theorem State.setPort_pool (s : State) (p : PortId) (q : Port) : (s.setPort p q).pool = s.pool := rfl

@[simp] theorem State.setPort_store (s : State) (p : PortId) (q : Port) : (s.setPort p q).store = s.store := rfl

@[simp] theorem State.setPort_engine (s : State) (p : PortId) (q : Port) : (s.setPort p q).engine = s.engine := rfl

@[simp] theorem State.setPort_dispatcher (s : State) (p : PortId) (q : Port) : (s.setPort p q).dispatcher = s.dispatcher := rfl

@[simp] theorem State.setPort_opportunity (s : State) (p : PortId) (q : Port) : (s.setPort p q).opportunity = s.opportunity := rfl

@[simp] theorem State.setPort_units (s : State) (p : PortId) (q : Port) : (s.setPort p q).units = s.units := rfl

@[simp] theorem State.setPort_expiry (s : State) (p : PortId) (q : Port) : (s.setPort p q).expiry = s.expiry := rfl

@[simp] theorem State.setPort_link (s : State) (p : PortId) (q : Port) : (s.setPort p q).link = s.link := rfl

@[simp] theorem State.setPort_pending (s : State) (p : PortId) (q : Port) : (s.setPort p q).pending = s.pending := rfl

@[simp] theorem State.setPort_ctx (s : State) (p : PortId) (q : Port) (x : Entry) : (s.setPort p q).ctx x = s.ctx x := rfl

@[simp] theorem State.setPort_dispatchQueue (s : State) (p : PortId) (q : Port) (x : PortId) : (s.setPort p q).dispatchQueue x = s.dispatchQueue x := rfl

@[simp] theorem State.setPort_counters (s : State) (p : PortId) (q : Port) (x : PortId) : (s.setPort p q).counters x = s.counters x := rfl

@[simp] theorem State.setPort_causes (s : State) (p : PortId) (q : Port) (x : PortId) : (s.setPort p q).causes x = s.causes x := rfl

@[simp] theorem State.onPort_contexts (s : State) (p : PortId) (f : Port → Port) : (s.onPort p f).contexts = s.contexts := rfl

@[simp] theorem State.onPort_geometry (s : State) (p : PortId) (f : Port → Port) : (s.onPort p f).geometry = s.geometry := rfl

@[simp] theorem State.onPort_pool (s : State) (p : PortId) (f : Port → Port) : (s.onPort p f).pool = s.pool := rfl

@[simp] theorem State.onPort_store (s : State) (p : PortId) (f : Port → Port) : (s.onPort p f).store = s.store := rfl

@[simp] theorem State.onPort_engine (s : State) (p : PortId) (f : Port → Port) : (s.onPort p f).engine = s.engine := rfl

@[simp] theorem State.onPort_dispatcher (s : State) (p : PortId) (f : Port → Port) : (s.onPort p f).dispatcher = s.dispatcher := rfl

@[simp] theorem State.onPort_opportunity (s : State) (p : PortId) (f : Port → Port) : (s.onPort p f).opportunity = s.opportunity := rfl

@[simp] theorem State.onPort_units (s : State) (p : PortId) (f : Port → Port) : (s.onPort p f).units = s.units := rfl

@[simp] theorem State.onPort_expiry (s : State) (p : PortId) (f : Port → Port) : (s.onPort p f).expiry = s.expiry := rfl

@[simp] theorem State.onPort_link (s : State) (p : PortId) (f : Port → Port) : (s.onPort p f).link = s.link := rfl

@[simp] theorem State.onPort_pending (s : State) (p : PortId) (f : Port → Port) : (s.onPort p f).pending = s.pending := rfl

@[simp] theorem State.onPort_ctx (s : State) (p : PortId) (f : Port → Port) (x : Entry) : (s.onPort p f).ctx x = s.ctx x := rfl

@[simp] theorem State.onPort_dispatchQueue (s : State) (p : PortId) (f : Port → Port) (x : PortId) : (s.onPort p f).dispatchQueue x = s.dispatchQueue x := rfl

@[simp] theorem State.onPort_counters (s : State) (p : PortId) (f : Port → Port) (x : PortId) : (s.onPort p f).counters x = s.counters x := rfl

@[simp] theorem State.onPort_causes (s : State) (p : PortId) (f : Port → Port) (x : PortId) : (s.onPort p f).causes x = s.causes x := rfl

@[simp] theorem State.setPool_contexts (s : State) (v : Pool) : (s.setPool v).contexts = s.contexts := rfl

@[simp] theorem State.setPool_geometry (s : State) (v : Pool) : (s.setPool v).geometry = s.geometry := rfl

@[simp] theorem State.setPool_pool (s : State) (v : Pool) : (s.setPool v).pool = v := rfl

@[simp] theorem State.setPool_store (s : State) (v : Pool) : (s.setPool v).store = s.store := rfl

@[simp] theorem State.setPool_engine (s : State) (v : Pool) : (s.setPool v).engine = s.engine := rfl

@[simp] theorem State.setPool_dispatcher (s : State) (v : Pool) : (s.setPool v).dispatcher = s.dispatcher := rfl

@[simp] theorem State.setPool_opportunity (s : State) (v : Pool) : (s.setPool v).opportunity = s.opportunity := rfl

@[simp] theorem State.setPool_units (s : State) (v : Pool) : (s.setPool v).units = s.units := rfl

@[simp] theorem State.setPool_expiry (s : State) (v : Pool) : (s.setPool v).expiry = s.expiry := rfl

@[simp] theorem State.setPool_ports (s : State) (v : Pool) : (s.setPool v).ports = s.ports := rfl

@[simp] theorem State.setPool_link (s : State) (v : Pool) : (s.setPool v).link = s.link := rfl

@[simp] theorem State.setPool_pending (s : State) (v : Pool) : (s.setPool v).pending = s.pending := rfl

@[simp] theorem State.setPool_ctx (s : State) (v : Pool) (x : Entry) : (s.setPool v).ctx x = s.ctx x := rfl

@[simp] theorem State.setPool_port (s : State) (v : Pool) (x : PortId) : (s.setPool v).port x = s.port x := rfl

@[simp] theorem State.setPool_dispatchQueue (s : State) (v : Pool) (x : PortId) : (s.setPool v).dispatchQueue x = s.dispatchQueue x := rfl

@[simp] theorem State.setPool_counters (s : State) (v : Pool) (x : PortId) : (s.setPool v).counters x = s.counters x := rfl

@[simp] theorem State.setPool_causes (s : State) (v : Pool) (x : PortId) : (s.setPool v).causes x = s.causes x := rfl

@[simp] theorem State.setStore_contexts (s : State) (v : List Host.Cell) : (s.setStore v).contexts = s.contexts := rfl

@[simp] theorem State.setStore_geometry (s : State) (v : List Host.Cell) : (s.setStore v).geometry = s.geometry := rfl

@[simp] theorem State.setStore_pool (s : State) (v : List Host.Cell) : (s.setStore v).pool = s.pool := rfl

@[simp] theorem State.setStore_store (s : State) (v : List Host.Cell) : (s.setStore v).store = v := rfl

@[simp] theorem State.setStore_engine (s : State) (v : List Host.Cell) : (s.setStore v).engine = s.engine := rfl

@[simp] theorem State.setStore_dispatcher (s : State) (v : List Host.Cell) : (s.setStore v).dispatcher = s.dispatcher := rfl

@[simp] theorem State.setStore_opportunity (s : State) (v : List Host.Cell) : (s.setStore v).opportunity = s.opportunity := rfl

@[simp] theorem State.setStore_units (s : State) (v : List Host.Cell) : (s.setStore v).units = s.units := rfl

@[simp] theorem State.setStore_expiry (s : State) (v : List Host.Cell) : (s.setStore v).expiry = s.expiry := rfl

@[simp] theorem State.setStore_ports (s : State) (v : List Host.Cell) : (s.setStore v).ports = s.ports := rfl

@[simp] theorem State.setStore_link (s : State) (v : List Host.Cell) : (s.setStore v).link = s.link := rfl

@[simp] theorem State.setStore_pending (s : State) (v : List Host.Cell) : (s.setStore v).pending = s.pending := rfl

@[simp] theorem State.setStore_ctx (s : State) (v : List Host.Cell) (x : Entry) : (s.setStore v).ctx x = s.ctx x := rfl

@[simp] theorem State.setStore_port (s : State) (v : List Host.Cell) (x : PortId) : (s.setStore v).port x = s.port x := rfl

@[simp] theorem State.setStore_dispatchQueue (s : State) (v : List Host.Cell) (x : PortId) : (s.setStore v).dispatchQueue x = s.dispatchQueue x := rfl

@[simp] theorem State.setStore_counters (s : State) (v : List Host.Cell) (x : PortId) : (s.setStore v).counters x = s.counters x := rfl

@[simp] theorem State.setStore_causes (s : State) (v : List Host.Cell) (x : PortId) : (s.setStore v).causes x = s.causes x := rfl

@[simp] theorem State.setGeometry_contexts (s : State) (v : List GeometryEntry) : (s.setGeometry v).contexts = s.contexts := rfl

@[simp] theorem State.setGeometry_geometry (s : State) (v : List GeometryEntry) : (s.setGeometry v).geometry = v := rfl

@[simp] theorem State.setGeometry_pool (s : State) (v : List GeometryEntry) : (s.setGeometry v).pool = s.pool := rfl

@[simp] theorem State.setGeometry_store (s : State) (v : List GeometryEntry) : (s.setGeometry v).store = s.store := rfl

@[simp] theorem State.setGeometry_engine (s : State) (v : List GeometryEntry) : (s.setGeometry v).engine = s.engine := rfl

@[simp] theorem State.setGeometry_dispatcher (s : State) (v : List GeometryEntry) : (s.setGeometry v).dispatcher = s.dispatcher := rfl

@[simp] theorem State.setGeometry_opportunity (s : State) (v : List GeometryEntry) : (s.setGeometry v).opportunity = s.opportunity := rfl

@[simp] theorem State.setGeometry_units (s : State) (v : List GeometryEntry) : (s.setGeometry v).units = s.units := rfl

@[simp] theorem State.setGeometry_expiry (s : State) (v : List GeometryEntry) : (s.setGeometry v).expiry = s.expiry := rfl

@[simp] theorem State.setGeometry_ports (s : State) (v : List GeometryEntry) : (s.setGeometry v).ports = s.ports := rfl

@[simp] theorem State.setGeometry_link (s : State) (v : List GeometryEntry) : (s.setGeometry v).link = s.link := rfl

@[simp] theorem State.setGeometry_pending (s : State) (v : List GeometryEntry) : (s.setGeometry v).pending = s.pending := rfl

@[simp] theorem State.setGeometry_ctx (s : State) (v : List GeometryEntry) (x : Entry) : (s.setGeometry v).ctx x = s.ctx x := rfl

@[simp] theorem State.setGeometry_port (s : State) (v : List GeometryEntry) (x : PortId) : (s.setGeometry v).port x = s.port x := rfl

@[simp] theorem State.setGeometry_dispatchQueue (s : State) (v : List GeometryEntry) (x : PortId) : (s.setGeometry v).dispatchQueue x = s.dispatchQueue x := rfl

@[simp] theorem State.setGeometry_counters (s : State) (v : List GeometryEntry) (x : PortId) : (s.setGeometry v).counters x = s.counters x := rfl

@[simp] theorem State.setGeometry_causes (s : State) (v : List GeometryEntry) (x : PortId) : (s.setGeometry v).causes x = s.causes x := rfl

@[simp] theorem State.setEngine_contexts (s : State) (v : Engine) : (s.setEngine v).contexts = s.contexts := rfl

@[simp] theorem State.setEngine_geometry (s : State) (v : Engine) : (s.setEngine v).geometry = s.geometry := rfl

@[simp] theorem State.setEngine_pool (s : State) (v : Engine) : (s.setEngine v).pool = s.pool := rfl

@[simp] theorem State.setEngine_store (s : State) (v : Engine) : (s.setEngine v).store = s.store := rfl

@[simp] theorem State.setEngine_engine (s : State) (v : Engine) : (s.setEngine v).engine = v := rfl

@[simp] theorem State.setEngine_dispatcher (s : State) (v : Engine) : (s.setEngine v).dispatcher = s.dispatcher := rfl

@[simp] theorem State.setEngine_opportunity (s : State) (v : Engine) : (s.setEngine v).opportunity = s.opportunity := rfl

@[simp] theorem State.setEngine_units (s : State) (v : Engine) : (s.setEngine v).units = s.units := rfl

@[simp] theorem State.setEngine_expiry (s : State) (v : Engine) : (s.setEngine v).expiry = s.expiry := rfl

@[simp] theorem State.setEngine_ports (s : State) (v : Engine) : (s.setEngine v).ports = s.ports := rfl

@[simp] theorem State.setEngine_link (s : State) (v : Engine) : (s.setEngine v).link = s.link := rfl

@[simp] theorem State.setEngine_pending (s : State) (v : Engine) : (s.setEngine v).pending = s.pending := rfl

@[simp] theorem State.setEngine_ctx (s : State) (v : Engine) (x : Entry) : (s.setEngine v).ctx x = s.ctx x := rfl

@[simp] theorem State.setEngine_port (s : State) (v : Engine) (x : PortId) : (s.setEngine v).port x = s.port x := rfl

@[simp] theorem State.setEngine_dispatchQueue (s : State) (v : Engine) (x : PortId) : (s.setEngine v).dispatchQueue x = s.dispatchQueue x := rfl

@[simp] theorem State.setEngine_counters (s : State) (v : Engine) (x : PortId) : (s.setEngine v).counters x = s.counters x := rfl

@[simp] theorem State.setEngine_causes (s : State) (v : Engine) (x : PortId) : (s.setEngine v).causes x = s.causes x := rfl

@[simp] theorem State.setDispatcher_contexts (s : State) (v : Dispatcher) : (s.setDispatcher v).contexts = s.contexts := rfl

@[simp] theorem State.setDispatcher_geometry (s : State) (v : Dispatcher) : (s.setDispatcher v).geometry = s.geometry := rfl

@[simp] theorem State.setDispatcher_pool (s : State) (v : Dispatcher) : (s.setDispatcher v).pool = s.pool := rfl

@[simp] theorem State.setDispatcher_store (s : State) (v : Dispatcher) : (s.setDispatcher v).store = s.store := rfl

@[simp] theorem State.setDispatcher_engine (s : State) (v : Dispatcher) : (s.setDispatcher v).engine = s.engine := rfl

@[simp] theorem State.setDispatcher_dispatcher (s : State) (v : Dispatcher) : (s.setDispatcher v).dispatcher = v := rfl

@[simp] theorem State.setDispatcher_units (s : State) (v : Dispatcher) : (s.setDispatcher v).units = s.units := rfl

@[simp] theorem State.setDispatcher_expiry (s : State) (v : Dispatcher) : (s.setDispatcher v).expiry = s.expiry := rfl

@[simp] theorem State.setDispatcher_ports (s : State) (v : Dispatcher) : (s.setDispatcher v).ports = s.ports := rfl

@[simp] theorem State.setDispatcher_link (s : State) (v : Dispatcher) : (s.setDispatcher v).link = s.link := rfl

@[simp] theorem State.setDispatcher_pending (s : State) (v : Dispatcher) : (s.setDispatcher v).pending = s.pending := rfl

@[simp] theorem State.setDispatcher_ctx (s : State) (v : Dispatcher) (x : Entry) : (s.setDispatcher v).ctx x = s.ctx x := rfl

@[simp] theorem State.setDispatcher_port (s : State) (v : Dispatcher) (x : PortId) : (s.setDispatcher v).port x = s.port x := rfl

@[simp] theorem State.setDispatcher_counters (s : State) (v : Dispatcher) (x : PortId) : (s.setDispatcher v).counters x = s.counters x := rfl

@[simp] theorem State.setDispatcher_causes (s : State) (v : Dispatcher) (x : PortId) : (s.setDispatcher v).causes x = s.causes x := rfl

@[simp] theorem State.setDispatcher_opportunity (s : State) (v : Dispatcher) : (s.setDispatcher v).opportunity = s.opportunity := rfl

@[simp] theorem State.setDispatchQueue_opportunity (s : State) (p : PortId) (l : List Entry) : (s.setDispatchQueue p l).opportunity = s.opportunity := rfl

@[simp] theorem State.setOpportunity_contexts (s : State) (b : Bool) : (s.setOpportunity b).contexts = s.contexts := rfl

@[simp] theorem State.setOpportunity_geometry (s : State) (b : Bool) : (s.setOpportunity b).geometry = s.geometry := rfl

@[simp] theorem State.setOpportunity_pool (s : State) (b : Bool) : (s.setOpportunity b).pool = s.pool := rfl

@[simp] theorem State.setOpportunity_store (s : State) (b : Bool) : (s.setOpportunity b).store = s.store := rfl

@[simp] theorem State.setOpportunity_engine (s : State) (b : Bool) : (s.setOpportunity b).engine = s.engine := rfl

@[simp] theorem State.setOpportunity_dispatcher (s : State) (b : Bool) : (s.setOpportunity b).dispatcher = s.dispatcher := rfl

@[simp] theorem State.setOpportunity_units (s : State) (b : Bool) : (s.setOpportunity b).units = s.units := rfl

@[simp] theorem State.setOpportunity_expiry (s : State) (b : Bool) : (s.setOpportunity b).expiry = s.expiry := rfl

@[simp] theorem State.setOpportunity_ports (s : State) (b : Bool) : (s.setOpportunity b).ports = s.ports := rfl

@[simp] theorem State.setOpportunity_link (s : State) (b : Bool) : (s.setOpportunity b).link = s.link := rfl

@[simp] theorem State.setOpportunity_pending (s : State) (b : Bool) : (s.setOpportunity b).pending = s.pending := rfl

@[simp] theorem State.setOpportunity_opportunity (s : State) (b : Bool) : (s.setOpportunity b).opportunity = b := rfl

@[simp] theorem State.setOpportunity_ctx (s : State) (b : Bool) (x : Entry) : (s.setOpportunity b).ctx x = s.ctx x := rfl

@[simp] theorem State.setOpportunity_port (s : State) (b : Bool) (x : PortId) : (s.setOpportunity b).port x = s.port x := rfl

@[simp] theorem State.setOpportunity_dispatchQueue (s : State) (b : Bool) (x : PortId) : (s.setOpportunity b).dispatchQueue x = s.dispatchQueue x := rfl

@[simp] theorem State.setOpportunity_counters (s : State) (b : Bool) (x : PortId) : (s.setOpportunity b).counters x = s.counters x := rfl

@[simp] theorem State.setOpportunity_causes (s : State) (b : Bool) (x : PortId) : (s.setOpportunity b).causes x = s.causes x := rfl

@[simp] theorem State.setUnits_contexts (s : State) (v : Units) : (s.setUnits v).contexts = s.contexts := rfl

@[simp] theorem State.setUnits_geometry (s : State) (v : Units) : (s.setUnits v).geometry = s.geometry := rfl

@[simp] theorem State.setUnits_pool (s : State) (v : Units) : (s.setUnits v).pool = s.pool := rfl

@[simp] theorem State.setUnits_store (s : State) (v : Units) : (s.setUnits v).store = s.store := rfl

@[simp] theorem State.setUnits_engine (s : State) (v : Units) : (s.setUnits v).engine = s.engine := rfl

@[simp] theorem State.setUnits_dispatcher (s : State) (v : Units) : (s.setUnits v).dispatcher = s.dispatcher := rfl

@[simp] theorem State.setUnits_opportunity (s : State) (v : Units) : (s.setUnits v).opportunity = s.opportunity := rfl

@[simp] theorem State.setUnits_units (s : State) (v : Units) : (s.setUnits v).units = v := rfl

@[simp] theorem State.setUnits_expiry (s : State) (v : Units) : (s.setUnits v).expiry = s.expiry := rfl

@[simp] theorem State.setUnits_ports (s : State) (v : Units) : (s.setUnits v).ports = s.ports := rfl

@[simp] theorem State.setUnits_link (s : State) (v : Units) : (s.setUnits v).link = s.link := rfl

@[simp] theorem State.setUnits_pending (s : State) (v : Units) : (s.setUnits v).pending = s.pending := rfl

@[simp] theorem State.setUnits_ctx (s : State) (v : Units) (x : Entry) : (s.setUnits v).ctx x = s.ctx x := rfl

@[simp] theorem State.setUnits_port (s : State) (v : Units) (x : PortId) : (s.setUnits v).port x = s.port x := rfl

@[simp] theorem State.setUnits_dispatchQueue (s : State) (v : Units) (x : PortId) : (s.setUnits v).dispatchQueue x = s.dispatchQueue x := rfl

@[simp] theorem State.setUnits_counters (s : State) (v : Units) (x : PortId) : (s.setUnits v).counters x = s.counters x := rfl

@[simp] theorem State.setUnits_causes (s : State) (v : Units) (x : PortId) : (s.setUnits v).causes x = s.causes x := rfl

@[simp] theorem State.setExpiry_contexts (s : State) (v : ExpiryUnit) : (s.setExpiry v).contexts = s.contexts := rfl

@[simp] theorem State.setExpiry_geometry (s : State) (v : ExpiryUnit) : (s.setExpiry v).geometry = s.geometry := rfl

@[simp] theorem State.setExpiry_pool (s : State) (v : ExpiryUnit) : (s.setExpiry v).pool = s.pool := rfl

@[simp] theorem State.setExpiry_store (s : State) (v : ExpiryUnit) : (s.setExpiry v).store = s.store := rfl

@[simp] theorem State.setExpiry_engine (s : State) (v : ExpiryUnit) : (s.setExpiry v).engine = s.engine := rfl

@[simp] theorem State.setExpiry_dispatcher (s : State) (v : ExpiryUnit) : (s.setExpiry v).dispatcher = s.dispatcher := rfl

@[simp] theorem State.setExpiry_opportunity (s : State) (v : ExpiryUnit) : (s.setExpiry v).opportunity = s.opportunity := rfl

@[simp] theorem State.setExpiry_units (s : State) (v : ExpiryUnit) : (s.setExpiry v).units = s.units := rfl

@[simp] theorem State.setExpiry_expiry (s : State) (v : ExpiryUnit) : (s.setExpiry v).expiry = v := rfl

@[simp] theorem State.setExpiry_ports (s : State) (v : ExpiryUnit) : (s.setExpiry v).ports = s.ports := rfl

@[simp] theorem State.setExpiry_link (s : State) (v : ExpiryUnit) : (s.setExpiry v).link = s.link := rfl

@[simp] theorem State.setExpiry_pending (s : State) (v : ExpiryUnit) : (s.setExpiry v).pending = s.pending := rfl

@[simp] theorem State.setExpiry_ctx (s : State) (v : ExpiryUnit) (x : Entry) : (s.setExpiry v).ctx x = s.ctx x := rfl

@[simp] theorem State.setExpiry_port (s : State) (v : ExpiryUnit) (x : PortId) : (s.setExpiry v).port x = s.port x := rfl

@[simp] theorem State.setExpiry_dispatchQueue (s : State) (v : ExpiryUnit) (x : PortId) : (s.setExpiry v).dispatchQueue x = s.dispatchQueue x := rfl

@[simp] theorem State.setExpiry_counters (s : State) (v : ExpiryUnit) (x : PortId) : (s.setExpiry v).counters x = s.counters x := rfl

@[simp] theorem State.setExpiry_causes (s : State) (v : ExpiryUnit) (x : PortId) : (s.setExpiry v).causes x = s.causes x := rfl

@[simp] theorem State.setExpiryList_contexts (s : State) (v : List Entry) : (s.setExpiryList v).contexts = s.contexts := rfl

@[simp] theorem State.setExpiryList_geometry (s : State) (v : List Entry) : (s.setExpiryList v).geometry = s.geometry := rfl

@[simp] theorem State.setExpiryList_pool (s : State) (v : List Entry) : (s.setExpiryList v).pool = s.pool := rfl

@[simp] theorem State.setExpiryList_store (s : State) (v : List Entry) : (s.setExpiryList v).store = s.store := rfl

@[simp] theorem State.setExpiryList_engine (s : State) (v : List Entry) : (s.setExpiryList v).engine = s.engine := rfl

@[simp] theorem State.setExpiryList_dispatcher (s : State) (v : List Entry) : (s.setExpiryList v).dispatcher = s.dispatcher := rfl

@[simp] theorem State.setExpiryList_opportunity (s : State) (v : List Entry) : (s.setExpiryList v).opportunity = s.opportunity := rfl

@[simp] theorem State.setExpiryList_units (s : State) (v : List Entry) : (s.setExpiryList v).units = s.units := rfl

@[simp] theorem State.setExpiryList_ports (s : State) (v : List Entry) : (s.setExpiryList v).ports = s.ports := rfl

@[simp] theorem State.setExpiryList_link (s : State) (v : List Entry) : (s.setExpiryList v).link = s.link := rfl

@[simp] theorem State.setExpiryList_pending (s : State) (v : List Entry) : (s.setExpiryList v).pending = s.pending := rfl

@[simp] theorem State.setExpiryList_ctx (s : State) (v : List Entry) (x : Entry) : (s.setExpiryList v).ctx x = s.ctx x := rfl

@[simp] theorem State.setExpiryList_port (s : State) (v : List Entry) (x : PortId) : (s.setExpiryList v).port x = s.port x := rfl

@[simp] theorem State.setExpiryList_dispatchQueue (s : State) (v : List Entry) (x : PortId) : (s.setExpiryList v).dispatchQueue x = s.dispatchQueue x := rfl

@[simp] theorem State.setExpiryList_counters (s : State) (v : List Entry) (x : PortId) : (s.setExpiryList v).counters x = s.counters x := rfl

@[simp] theorem State.setExpiryList_causes (s : State) (v : List Entry) (x : PortId) : (s.setExpiryList v).causes x = s.causes x := rfl

@[simp] theorem State.setLink_contexts (s : State) (v : Link) : (s.setLink v).contexts = s.contexts := rfl

@[simp] theorem State.setLink_geometry (s : State) (v : Link) : (s.setLink v).geometry = s.geometry := rfl

@[simp] theorem State.setLink_pool (s : State) (v : Link) : (s.setLink v).pool = s.pool := rfl

@[simp] theorem State.setLink_store (s : State) (v : Link) : (s.setLink v).store = s.store := rfl

@[simp] theorem State.setLink_engine (s : State) (v : Link) : (s.setLink v).engine = s.engine := rfl

@[simp] theorem State.setLink_dispatcher (s : State) (v : Link) : (s.setLink v).dispatcher = s.dispatcher := rfl

@[simp] theorem State.setLink_opportunity (s : State) (v : Link) : (s.setLink v).opportunity = s.opportunity := rfl

@[simp] theorem State.setLink_units (s : State) (v : Link) : (s.setLink v).units = s.units := rfl

@[simp] theorem State.setLink_expiry (s : State) (v : Link) : (s.setLink v).expiry = s.expiry := rfl

@[simp] theorem State.setLink_ports (s : State) (v : Link) : (s.setLink v).ports = s.ports := rfl

@[simp] theorem State.setLink_link (s : State) (v : Link) : (s.setLink v).link = v := rfl

@[simp] theorem State.setLink_pending (s : State) (v : Link) : (s.setLink v).pending = s.pending := rfl

@[simp] theorem State.setLink_ctx (s : State) (v : Link) (x : Entry) : (s.setLink v).ctx x = s.ctx x := rfl

@[simp] theorem State.setLink_port (s : State) (v : Link) (x : PortId) : (s.setLink v).port x = s.port x := rfl

@[simp] theorem State.setLink_dispatchQueue (s : State) (v : Link) (x : PortId) : (s.setLink v).dispatchQueue x = s.dispatchQueue x := rfl

@[simp] theorem State.setCounters_contexts (s : State) (p : PortId) (k : Counters) : (s.setCounters p k).contexts = s.contexts := rfl

@[simp] theorem State.setCounters_geometry (s : State) (p : PortId) (k : Counters) : (s.setCounters p k).geometry = s.geometry := rfl

@[simp] theorem State.setCounters_pool (s : State) (p : PortId) (k : Counters) : (s.setCounters p k).pool = s.pool := rfl

@[simp] theorem State.setCounters_store (s : State) (p : PortId) (k : Counters) : (s.setCounters p k).store = s.store := rfl

@[simp] theorem State.setCounters_engine (s : State) (p : PortId) (k : Counters) : (s.setCounters p k).engine = s.engine := rfl

@[simp] theorem State.setCounters_dispatcher (s : State) (p : PortId) (k : Counters) : (s.setCounters p k).dispatcher = s.dispatcher := rfl

@[simp] theorem State.setCounters_opportunity (s : State) (p : PortId) (k : Counters) : (s.setCounters p k).opportunity = s.opportunity := rfl

@[simp] theorem State.setCounters_units (s : State) (p : PortId) (k : Counters) : (s.setCounters p k).units = s.units := rfl

@[simp] theorem State.setCounters_expiry (s : State) (p : PortId) (k : Counters) : (s.setCounters p k).expiry = s.expiry := rfl

@[simp] theorem State.setCounters_ports (s : State) (p : PortId) (k : Counters) : (s.setCounters p k).ports = s.ports := rfl

@[simp] theorem State.setCounters_pending (s : State) (p : PortId) (k : Counters) : (s.setCounters p k).pending = s.pending := rfl

@[simp] theorem State.setCounters_ctx (s : State) (p : PortId) (k : Counters) (x : Entry) : (s.setCounters p k).ctx x = s.ctx x := rfl

@[simp] theorem State.setCounters_port (s : State) (p : PortId) (k : Counters) (x : PortId) : (s.setCounters p k).port x = s.port x := rfl

@[simp] theorem State.setCounters_dispatchQueue (s : State) (p : PortId) (k : Counters) (x : PortId) : (s.setCounters p k).dispatchQueue x = s.dispatchQueue x := rfl

@[simp] theorem State.setCauses_contexts (s : State) (p : PortId) (k : Causes) : (s.setCauses p k).contexts = s.contexts := rfl

@[simp] theorem State.setCauses_geometry (s : State) (p : PortId) (k : Causes) : (s.setCauses p k).geometry = s.geometry := rfl

@[simp] theorem State.setCauses_pool (s : State) (p : PortId) (k : Causes) : (s.setCauses p k).pool = s.pool := rfl

@[simp] theorem State.setCauses_store (s : State) (p : PortId) (k : Causes) : (s.setCauses p k).store = s.store := rfl

@[simp] theorem State.setCauses_engine (s : State) (p : PortId) (k : Causes) : (s.setCauses p k).engine = s.engine := rfl

@[simp] theorem State.setCauses_dispatcher (s : State) (p : PortId) (k : Causes) : (s.setCauses p k).dispatcher = s.dispatcher := rfl

@[simp] theorem State.setCauses_opportunity (s : State) (p : PortId) (k : Causes) : (s.setCauses p k).opportunity = s.opportunity := rfl

@[simp] theorem State.setCauses_units (s : State) (p : PortId) (k : Causes) : (s.setCauses p k).units = s.units := rfl

@[simp] theorem State.setCauses_expiry (s : State) (p : PortId) (k : Causes) : (s.setCauses p k).expiry = s.expiry := rfl

@[simp] theorem State.setCauses_ports (s : State) (p : PortId) (k : Causes) : (s.setCauses p k).ports = s.ports := rfl

@[simp] theorem State.setCauses_pending (s : State) (p : PortId) (k : Causes) : (s.setCauses p k).pending = s.pending := rfl

@[simp] theorem State.setCauses_ctx (s : State) (p : PortId) (k : Causes) (x : Entry) : (s.setCauses p k).ctx x = s.ctx x := rfl

@[simp] theorem State.setCauses_port (s : State) (p : PortId) (k : Causes) (x : PortId) : (s.setCauses p k).port x = s.port x := rfl

@[simp] theorem State.setCauses_dispatchQueue (s : State) (p : PortId) (k : Causes) (x : PortId) : (s.setCauses p k).dispatchQueue x = s.dispatchQueue x := rfl

@[simp] theorem State.countAdmitted_contexts (s : State) (p : PortId) : (s.countAdmitted p).contexts = s.contexts := rfl

@[simp] theorem State.countAdmitted_geometry (s : State) (p : PortId) : (s.countAdmitted p).geometry = s.geometry := rfl

@[simp] theorem State.countAdmitted_pool (s : State) (p : PortId) : (s.countAdmitted p).pool = s.pool := rfl

@[simp] theorem State.countAdmitted_store (s : State) (p : PortId) : (s.countAdmitted p).store = s.store := rfl

@[simp] theorem State.countAdmitted_engine (s : State) (p : PortId) : (s.countAdmitted p).engine = s.engine := rfl

@[simp] theorem State.countAdmitted_dispatcher (s : State) (p : PortId) : (s.countAdmitted p).dispatcher = s.dispatcher := rfl

@[simp] theorem State.countAdmitted_opportunity (s : State) (p : PortId) : (s.countAdmitted p).opportunity = s.opportunity := rfl

@[simp] theorem State.countAdmitted_units (s : State) (p : PortId) : (s.countAdmitted p).units = s.units := rfl

@[simp] theorem State.countAdmitted_expiry (s : State) (p : PortId) : (s.countAdmitted p).expiry = s.expiry := rfl

@[simp] theorem State.countAdmitted_ports (s : State) (p : PortId) : (s.countAdmitted p).ports = s.ports := rfl

@[simp] theorem State.countAdmitted_pending (s : State) (p : PortId) : (s.countAdmitted p).pending = s.pending := rfl

@[simp] theorem State.countAdmitted_ctx (s : State) (p : PortId) (x : Entry) : (s.countAdmitted p).ctx x = s.ctx x := rfl

@[simp] theorem State.countAdmitted_port (s : State) (p : PortId) (x : PortId) : (s.countAdmitted p).port x = s.port x := rfl

@[simp] theorem State.countAdmitted_dispatchQueue (s : State) (p : PortId) (x : PortId) : (s.countAdmitted p).dispatchQueue x = s.dispatchQueue x := rfl

@[simp] theorem State.countPass_contexts (s : State) (p : PortId) : (s.countPass p).contexts = s.contexts := rfl

@[simp] theorem State.countPass_geometry (s : State) (p : PortId) : (s.countPass p).geometry = s.geometry := rfl

@[simp] theorem State.countPass_pool (s : State) (p : PortId) : (s.countPass p).pool = s.pool := rfl

@[simp] theorem State.countPass_store (s : State) (p : PortId) : (s.countPass p).store = s.store := rfl

@[simp] theorem State.countPass_engine (s : State) (p : PortId) : (s.countPass p).engine = s.engine := rfl

@[simp] theorem State.countPass_dispatcher (s : State) (p : PortId) : (s.countPass p).dispatcher = s.dispatcher := rfl

@[simp] theorem State.countPass_opportunity (s : State) (p : PortId) : (s.countPass p).opportunity = s.opportunity := rfl

@[simp] theorem State.countPass_units (s : State) (p : PortId) : (s.countPass p).units = s.units := rfl

@[simp] theorem State.countPass_expiry (s : State) (p : PortId) : (s.countPass p).expiry = s.expiry := rfl

@[simp] theorem State.countPass_ports (s : State) (p : PortId) : (s.countPass p).ports = s.ports := rfl

@[simp] theorem State.countPass_pending (s : State) (p : PortId) : (s.countPass p).pending = s.pending := rfl

@[simp] theorem State.countPass_ctx (s : State) (p : PortId) (x : Entry) : (s.countPass p).ctx x = s.ctx x := rfl

@[simp] theorem State.countPass_port (s : State) (p : PortId) (x : PortId) : (s.countPass p).port x = s.port x := rfl

@[simp] theorem State.countPass_dispatchQueue (s : State) (p : PortId) (x : PortId) : (s.countPass p).dispatchQueue x = s.dispatchQueue x := rfl

@[simp] theorem State.countFailure_contexts (s : State) (p : PortId) : (s.countFailure p).contexts = s.contexts := rfl

@[simp] theorem State.countFailure_geometry (s : State) (p : PortId) : (s.countFailure p).geometry = s.geometry := rfl

@[simp] theorem State.countFailure_pool (s : State) (p : PortId) : (s.countFailure p).pool = s.pool := rfl

@[simp] theorem State.countFailure_store (s : State) (p : PortId) : (s.countFailure p).store = s.store := rfl

@[simp] theorem State.countFailure_engine (s : State) (p : PortId) : (s.countFailure p).engine = s.engine := rfl

@[simp] theorem State.countFailure_dispatcher (s : State) (p : PortId) : (s.countFailure p).dispatcher = s.dispatcher := rfl

@[simp] theorem State.countFailure_opportunity (s : State) (p : PortId) : (s.countFailure p).opportunity = s.opportunity := rfl

@[simp] theorem State.countFailure_units (s : State) (p : PortId) : (s.countFailure p).units = s.units := rfl

@[simp] theorem State.countFailure_expiry (s : State) (p : PortId) : (s.countFailure p).expiry = s.expiry := rfl

@[simp] theorem State.countFailure_ports (s : State) (p : PortId) : (s.countFailure p).ports = s.ports := rfl

@[simp] theorem State.countFailure_pending (s : State) (p : PortId) : (s.countFailure p).pending = s.pending := rfl

@[simp] theorem State.countFailure_ctx (s : State) (p : PortId) (x : Entry) : (s.countFailure p).ctx x = s.ctx x := rfl

@[simp] theorem State.countFailure_port (s : State) (p : PortId) (x : PortId) : (s.countFailure p).port x = s.port x := rfl

@[simp] theorem State.countFailure_dispatchQueue (s : State) (p : PortId) (x : PortId) : (s.countFailure p).dispatchQueue x = s.dispatchQueue x := rfl

@[simp] theorem State.countExpiry_contexts (s : State) (p : PortId) : (s.countExpiry p).contexts = s.contexts := rfl

@[simp] theorem State.countExpiry_geometry (s : State) (p : PortId) : (s.countExpiry p).geometry = s.geometry := rfl

@[simp] theorem State.countExpiry_pool (s : State) (p : PortId) : (s.countExpiry p).pool = s.pool := rfl

@[simp] theorem State.countExpiry_store (s : State) (p : PortId) : (s.countExpiry p).store = s.store := rfl

@[simp] theorem State.countExpiry_engine (s : State) (p : PortId) : (s.countExpiry p).engine = s.engine := rfl

@[simp] theorem State.countExpiry_dispatcher (s : State) (p : PortId) : (s.countExpiry p).dispatcher = s.dispatcher := rfl

@[simp] theorem State.countExpiry_opportunity (s : State) (p : PortId) : (s.countExpiry p).opportunity = s.opportunity := rfl

@[simp] theorem State.countExpiry_units (s : State) (p : PortId) : (s.countExpiry p).units = s.units := rfl

@[simp] theorem State.countExpiry_expiry (s : State) (p : PortId) : (s.countExpiry p).expiry = s.expiry := rfl

@[simp] theorem State.countExpiry_ports (s : State) (p : PortId) : (s.countExpiry p).ports = s.ports := rfl

@[simp] theorem State.countExpiry_pending (s : State) (p : PortId) : (s.countExpiry p).pending = s.pending := rfl

@[simp] theorem State.countExpiry_ctx (s : State) (p : PortId) (x : Entry) : (s.countExpiry p).ctx x = s.ctx x := rfl

@[simp] theorem State.countExpiry_port (s : State) (p : PortId) (x : PortId) : (s.countExpiry p).port x = s.port x := rfl

@[simp] theorem State.countExpiry_dispatchQueue (s : State) (p : PortId) (x : PortId) : (s.countExpiry p).dispatchQueue x = s.dispatchQueue x := rfl

@[simp] theorem State.countEviction_contexts (s : State) (p : PortId) : (s.countEviction p).contexts = s.contexts := rfl

@[simp] theorem State.countEviction_geometry (s : State) (p : PortId) : (s.countEviction p).geometry = s.geometry := rfl

@[simp] theorem State.countEviction_pool (s : State) (p : PortId) : (s.countEviction p).pool = s.pool := rfl

@[simp] theorem State.countEviction_store (s : State) (p : PortId) : (s.countEviction p).store = s.store := rfl

@[simp] theorem State.countEviction_engine (s : State) (p : PortId) : (s.countEviction p).engine = s.engine := rfl

@[simp] theorem State.countEviction_dispatcher (s : State) (p : PortId) : (s.countEviction p).dispatcher = s.dispatcher := rfl

@[simp] theorem State.countEviction_opportunity (s : State) (p : PortId) : (s.countEviction p).opportunity = s.opportunity := rfl

@[simp] theorem State.countEviction_units (s : State) (p : PortId) : (s.countEviction p).units = s.units := rfl

@[simp] theorem State.countEviction_expiry (s : State) (p : PortId) : (s.countEviction p).expiry = s.expiry := rfl

@[simp] theorem State.countEviction_ports (s : State) (p : PortId) : (s.countEviction p).ports = s.ports := rfl

@[simp] theorem State.countEviction_pending (s : State) (p : PortId) : (s.countEviction p).pending = s.pending := rfl

@[simp] theorem State.countEviction_ctx (s : State) (p : PortId) (x : Entry) : (s.countEviction p).ctx x = s.ctx x := rfl

@[simp] theorem State.countEviction_port (s : State) (p : PortId) (x : PortId) : (s.countEviction p).port x = s.port x := rfl

@[simp] theorem State.countEviction_dispatchQueue (s : State) (p : PortId) (x : PortId) : (s.countEviction p).dispatchQueue x = s.dispatchQueue x := rfl

@[simp] theorem State.countRefusal_contexts (s : State) (p : PortId) : (s.countRefusal p).contexts = s.contexts := rfl

@[simp] theorem State.countRefusal_geometry (s : State) (p : PortId) : (s.countRefusal p).geometry = s.geometry := rfl

@[simp] theorem State.countRefusal_pool (s : State) (p : PortId) : (s.countRefusal p).pool = s.pool := rfl

@[simp] theorem State.countRefusal_store (s : State) (p : PortId) : (s.countRefusal p).store = s.store := rfl

@[simp] theorem State.countRefusal_engine (s : State) (p : PortId) : (s.countRefusal p).engine = s.engine := rfl

@[simp] theorem State.countRefusal_dispatcher (s : State) (p : PortId) : (s.countRefusal p).dispatcher = s.dispatcher := rfl

@[simp] theorem State.countRefusal_opportunity (s : State) (p : PortId) : (s.countRefusal p).opportunity = s.opportunity := rfl

@[simp] theorem State.countRefusal_units (s : State) (p : PortId) : (s.countRefusal p).units = s.units := rfl

@[simp] theorem State.countRefusal_expiry (s : State) (p : PortId) : (s.countRefusal p).expiry = s.expiry := rfl

@[simp] theorem State.countRefusal_ports (s : State) (p : PortId) : (s.countRefusal p).ports = s.ports := rfl

@[simp] theorem State.countRefusal_pending (s : State) (p : PortId) : (s.countRefusal p).pending = s.pending := rfl

@[simp] theorem State.countRefusal_ctx (s : State) (p : PortId) (x : Entry) : (s.countRefusal p).ctx x = s.ctx x := rfl

@[simp] theorem State.countRefusal_port (s : State) (p : PortId) (x : PortId) : (s.countRefusal p).port x = s.port x := rfl

@[simp] theorem State.countRefusal_dispatchQueue (s : State) (p : PortId) (x : PortId) : (s.countRefusal p).dispatchQueue x = s.dispatchQueue x := rfl

@[simp] theorem State.setDispatchQueue_contexts (s : State) (p : PortId) (l : List Entry) : (s.setDispatchQueue p l).contexts = s.contexts := rfl

@[simp] theorem State.setDispatchQueue_geometry (s : State) (p : PortId) (l : List Entry) : (s.setDispatchQueue p l).geometry = s.geometry := rfl

@[simp] theorem State.setDispatchQueue_pool (s : State) (p : PortId) (l : List Entry) : (s.setDispatchQueue p l).pool = s.pool := rfl

@[simp] theorem State.setDispatchQueue_store (s : State) (p : PortId) (l : List Entry) : (s.setDispatchQueue p l).store = s.store := rfl

@[simp] theorem State.setDispatchQueue_engine (s : State) (p : PortId) (l : List Entry) : (s.setDispatchQueue p l).engine = s.engine := rfl

@[simp] theorem State.setDispatchQueue_units (s : State) (p : PortId) (l : List Entry) : (s.setDispatchQueue p l).units = s.units := rfl

@[simp] theorem State.setDispatchQueue_expiry (s : State) (p : PortId) (l : List Entry) : (s.setDispatchQueue p l).expiry = s.expiry := rfl

@[simp] theorem State.setDispatchQueue_ports (s : State) (p : PortId) (l : List Entry) : (s.setDispatchQueue p l).ports = s.ports := rfl

@[simp] theorem State.setDispatchQueue_link (s : State) (p : PortId) (l : List Entry) : (s.setDispatchQueue p l).link = s.link := rfl

@[simp] theorem State.setDispatchQueue_pending (s : State) (p : PortId) (l : List Entry) : (s.setDispatchQueue p l).pending = s.pending := rfl

@[simp] theorem State.setDispatchQueue_ctx (s : State) (p : PortId) (l : List Entry) (x : Entry) : (s.setDispatchQueue p l).ctx x = s.ctx x := rfl

@[simp] theorem State.setDispatchQueue_port (s : State) (p : PortId) (l : List Entry) (x : PortId) : (s.setDispatchQueue p l).port x = s.port x := rfl

@[simp] theorem State.setDispatchQueue_counters (s : State) (p : PortId) (l : List Entry) (x : PortId) : (s.setDispatchQueue p l).counters x = s.counters x := rfl

@[simp] theorem State.setDispatchQueue_causes (s : State) (p : PortId) (l : List Entry) (x : PortId) : (s.setDispatchQueue p l).causes x = s.causes x := rfl

end Sys2Proof.Machine
end

