-- ==== Sys2Proof/Laws/Ops.lean ====
section
/-! SUPPORT. What each shared operation leaves as it was, so that a proof about a meaning cites these and unfolds none of them. -/

namespace Sys2Proof.Machine

@[simp] theorem State.clearPage_contexts (s : State) (pg : Page) : (s.clearPage pg).contexts = s.contexts := rfl

@[simp] theorem State.clearPage_geometry (s : State) (pg : Page) : (s.clearPage pg).geometry = s.geometry := rfl

@[simp] theorem State.clearPage_pool (s : State) (pg : Page) : (s.clearPage pg).pool = s.pool := rfl

@[simp] theorem State.clearPage_engine (s : State) (pg : Page) : (s.clearPage pg).engine = s.engine := rfl

@[simp] theorem State.clearPage_dispatcher (s : State) (pg : Page) : (s.clearPage pg).dispatcher = s.dispatcher := rfl

@[simp] theorem State.clearPage_opportunity (s : State) (pg : Page) : (s.clearPage pg).opportunity = s.opportunity := rfl

@[simp] theorem State.clearPage_units (s : State) (pg : Page) : (s.clearPage pg).units = s.units := rfl

@[simp] theorem State.clearPage_expiry (s : State) (pg : Page) : (s.clearPage pg).expiry = s.expiry := rfl

@[simp] theorem State.clearPage_ports (s : State) (pg : Page) : (s.clearPage pg).ports = s.ports := rfl

@[simp] theorem State.clearPage_link (s : State) (pg : Page) : (s.clearPage pg).link = s.link := rfl

@[simp] theorem State.clearPage_pending (s : State) (pg : Page) : (s.clearPage pg).pending = s.pending := rfl

@[simp] theorem State.clearPage_ctx (s : State) (pg : Page) (x : Entry) : (s.clearPage pg).ctx x = s.ctx x := rfl

@[simp] theorem State.clearPage_port (s : State) (pg : Page) (x : PortId) : (s.clearPage pg).port x = s.port x := rfl

@[simp] theorem State.clearPage_dispatchQueue (s : State) (pg : Page) (x : PortId) : (s.clearPage pg).dispatchQueue x = s.dispatchQueue x := rfl

@[simp] theorem State.clearPage_counters (s : State) (pg : Page) (x : PortId) : (s.clearPage pg).counters x = s.counters x := rfl

@[simp] theorem State.clearPage_causes (s : State) (pg : Page) (x : PortId) : (s.clearPage pg).causes x = s.causes x := rfl

@[simp] theorem State.signal_contexts (s : State) (p : PortId) (tag : Tag) : (s.signal p tag).contexts = s.contexts := rfl

@[simp] theorem State.signal_geometry (s : State) (p : PortId) (tag : Tag) : (s.signal p tag).geometry = s.geometry := rfl

@[simp] theorem State.signal_pool (s : State) (p : PortId) (tag : Tag) : (s.signal p tag).pool = s.pool := rfl

@[simp] theorem State.signal_store (s : State) (p : PortId) (tag : Tag) : (s.signal p tag).store = s.store := rfl

@[simp] theorem State.signal_engine (s : State) (p : PortId) (tag : Tag) : (s.signal p tag).engine = s.engine := rfl

@[simp] theorem State.signal_dispatcher (s : State) (p : PortId) (tag : Tag) : (s.signal p tag).dispatcher = s.dispatcher := rfl

@[simp] theorem State.signal_opportunity (s : State) (p : PortId) (tag : Tag) : (s.signal p tag).opportunity = s.opportunity := rfl

@[simp] theorem State.signal_units (s : State) (p : PortId) (tag : Tag) : (s.signal p tag).units = s.units := rfl

@[simp] theorem State.signal_expiry (s : State) (p : PortId) (tag : Tag) : (s.signal p tag).expiry = s.expiry := rfl

@[simp] theorem State.signal_link (s : State) (p : PortId) (tag : Tag) : (s.signal p tag).link = s.link := rfl

@[simp] theorem State.signal_pending (s : State) (p : PortId) (tag : Tag) : (s.signal p tag).pending = s.pending := rfl

@[simp] theorem State.signal_ctx (s : State) (p : PortId) (tag : Tag) (x : Entry) : (s.signal p tag).ctx x = s.ctx x := rfl

@[simp] theorem State.signal_dispatchQueue (s : State) (p : PortId) (tag : Tag) (x : PortId) : (s.signal p tag).dispatchQueue x = s.dispatchQueue x := rfl

@[simp] theorem State.signal_counters (s : State) (p : PortId) (tag : Tag) (x : PortId) : (s.signal p tag).counters x = s.counters x := rfl

@[simp] theorem State.signal_causes (s : State) (p : PortId) (tag : Tag) (x : PortId) : (s.signal p tag).causes x = s.causes x := rfl

@[simp] theorem State.giveBack_contexts (s : State) (p : PortId) (l : List Page) (n : Nat) : (s.giveBack p l n).contexts = s.contexts := rfl

@[simp] theorem State.giveBack_geometry (s : State) (p : PortId) (l : List Page) (n : Nat) : (s.giveBack p l n).geometry = s.geometry := rfl

@[simp] theorem State.giveBack_store (s : State) (p : PortId) (l : List Page) (n : Nat) : (s.giveBack p l n).store = s.store := rfl

@[simp] theorem State.giveBack_engine (s : State) (p : PortId) (l : List Page) (n : Nat) : (s.giveBack p l n).engine = s.engine := rfl

@[simp] theorem State.giveBack_dispatcher (s : State) (p : PortId) (l : List Page) (n : Nat) : (s.giveBack p l n).dispatcher = s.dispatcher := rfl

@[simp] theorem State.giveBack_opportunity (s : State) (p : PortId) (l : List Page) (n : Nat) : (s.giveBack p l n).opportunity = s.opportunity := rfl

@[simp] theorem State.giveBack_units (s : State) (p : PortId) (l : List Page) (n : Nat) : (s.giveBack p l n).units = s.units := rfl

@[simp] theorem State.giveBack_expiry (s : State) (p : PortId) (l : List Page) (n : Nat) : (s.giveBack p l n).expiry = s.expiry := rfl

@[simp] theorem State.giveBack_ports (s : State) (p : PortId) (l : List Page) (n : Nat) : (s.giveBack p l n).ports = s.ports := rfl

@[simp] theorem State.giveBack_link (s : State) (p : PortId) (l : List Page) (n : Nat) : (s.giveBack p l n).link = s.link := rfl

@[simp] theorem State.giveBack_pending (s : State) (p : PortId) (l : List Page) (n : Nat) : (s.giveBack p l n).pending = s.pending := rfl

@[simp] theorem State.giveBack_ctx (s : State) (p : PortId) (l : List Page) (n : Nat) (x : Entry) : (s.giveBack p l n).ctx x = s.ctx x := rfl

@[simp] theorem State.giveBack_port (s : State) (p : PortId) (l : List Page) (n : Nat) (x : PortId) : (s.giveBack p l n).port x = s.port x := rfl

@[simp] theorem State.giveBack_dispatchQueue (s : State) (p : PortId) (l : List Page) (n : Nat) (x : PortId) : (s.giveBack p l n).dispatchQueue x = s.dispatchQueue x := rfl

@[simp] theorem State.giveBack_counters (s : State) (p : PortId) (l : List Page) (n : Nat) (x : PortId) : (s.giveBack p l n).counters x = s.counters x := rfl

@[simp] theorem State.giveBack_causes (s : State) (p : PortId) (l : List Page) (n : Nat) (x : PortId) : (s.giveBack p l n).causes x = s.causes x := rfl

@[simp] theorem State.freeContext_geometry (s : State) (e : Entry) : (s.freeContext e).geometry = s.geometry := rfl

@[simp] theorem State.freeContext_pool (s : State) (e : Entry) : (s.freeContext e).pool = s.pool := rfl

@[simp] theorem State.freeContext_store (s : State) (e : Entry) : (s.freeContext e).store = s.store := rfl

@[simp] theorem State.freeContext_engine (s : State) (e : Entry) : (s.freeContext e).engine = s.engine := rfl

@[simp] theorem State.freeContext_dispatcher (s : State) (e : Entry) : (s.freeContext e).dispatcher = s.dispatcher := rfl

@[simp] theorem State.freeContext_opportunity (s : State) (e : Entry) : (s.freeContext e).opportunity = s.opportunity := rfl

@[simp] theorem State.freeContext_units (s : State) (e : Entry) : (s.freeContext e).units = s.units := rfl

@[simp] theorem State.freeContext_expiry (s : State) (e : Entry) : (s.freeContext e).expiry = s.expiry := rfl

@[simp] theorem State.freeContext_link (s : State) (e : Entry) : (s.freeContext e).link = s.link := rfl

@[simp] theorem State.freeContext_pending (s : State) (e : Entry) : (s.freeContext e).pending = s.pending := rfl

@[simp] theorem State.freeContext_dispatchQueue (s : State) (e : Entry) (x : PortId) : (s.freeContext e).dispatchQueue x = s.dispatchQueue x := rfl

@[simp] theorem State.freeContext_counters (s : State) (e : Entry) (x : PortId) : (s.freeContext e).counters x = s.counters x := rfl

@[simp] theorem State.freeContext_causes (s : State) (e : Entry) (x : PortId) : (s.freeContext e).causes x = s.causes x := rfl

@[simp] theorem State.releasePages_geometry (s : State) (e : Entry) : (s.releasePages e).geometry = s.geometry := rfl

@[simp] theorem State.releasePages_store (s : State) (e : Entry) : (s.releasePages e).store = s.store := rfl

@[simp] theorem State.releasePages_engine (s : State) (e : Entry) : (s.releasePages e).engine = s.engine := rfl

@[simp] theorem State.releasePages_dispatcher (s : State) (e : Entry) : (s.releasePages e).dispatcher = s.dispatcher := rfl

@[simp] theorem State.releasePages_opportunity (s : State) (e : Entry) : (s.releasePages e).opportunity = s.opportunity := rfl

@[simp] theorem State.releasePages_units (s : State) (e : Entry) : (s.releasePages e).units = s.units := rfl

@[simp] theorem State.releasePages_expiry (s : State) (e : Entry) : (s.releasePages e).expiry = s.expiry := rfl

@[simp] theorem State.releasePages_link (s : State) (e : Entry) : (s.releasePages e).link = s.link := rfl

@[simp] theorem State.releasePages_pending (s : State) (e : Entry) : (s.releasePages e).pending = s.pending := rfl

@[simp] theorem State.releasePages_dispatchQueue (s : State) (e : Entry) (x : PortId) : (s.releasePages e).dispatchQueue x = s.dispatchQueue x := rfl

@[simp] theorem State.releasePages_counters (s : State) (e : Entry) (x : PortId) : (s.releasePages e).counters x = s.counters x := rfl

@[simp] theorem State.releasePages_causes (s : State) (e : Entry) (x : PortId) : (s.releasePages e).causes x = s.causes x := rfl

@[simp] theorem State.closeDamaged_geometry (s : State) (e : Entry) (report : List Page) : (s.closeDamaged e report).geometry = s.geometry := rfl

@[simp] theorem State.closeDamaged_store (s : State) (e : Entry) (report : List Page) : (s.closeDamaged e report).store = s.store := rfl

@[simp] theorem State.closeDamaged_engine (s : State) (e : Entry) (report : List Page) : (s.closeDamaged e report).engine = s.engine := rfl

@[simp] theorem State.closeDamaged_dispatcher (s : State) (e : Entry) (report : List Page) : (s.closeDamaged e report).dispatcher = s.dispatcher := rfl

@[simp] theorem State.closeDamaged_opportunity (s : State) (e : Entry) (report : List Page) : (s.closeDamaged e report).opportunity = s.opportunity := rfl

@[simp] theorem State.closeDamaged_units (s : State) (e : Entry) (report : List Page) : (s.closeDamaged e report).units = s.units := rfl

@[simp] theorem State.closeDamaged_expiry (s : State) (e : Entry) (report : List Page) : (s.closeDamaged e report).expiry = s.expiry := rfl

@[simp] theorem State.closeDamaged_link (s : State) (e : Entry) (report : List Page) : (s.closeDamaged e report).link = s.link := rfl

@[simp] theorem State.closeDamaged_pending (s : State) (e : Entry) (report : List Page) : (s.closeDamaged e report).pending = s.pending := rfl

@[simp] theorem State.closeDamaged_dispatchQueue (s : State) (e : Entry) (report : List Page) (x : PortId) : (s.closeDamaged e report).dispatchQueue x = s.dispatchQueue x := rfl

@[simp] theorem State.closeDamaged_counters (s : State) (e : Entry) (report : List Page) (x : PortId) : (s.closeDamaged e report).counters x = s.counters x := rfl

@[simp] theorem State.closeDamaged_causes (s : State) (e : Entry) (report : List Page) (x : PortId) : (s.closeDamaged e report).causes x = s.causes x := rfl

@[simp] theorem State.post_contexts (s : State) (p : PortId) (a : Answer) : (s.post p a).contexts = s.contexts := rfl

@[simp] theorem State.post_geometry (s : State) (p : PortId) (a : Answer) : (s.post p a).geometry = s.geometry := rfl

@[simp] theorem State.post_pool (s : State) (p : PortId) (a : Answer) : (s.post p a).pool = s.pool := rfl

@[simp] theorem State.post_store (s : State) (p : PortId) (a : Answer) : (s.post p a).store = s.store := rfl

@[simp] theorem State.post_engine (s : State) (p : PortId) (a : Answer) : (s.post p a).engine = s.engine := rfl

@[simp] theorem State.post_dispatcher (s : State) (p : PortId) (a : Answer) : (s.post p a).dispatcher = s.dispatcher := rfl

@[simp] theorem State.post_opportunity (s : State) (p : PortId) (a : Answer) : (s.post p a).opportunity = s.opportunity := rfl

@[simp] theorem State.post_units (s : State) (p : PortId) (a : Answer) : (s.post p a).units = s.units := rfl

@[simp] theorem State.post_expiry (s : State) (p : PortId) (a : Answer) : (s.post p a).expiry = s.expiry := rfl

@[simp] theorem State.post_link (s : State) (p : PortId) (a : Answer) : (s.post p a).link = s.link := rfl

@[simp] theorem State.post_pending (s : State) (p : PortId) (a : Answer) : (s.post p a).pending = s.pending := rfl

@[simp] theorem State.post_ctx (s : State) (p : PortId) (a : Answer) (x : Entry) : (s.post p a).ctx x = s.ctx x := rfl

@[simp] theorem State.post_dispatchQueue (s : State) (p : PortId) (a : Answer) (x : PortId) : (s.post p a).dispatchQueue x = s.dispatchQueue x := rfl

@[simp] theorem State.post_counters (s : State) (p : PortId) (a : Answer) (x : PortId) : (s.post p a).counters x = s.counters x := rfl

@[simp] theorem State.post_causes (s : State) (p : PortId) (a : Answer) (x : PortId) : (s.post p a).causes x = s.causes x := rfl

@[simp] theorem State.postReserved_contexts (s : State) (p : PortId) (a : Answer) : (s.postReserved p a).contexts = s.contexts := rfl

@[simp] theorem State.postReserved_geometry (s : State) (p : PortId) (a : Answer) : (s.postReserved p a).geometry = s.geometry := rfl

@[simp] theorem State.postReserved_pool (s : State) (p : PortId) (a : Answer) : (s.postReserved p a).pool = s.pool := rfl

@[simp] theorem State.postReserved_store (s : State) (p : PortId) (a : Answer) : (s.postReserved p a).store = s.store := rfl

@[simp] theorem State.postReserved_engine (s : State) (p : PortId) (a : Answer) : (s.postReserved p a).engine = s.engine := rfl

@[simp] theorem State.postReserved_dispatcher (s : State) (p : PortId) (a : Answer) : (s.postReserved p a).dispatcher = s.dispatcher := rfl

@[simp] theorem State.postReserved_opportunity (s : State) (p : PortId) (a : Answer) : (s.postReserved p a).opportunity = s.opportunity := rfl

@[simp] theorem State.postReserved_units (s : State) (p : PortId) (a : Answer) : (s.postReserved p a).units = s.units := rfl

@[simp] theorem State.postReserved_expiry (s : State) (p : PortId) (a : Answer) : (s.postReserved p a).expiry = s.expiry := rfl

@[simp] theorem State.postReserved_link (s : State) (p : PortId) (a : Answer) : (s.postReserved p a).link = s.link := rfl

@[simp] theorem State.postReserved_pending (s : State) (p : PortId) (a : Answer) : (s.postReserved p a).pending = s.pending := rfl

@[simp] theorem State.postReserved_ctx (s : State) (p : PortId) (a : Answer) (x : Entry) : (s.postReserved p a).ctx x = s.ctx x := rfl

@[simp] theorem State.postReserved_dispatchQueue (s : State) (p : PortId) (a : Answer) (x : PortId) : (s.postReserved p a).dispatchQueue x = s.dispatchQueue x := rfl

@[simp] theorem State.postReserved_counters (s : State) (p : PortId) (a : Answer) (x : PortId) : (s.postReserved p a).counters x = s.counters x := rfl

@[simp] theorem State.postReserved_causes (s : State) (p : PortId) (a : Answer) (x : PortId) : (s.postReserved p a).causes x = s.causes x := rfl

@[simp] theorem State.reserve_contexts (s : State) (p : PortId) : (s.reserve p).contexts = s.contexts := rfl

@[simp] theorem State.reserve_geometry (s : State) (p : PortId) : (s.reserve p).geometry = s.geometry := rfl

@[simp] theorem State.reserve_pool (s : State) (p : PortId) : (s.reserve p).pool = s.pool := rfl

@[simp] theorem State.reserve_store (s : State) (p : PortId) : (s.reserve p).store = s.store := rfl

@[simp] theorem State.reserve_engine (s : State) (p : PortId) : (s.reserve p).engine = s.engine := rfl

@[simp] theorem State.reserve_dispatcher (s : State) (p : PortId) : (s.reserve p).dispatcher = s.dispatcher := rfl

@[simp] theorem State.reserve_opportunity (s : State) (p : PortId) : (s.reserve p).opportunity = s.opportunity := rfl

@[simp] theorem State.reserve_units (s : State) (p : PortId) : (s.reserve p).units = s.units := rfl

@[simp] theorem State.reserve_expiry (s : State) (p : PortId) : (s.reserve p).expiry = s.expiry := rfl

@[simp] theorem State.reserve_link (s : State) (p : PortId) : (s.reserve p).link = s.link := rfl

@[simp] theorem State.reserve_pending (s : State) (p : PortId) : (s.reserve p).pending = s.pending := rfl

@[simp] theorem State.reserve_ctx (s : State) (p : PortId) (x : Entry) : (s.reserve p).ctx x = s.ctx x := rfl

@[simp] theorem State.reserve_dispatchQueue (s : State) (p : PortId) (x : PortId) : (s.reserve p).dispatchQueue x = s.dispatchQueue x := rfl

@[simp] theorem State.reserve_counters (s : State) (p : PortId) (x : PortId) : (s.reserve p).counters x = s.counters x := rfl

@[simp] theorem State.reserve_causes (s : State) (p : PortId) (x : PortId) : (s.reserve p).causes x = s.causes x := rfl

@[simp] theorem State.expiryInsert_contexts (s : State) (e : Entry) : (s.expiryInsert e).contexts = s.contexts := rfl

@[simp] theorem State.expiryInsert_geometry (s : State) (e : Entry) : (s.expiryInsert e).geometry = s.geometry := rfl

@[simp] theorem State.expiryInsert_pool (s : State) (e : Entry) : (s.expiryInsert e).pool = s.pool := rfl

@[simp] theorem State.expiryInsert_store (s : State) (e : Entry) : (s.expiryInsert e).store = s.store := rfl

@[simp] theorem State.expiryInsert_engine (s : State) (e : Entry) : (s.expiryInsert e).engine = s.engine := rfl

@[simp] theorem State.expiryInsert_dispatcher (s : State) (e : Entry) : (s.expiryInsert e).dispatcher = s.dispatcher := rfl

@[simp] theorem State.expiryInsert_opportunity (s : State) (e : Entry) : (s.expiryInsert e).opportunity = s.opportunity := rfl

@[simp] theorem State.expiryInsert_units (s : State) (e : Entry) : (s.expiryInsert e).units = s.units := rfl

@[simp] theorem State.expiryInsert_ports (s : State) (e : Entry) : (s.expiryInsert e).ports = s.ports := rfl

@[simp] theorem State.expiryInsert_link (s : State) (e : Entry) : (s.expiryInsert e).link = s.link := rfl

@[simp] theorem State.expiryInsert_pending (s : State) (e : Entry) : (s.expiryInsert e).pending = s.pending := rfl

@[simp] theorem State.expiryInsert_ctx (s : State) (e : Entry) (x : Entry) : (s.expiryInsert e).ctx x = s.ctx x := rfl

@[simp] theorem State.expiryInsert_port (s : State) (e : Entry) (x : PortId) : (s.expiryInsert e).port x = s.port x := rfl

@[simp] theorem State.expiryInsert_dispatchQueue (s : State) (e : Entry) (x : PortId) : (s.expiryInsert e).dispatchQueue x = s.dispatchQueue x := rfl

@[simp] theorem State.expiryInsert_counters (s : State) (e : Entry) (x : PortId) : (s.expiryInsert e).counters x = s.counters x := rfl

@[simp] theorem State.expiryInsert_causes (s : State) (e : Entry) (x : PortId) : (s.expiryInsert e).causes x = s.causes x := rfl

@[simp] theorem State.expiryRemove_contexts (s : State) (e : Entry) : (s.expiryRemove e).contexts = s.contexts := rfl

@[simp] theorem State.expiryRemove_geometry (s : State) (e : Entry) : (s.expiryRemove e).geometry = s.geometry := rfl

@[simp] theorem State.expiryRemove_pool (s : State) (e : Entry) : (s.expiryRemove e).pool = s.pool := rfl

@[simp] theorem State.expiryRemove_store (s : State) (e : Entry) : (s.expiryRemove e).store = s.store := rfl

@[simp] theorem State.expiryRemove_engine (s : State) (e : Entry) : (s.expiryRemove e).engine = s.engine := rfl

@[simp] theorem State.expiryRemove_dispatcher (s : State) (e : Entry) : (s.expiryRemove e).dispatcher = s.dispatcher := rfl

@[simp] theorem State.expiryRemove_opportunity (s : State) (e : Entry) : (s.expiryRemove e).opportunity = s.opportunity := rfl

@[simp] theorem State.expiryRemove_units (s : State) (e : Entry) : (s.expiryRemove e).units = s.units := rfl

@[simp] theorem State.expiryRemove_ports (s : State) (e : Entry) : (s.expiryRemove e).ports = s.ports := rfl

@[simp] theorem State.expiryRemove_link (s : State) (e : Entry) : (s.expiryRemove e).link = s.link := rfl

@[simp] theorem State.expiryRemove_pending (s : State) (e : Entry) : (s.expiryRemove e).pending = s.pending := rfl

@[simp] theorem State.expiryRemove_ctx (s : State) (e : Entry) (x : Entry) : (s.expiryRemove e).ctx x = s.ctx x := rfl

@[simp] theorem State.expiryRemove_port (s : State) (e : Entry) (x : PortId) : (s.expiryRemove e).port x = s.port x := rfl

@[simp] theorem State.expiryRemove_dispatchQueue (s : State) (e : Entry) (x : PortId) : (s.expiryRemove e).dispatchQueue x = s.dispatchQueue x := rfl

@[simp] theorem State.expiryRemove_counters (s : State) (e : Entry) (x : PortId) : (s.expiryRemove e).counters x = s.counters x := rfl

@[simp] theorem State.expiryRemove_causes (s : State) (e : Entry) (x : PortId) : (s.expiryRemove e).causes x = s.causes x := rfl

@[simp] theorem State.enterHeld_geometry (s : State) (e : Entry) : (s.enterHeld e).geometry = s.geometry := rfl

@[simp] theorem State.enterHeld_pool (s : State) (e : Entry) : (s.enterHeld e).pool = s.pool := rfl

@[simp] theorem State.enterHeld_store (s : State) (e : Entry) : (s.enterHeld e).store = s.store := rfl

@[simp] theorem State.enterHeld_engine (s : State) (e : Entry) : (s.enterHeld e).engine = s.engine := rfl

@[simp] theorem State.enterHeld_dispatcher (s : State) (e : Entry) : (s.enterHeld e).dispatcher = s.dispatcher := rfl

@[simp] theorem State.enterHeld_opportunity (s : State) (e : Entry) : (s.enterHeld e).opportunity = s.opportunity := rfl

@[simp] theorem State.enterHeld_units (s : State) (e : Entry) : (s.enterHeld e).units = s.units := rfl

@[simp] theorem State.enterHeld_ports (s : State) (e : Entry) : (s.enterHeld e).ports = s.ports := rfl

@[simp] theorem State.enterHeld_link (s : State) (e : Entry) : (s.enterHeld e).link = s.link := rfl

@[simp] theorem State.enterHeld_pending (s : State) (e : Entry) : (s.enterHeld e).pending = s.pending := rfl

@[simp] theorem State.enterHeld_port (s : State) (e : Entry) (x : PortId) : (s.enterHeld e).port x = s.port x := rfl

@[simp] theorem State.enterHeld_dispatchQueue (s : State) (e : Entry) (x : PortId) : (s.enterHeld e).dispatchQueue x = s.dispatchQueue x := rfl

@[simp] theorem State.enterHeld_counters (s : State) (e : Entry) (x : PortId) : (s.enterHeld e).counters x = s.counters x := rfl

@[simp] theorem State.enterHeld_causes (s : State) (e : Entry) (x : PortId) : (s.enterHeld e).causes x = s.causes x := rfl

@[simp] theorem State.enterSolved_geometry (s : State) (e : Entry) : (s.enterSolved e).geometry = s.geometry := rfl

@[simp] theorem State.enterSolved_pool (s : State) (e : Entry) : (s.enterSolved e).pool = s.pool := rfl

@[simp] theorem State.enterSolved_store (s : State) (e : Entry) : (s.enterSolved e).store = s.store := rfl

@[simp] theorem State.enterSolved_engine (s : State) (e : Entry) : (s.enterSolved e).engine = s.engine := rfl

@[simp] theorem State.enterSolved_dispatcher (s : State) (e : Entry) : (s.enterSolved e).dispatcher = s.dispatcher := rfl

@[simp] theorem State.enterSolved_opportunity (s : State) (e : Entry) : (s.enterSolved e).opportunity = s.opportunity := rfl

@[simp] theorem State.enterSolved_units (s : State) (e : Entry) : (s.enterSolved e).units = s.units := rfl

@[simp] theorem State.enterSolved_ports (s : State) (e : Entry) : (s.enterSolved e).ports = s.ports := rfl

@[simp] theorem State.enterSolved_link (s : State) (e : Entry) : (s.enterSolved e).link = s.link := rfl

@[simp] theorem State.enterSolved_pending (s : State) (e : Entry) : (s.enterSolved e).pending = s.pending := rfl

@[simp] theorem State.enterSolved_port (s : State) (e : Entry) (x : PortId) : (s.enterSolved e).port x = s.port x := rfl

@[simp] theorem State.enterSolved_dispatchQueue (s : State) (e : Entry) (x : PortId) : (s.enterSolved e).dispatchQueue x = s.dispatchQueue x := rfl

@[simp] theorem State.enterSolved_counters (s : State) (e : Entry) (x : PortId) : (s.enterSolved e).counters x = s.counters x := rfl

@[simp] theorem State.enterSolved_causes (s : State) (e : Entry) (x : PortId) : (s.enterSolved e).causes x = s.causes x := rfl

@[simp] theorem State.endHeld_geometry (s : State) (k : NoticeKind) (e : Entry) : (s.endHeld k e).geometry = s.geometry := by
  simp only [State.endHeld]; split_ifs <;> rfl

@[simp] theorem State.endHeld_store (s : State) (k : NoticeKind) (e : Entry) : (s.endHeld k e).store = s.store := by
  simp only [State.endHeld]; split_ifs <;> rfl

@[simp] theorem State.endHeld_engine (s : State) (k : NoticeKind) (e : Entry) : (s.endHeld k e).engine = s.engine := by
  simp only [State.endHeld]; split_ifs <;> rfl

@[simp] theorem State.endHeld_dispatcher (s : State) (k : NoticeKind) (e : Entry) : (s.endHeld k e).dispatcher = s.dispatcher := by
  simp only [State.endHeld]; split_ifs <;> rfl

@[simp] theorem State.endHeld_opportunity (s : State) (k : NoticeKind) (e : Entry) : (s.endHeld k e).opportunity = s.opportunity := by
  simp only [State.endHeld]; split_ifs <;> rfl

@[simp] theorem State.endHeld_units (s : State) (k : NoticeKind) (e : Entry) : (s.endHeld k e).units = s.units := by
  simp only [State.endHeld]; split_ifs <;> rfl

@[simp] theorem State.endHeld_link (s : State) (k : NoticeKind) (e : Entry) : (s.endHeld k e).link = s.link := by
  simp only [State.endHeld]; split_ifs <;> rfl

@[simp] theorem State.endHeld_pending (s : State) (k : NoticeKind) (e : Entry) : (s.endHeld k e).pending = s.pending := by
  simp only [State.endHeld]; split_ifs <;> rfl

@[simp] theorem State.endHeld_dispatchQueue (s : State) (k : NoticeKind) (e : Entry) (x : PortId) : (s.endHeld k e).dispatchQueue x = s.dispatchQueue x := by
  simp only [State.endHeld]; split_ifs <;> rfl

@[simp] theorem State.endHeld_counters (s : State) (k : NoticeKind) (e : Entry) (x : PortId) : (s.endHeld k e).counters x = s.counters x := by
  simp only [State.endHeld]; split_ifs <;> rfl

@[simp] theorem State.endHeld_causes (s : State) (k : NoticeKind) (e : Entry) (x : PortId) : (s.endHeld k e).causes x = s.causes x := by
  simp only [State.endHeld]; split_ifs <;> rfl

@[simp] theorem State.endTombstone_geometry (s : State) (e : Entry) : (s.endTombstone e).geometry = s.geometry := by
  simp only [State.endTombstone]; split_ifs <;> rfl

@[simp] theorem State.endTombstone_pool (s : State) (e : Entry) : (s.endTombstone e).pool = s.pool := by
  simp only [State.endTombstone]; split_ifs <;> rfl

@[simp] theorem State.endTombstone_store (s : State) (e : Entry) : (s.endTombstone e).store = s.store := by
  simp only [State.endTombstone]; split_ifs <;> rfl

@[simp] theorem State.endTombstone_engine (s : State) (e : Entry) : (s.endTombstone e).engine = s.engine := by
  simp only [State.endTombstone]; split_ifs <;> rfl

@[simp] theorem State.endTombstone_dispatcher (s : State) (e : Entry) : (s.endTombstone e).dispatcher = s.dispatcher := by
  simp only [State.endTombstone]; split_ifs <;> rfl

@[simp] theorem State.endTombstone_opportunity (s : State) (e : Entry) : (s.endTombstone e).opportunity = s.opportunity := by
  simp only [State.endTombstone]; split_ifs <;> rfl

@[simp] theorem State.endTombstone_units (s : State) (e : Entry) : (s.endTombstone e).units = s.units := by
  simp only [State.endTombstone]; split_ifs <;> rfl

@[simp] theorem State.endTombstone_link (s : State) (e : Entry) : (s.endTombstone e).link = s.link := by
  simp only [State.endTombstone]; split_ifs <;> rfl

@[simp] theorem State.endTombstone_pending (s : State) (e : Entry) : (s.endTombstone e).pending = s.pending := by
  simp only [State.endTombstone]; split_ifs <;> rfl

@[simp] theorem State.endTombstone_dispatchQueue (s : State) (e : Entry) (x : PortId) : (s.endTombstone e).dispatchQueue x = s.dispatchQueue x := by
  simp only [State.endTombstone]; split_ifs <;> rfl

@[simp] theorem State.endTombstone_counters (s : State) (e : Entry) (x : PortId) : (s.endTombstone e).counters x = s.counters x := by
  simp only [State.endTombstone]; split_ifs <;> rfl

@[simp] theorem State.endTombstone_causes (s : State) (e : Entry) (x : PortId) : (s.endTombstone e).causes x = s.causes x := by
  simp only [State.endTombstone]; split_ifs <;> rfl

@[simp] theorem State.freeBuffer_contexts (s : State) (p : PortId) (b : BufId) : (s.freeBuffer p b).contexts = s.contexts := rfl

@[simp] theorem State.freeBuffer_geometry (s : State) (p : PortId) (b : BufId) : (s.freeBuffer p b).geometry = s.geometry := rfl

@[simp] theorem State.freeBuffer_pool (s : State) (p : PortId) (b : BufId) : (s.freeBuffer p b).pool = s.pool := rfl

@[simp] theorem State.freeBuffer_store (s : State) (p : PortId) (b : BufId) : (s.freeBuffer p b).store = s.store := rfl

@[simp] theorem State.freeBuffer_engine (s : State) (p : PortId) (b : BufId) : (s.freeBuffer p b).engine = s.engine := rfl

@[simp] theorem State.freeBuffer_dispatcher (s : State) (p : PortId) (b : BufId) : (s.freeBuffer p b).dispatcher = s.dispatcher := rfl

@[simp] theorem State.freeBuffer_opportunity (s : State) (p : PortId) (b : BufId) : (s.freeBuffer p b).opportunity = s.opportunity := rfl

@[simp] theorem State.freeBuffer_units (s : State) (p : PortId) (b : BufId) : (s.freeBuffer p b).units = s.units := rfl

@[simp] theorem State.freeBuffer_expiry (s : State) (p : PortId) (b : BufId) : (s.freeBuffer p b).expiry = s.expiry := rfl

@[simp] theorem State.freeBuffer_link (s : State) (p : PortId) (b : BufId) : (s.freeBuffer p b).link = s.link := rfl

@[simp] theorem State.freeBuffer_pending (s : State) (p : PortId) (b : BufId) : (s.freeBuffer p b).pending = s.pending := rfl

@[simp] theorem State.freeBuffer_ctx (s : State) (p : PortId) (b : BufId) (x : Entry) : (s.freeBuffer p b).ctx x = s.ctx x := rfl

@[simp] theorem State.freeBuffer_dispatchQueue (s : State) (p : PortId) (b : BufId) (x : PortId) : (s.freeBuffer p b).dispatchQueue x = s.dispatchQueue x := rfl

@[simp] theorem State.freeBuffer_counters (s : State) (p : PortId) (b : BufId) (x : PortId) : (s.freeBuffer p b).counters x = s.counters x := rfl

@[simp] theorem State.freeBuffer_causes (s : State) (p : PortId) (b : BufId) (x : PortId) : (s.freeBuffer p b).causes x = s.causes x := rfl

@[simp] theorem State.setOutSlot_contexts (s : State) (p : PortId) (i : SlotId) (v : OutSlot) : (s.setOutSlot p i v).contexts = s.contexts := rfl

@[simp] theorem State.setOutSlot_geometry (s : State) (p : PortId) (i : SlotId) (v : OutSlot) : (s.setOutSlot p i v).geometry = s.geometry := rfl

@[simp] theorem State.setOutSlot_pool (s : State) (p : PortId) (i : SlotId) (v : OutSlot) : (s.setOutSlot p i v).pool = s.pool := rfl

@[simp] theorem State.setOutSlot_store (s : State) (p : PortId) (i : SlotId) (v : OutSlot) : (s.setOutSlot p i v).store = s.store := rfl

@[simp] theorem State.setOutSlot_engine (s : State) (p : PortId) (i : SlotId) (v : OutSlot) : (s.setOutSlot p i v).engine = s.engine := rfl

@[simp] theorem State.setOutSlot_dispatcher (s : State) (p : PortId) (i : SlotId) (v : OutSlot) : (s.setOutSlot p i v).dispatcher = s.dispatcher := rfl

@[simp] theorem State.setOutSlot_opportunity (s : State) (p : PortId) (i : SlotId) (v : OutSlot) : (s.setOutSlot p i v).opportunity = s.opportunity := rfl

@[simp] theorem State.setOutSlot_units (s : State) (p : PortId) (i : SlotId) (v : OutSlot) : (s.setOutSlot p i v).units = s.units := rfl

@[simp] theorem State.setOutSlot_expiry (s : State) (p : PortId) (i : SlotId) (v : OutSlot) : (s.setOutSlot p i v).expiry = s.expiry := rfl

@[simp] theorem State.setOutSlot_link (s : State) (p : PortId) (i : SlotId) (v : OutSlot) : (s.setOutSlot p i v).link = s.link := rfl

@[simp] theorem State.setOutSlot_pending (s : State) (p : PortId) (i : SlotId) (v : OutSlot) : (s.setOutSlot p i v).pending = s.pending := rfl

@[simp] theorem State.setOutSlot_ctx (s : State) (p : PortId) (i : SlotId) (v : OutSlot) (x : Entry) : (s.setOutSlot p i v).ctx x = s.ctx x := rfl

@[simp] theorem State.setOutSlot_dispatchQueue (s : State) (p : PortId) (i : SlotId) (v : OutSlot) (x : PortId) : (s.setOutSlot p i v).dispatchQueue x = s.dispatchQueue x := rfl

@[simp] theorem State.setOutSlot_counters (s : State) (p : PortId) (i : SlotId) (v : OutSlot) (x : PortId) : (s.setOutSlot p i v).counters x = s.counters x := rfl

@[simp] theorem State.setOutSlot_causes (s : State) (p : PortId) (i : SlotId) (v : OutSlot) (x : PortId) : (s.setOutSlot p i v).causes x = s.causes x := rfl

@[simp] theorem State.dispatchAppend_contexts (s : State) (p : PortId) (e : Entry) : (s.dispatchAppend p e).contexts = s.contexts := rfl

@[simp] theorem State.dispatchAppend_geometry (s : State) (p : PortId) (e : Entry) : (s.dispatchAppend p e).geometry = s.geometry := rfl

@[simp] theorem State.dispatchAppend_pool (s : State) (p : PortId) (e : Entry) : (s.dispatchAppend p e).pool = s.pool := rfl

@[simp] theorem State.dispatchAppend_store (s : State) (p : PortId) (e : Entry) : (s.dispatchAppend p e).store = s.store := rfl

@[simp] theorem State.dispatchAppend_engine (s : State) (p : PortId) (e : Entry) : (s.dispatchAppend p e).engine = s.engine := rfl

@[simp] theorem State.dispatchAppend_units (s : State) (p : PortId) (e : Entry) : (s.dispatchAppend p e).units = s.units := rfl

@[simp] theorem State.dispatchAppend_expiry (s : State) (p : PortId) (e : Entry) : (s.dispatchAppend p e).expiry = s.expiry := rfl

@[simp] theorem State.dispatchAppend_ports (s : State) (p : PortId) (e : Entry) : (s.dispatchAppend p e).ports = s.ports := rfl

@[simp] theorem State.dispatchAppend_link (s : State) (p : PortId) (e : Entry) : (s.dispatchAppend p e).link = s.link := rfl

@[simp] theorem State.dispatchAppend_pending (s : State) (p : PortId) (e : Entry) : (s.dispatchAppend p e).pending = s.pending := rfl

@[simp] theorem State.dispatchAppend_ctx (s : State) (p : PortId) (e : Entry) (x : Entry) : (s.dispatchAppend p e).ctx x = s.ctx x := rfl

@[simp] theorem State.dispatchAppend_port (s : State) (p : PortId) (e : Entry) (x : PortId) : (s.dispatchAppend p e).port x = s.port x := rfl

@[simp] theorem State.dispatchAppend_counters (s : State) (p : PortId) (e : Entry) (x : PortId) : (s.dispatchAppend p e).counters x = s.counters x := rfl

@[simp] theorem State.dispatchAppend_causes (s : State) (p : PortId) (e : Entry) (x : PortId) : (s.dispatchAppend p e).causes x = s.causes x := rfl

@[simp] theorem State.dispatchRemove_contexts (s : State) (p : PortId) (e : Entry) : (s.dispatchRemove p e).contexts = s.contexts := by
  simp only [State.dispatchRemove]; split_ifs <;> rfl

@[simp] theorem State.dispatchRemove_geometry (s : State) (p : PortId) (e : Entry) : (s.dispatchRemove p e).geometry = s.geometry := by
  simp only [State.dispatchRemove]; split_ifs <;> rfl

@[simp] theorem State.dispatchRemove_pool (s : State) (p : PortId) (e : Entry) : (s.dispatchRemove p e).pool = s.pool := by
  simp only [State.dispatchRemove]; split_ifs <;> rfl

@[simp] theorem State.dispatchRemove_store (s : State) (p : PortId) (e : Entry) : (s.dispatchRemove p e).store = s.store := by
  simp only [State.dispatchRemove]; split_ifs <;> rfl

@[simp] theorem State.dispatchRemove_engine (s : State) (p : PortId) (e : Entry) : (s.dispatchRemove p e).engine = s.engine := by
  simp only [State.dispatchRemove]; split_ifs <;> rfl

@[simp] theorem State.dispatchRemove_units (s : State) (p : PortId) (e : Entry) : (s.dispatchRemove p e).units = s.units := by
  simp only [State.dispatchRemove]; split_ifs <;> rfl

@[simp] theorem State.dispatchRemove_expiry (s : State) (p : PortId) (e : Entry) : (s.dispatchRemove p e).expiry = s.expiry := by
  simp only [State.dispatchRemove]; split_ifs <;> rfl

@[simp] theorem State.dispatchRemove_ports (s : State) (p : PortId) (e : Entry) : (s.dispatchRemove p e).ports = s.ports := by
  simp only [State.dispatchRemove]; split_ifs <;> rfl

@[simp] theorem State.dispatchRemove_link (s : State) (p : PortId) (e : Entry) : (s.dispatchRemove p e).link = s.link := by
  simp only [State.dispatchRemove]; split_ifs <;> rfl

@[simp] theorem State.dispatchRemove_pending (s : State) (p : PortId) (e : Entry) : (s.dispatchRemove p e).pending = s.pending := by
  simp only [State.dispatchRemove]; split_ifs <;> rfl

@[simp] theorem State.dispatchRemove_ctx (s : State) (p : PortId) (e : Entry) (x : Entry) : (s.dispatchRemove p e).ctx x = s.ctx x := by
  simp only [State.dispatchRemove]; split_ifs <;> rfl

@[simp] theorem State.dispatchRemove_port (s : State) (p : PortId) (e : Entry) (x : PortId) : (s.dispatchRemove p e).port x = s.port x := by
  simp only [State.dispatchRemove]; split_ifs <;> rfl

@[simp] theorem State.dispatchRemove_counters (s : State) (p : PortId) (e : Entry) (x : PortId) : (s.dispatchRemove p e).counters x = s.counters x := by
  simp only [State.dispatchRemove]; split_ifs <;> rfl

@[simp] theorem State.dispatchRemove_causes (s : State) (p : PortId) (e : Entry) (x : PortId) : (s.dispatchRemove p e).causes x = s.causes x := by
  simp only [State.dispatchRemove]; split_ifs <;> rfl

@[simp] theorem State.abandonEntry_contexts (s : State) (e : Entry) : (s.abandonEntry e).contexts = s.contexts := rfl

@[simp] theorem State.abandonEntry_geometry (s : State) (e : Entry) : (s.abandonEntry e).geometry = s.geometry := rfl

@[simp] theorem State.abandonEntry_pool (s : State) (e : Entry) : (s.abandonEntry e).pool = s.pool := rfl

@[simp] theorem State.abandonEntry_store (s : State) (e : Entry) : (s.abandonEntry e).store = s.store := rfl

@[simp] theorem State.abandonEntry_engine (s : State) (e : Entry) : (s.abandonEntry e).engine = s.engine := rfl

@[simp] theorem State.abandonEntry_dispatcher (s : State) (e : Entry) : (s.abandonEntry e).dispatcher = s.dispatcher := rfl

@[simp] theorem State.abandonEntry_opportunity (s : State) (e : Entry) : (s.abandonEntry e).opportunity = s.opportunity := rfl

@[simp] theorem State.abandonEntry_expiry (s : State) (e : Entry) : (s.abandonEntry e).expiry = s.expiry := rfl

@[simp] theorem State.abandonEntry_ports (s : State) (e : Entry) : (s.abandonEntry e).ports = s.ports := rfl

@[simp] theorem State.abandonEntry_link (s : State) (e : Entry) : (s.abandonEntry e).link = s.link := rfl

@[simp] theorem State.abandonEntry_pending (s : State) (e : Entry) : (s.abandonEntry e).pending = s.pending := rfl

@[simp] theorem State.abandonEntry_ctx (s : State) (e : Entry) (x : Entry) : (s.abandonEntry e).ctx x = s.ctx x := rfl

@[simp] theorem State.abandonEntry_port (s : State) (e : Entry) (x : PortId) : (s.abandonEntry e).port x = s.port x := rfl

@[simp] theorem State.abandonEntry_dispatchQueue (s : State) (e : Entry) (x : PortId) : (s.abandonEntry e).dispatchQueue x = s.dispatchQueue x := rfl

@[simp] theorem State.abandonEntry_counters (s : State) (e : Entry) (x : PortId) : (s.abandonEntry e).counters x = s.counters x := rfl

@[simp] theorem State.abandonEntry_causes (s : State) (e : Entry) (x : PortId) : (s.abandonEntry e).causes x = s.causes x := rfl

@[simp] theorem State.abandonPort_contexts (s : State) (p : PortId) : (s.abandonPort p).contexts = s.contexts := rfl

@[simp] theorem State.abandonPort_geometry (s : State) (p : PortId) : (s.abandonPort p).geometry = s.geometry := rfl

@[simp] theorem State.abandonPort_pool (s : State) (p : PortId) : (s.abandonPort p).pool = s.pool := rfl

@[simp] theorem State.abandonPort_store (s : State) (p : PortId) : (s.abandonPort p).store = s.store := rfl

@[simp] theorem State.abandonPort_engine (s : State) (p : PortId) : (s.abandonPort p).engine = s.engine := rfl

@[simp] theorem State.abandonPort_dispatcher (s : State) (p : PortId) : (s.abandonPort p).dispatcher = s.dispatcher := rfl

@[simp] theorem State.abandonPort_opportunity (s : State) (p : PortId) : (s.abandonPort p).opportunity = s.opportunity := rfl

@[simp] theorem State.abandonPort_expiry (s : State) (p : PortId) : (s.abandonPort p).expiry = s.expiry := rfl

@[simp] theorem State.abandonPort_ports (s : State) (p : PortId) : (s.abandonPort p).ports = s.ports := rfl

@[simp] theorem State.abandonPort_link (s : State) (p : PortId) : (s.abandonPort p).link = s.link := rfl

@[simp] theorem State.abandonPort_pending (s : State) (p : PortId) : (s.abandonPort p).pending = s.pending := rfl

@[simp] theorem State.abandonPort_ctx (s : State) (p : PortId) (x : Entry) : (s.abandonPort p).ctx x = s.ctx x := rfl

@[simp] theorem State.abandonPort_port (s : State) (p : PortId) (x : PortId) : (s.abandonPort p).port x = s.port x := rfl

@[simp] theorem State.abandonPort_dispatchQueue (s : State) (p : PortId) (x : PortId) : (s.abandonPort p).dispatchQueue x = s.dispatchQueue x := rfl

@[simp] theorem State.abandonPort_counters (s : State) (p : PortId) (x : PortId) : (s.abandonPort p).counters x = s.counters x := rfl

@[simp] theorem State.abandonPort_causes (s : State) (p : PortId) (x : PortId) : (s.abandonPort p).causes x = s.causes x := rfl

@[simp] theorem State.endContexts_geometry (s : State) (p : PortId) (k : CtxState → Bool) : (s.endContexts p k).geometry = s.geometry := rfl

@[simp] theorem State.endContexts_store (s : State) (p : PortId) (k : CtxState → Bool) : (s.endContexts p k).store = s.store := rfl

@[simp] theorem State.endContexts_engine (s : State) (p : PortId) (k : CtxState → Bool) : (s.endContexts p k).engine = s.engine := rfl

@[simp] theorem State.endContexts_dispatcher (s : State) (p : PortId) (k : CtxState → Bool) : (s.endContexts p k).dispatcher = s.dispatcher := rfl

@[simp] theorem State.endContexts_opportunity (s : State) (p : PortId) (k : CtxState → Bool) : (s.endContexts p k).opportunity = s.opportunity := rfl

@[simp] theorem State.endContexts_units (s : State) (p : PortId) (k : CtxState → Bool) : (s.endContexts p k).units = s.units := rfl

@[simp] theorem State.endContexts_link (s : State) (p : PortId) (k : CtxState → Bool) : (s.endContexts p k).link = s.link := rfl

@[simp] theorem State.endContexts_pending (s : State) (p : PortId) (k : CtxState → Bool) : (s.endContexts p k).pending = s.pending := rfl

@[simp] theorem State.endContexts_dispatchQueue (s : State) (p : PortId) (k : CtxState → Bool) (x : PortId) : (s.endContexts p k).dispatchQueue x = s.dispatchQueue x := rfl

@[simp] theorem State.endContexts_counters (s : State) (p : PortId) (k : CtxState → Bool) (x : PortId) : (s.endContexts p k).counters x = s.counters x := rfl

@[simp] theorem State.endContexts_causes (s : State) (p : PortId) (k : CtxState → Bool) (x : PortId) : (s.endContexts p k).causes x = s.causes x := rfl

@[simp] theorem State.closeDrain_geometry (s : State) (p : PortId) : (s.closeDrain p).geometry = s.geometry := rfl

@[simp] theorem State.closeDrain_store (s : State) (p : PortId) : (s.closeDrain p).store = s.store := rfl

@[simp] theorem State.closeDrain_engine (s : State) (p : PortId) : (s.closeDrain p).engine = s.engine := rfl

@[simp] theorem State.closeDrain_opportunity (s : State) (p : PortId) : (s.closeDrain p).opportunity = true := rfl

@[simp] theorem State.closeDrain_dispatcher (s : State) (p : PortId) : (s.closeDrain p).dispatcher = s.dispatcher := rfl

@[simp] theorem State.closeDrain_units (s : State) (p : PortId) : (s.closeDrain p).units = s.units := rfl

@[simp] theorem State.closeDrain_pending (s : State) (p : PortId) : (s.closeDrain p).pending = s.pending := rfl

@[simp] theorem State.closeDrain_dispatchQueue (s : State) (p : PortId) (x : PortId) : (s.closeDrain p).dispatchQueue x = s.dispatchQueue x := rfl

@[simp] theorem State.endReset_contexts (s : State) (p : PortId) (v : ResetTarget) : (s.endReset p v).contexts = s.contexts := by
  cases v <;> rfl

@[simp] theorem State.endReset_geometry (s : State) (p : PortId) (v : ResetTarget) : (s.endReset p v).geometry = s.geometry := by
  cases v <;> rfl

@[simp] theorem State.endReset_pool (s : State) (p : PortId) (v : ResetTarget) : (s.endReset p v).pool = s.pool := by
  cases v <;> rfl

@[simp] theorem State.endReset_store (s : State) (p : PortId) (v : ResetTarget) : (s.endReset p v).store = s.store := by
  cases v <;> rfl

@[simp] theorem State.endReset_engine (s : State) (p : PortId) (v : ResetTarget) : (s.endReset p v).engine = s.engine := by
  cases v <;> rfl

@[simp] theorem State.endReset_opportunity (s : State) (p : PortId) (v : ResetTarget) : (s.endReset p v).opportunity = true := rfl

@[simp] theorem State.endReset_dispatcher (s : State) (p : PortId) (v : ResetTarget) : (s.endReset p v).dispatcher = s.dispatcher := by
  cases v <;> rfl

@[simp] theorem State.endReset_units (s : State) (p : PortId) (v : ResetTarget) : (s.endReset p v).units = s.units := by
  cases v <;> rfl

@[simp] theorem State.endReset_expiry (s : State) (p : PortId) (v : ResetTarget) : (s.endReset p v).expiry = s.expiry := by
  cases v <;> rfl

@[simp] theorem State.endReset_pending (s : State) (p : PortId) (v : ResetTarget) : (s.endReset p v).pending = s.pending := by
  cases v <;> rfl

@[simp] theorem State.endReset_ctx (s : State) (p : PortId) (v : ResetTarget) (x : Entry) : (s.endReset p v).ctx x = s.ctx x := by
  cases v <;> rfl

@[simp] theorem State.endReset_dispatchQueue (s : State) (p : PortId) (v : ResetTarget) (x : PortId) : (s.endReset p v).dispatchQueue x = s.dispatchQueue x := by
  cases v <;> rfl

@[simp] theorem State.settle_geometry (s : State) (p : PortId) : (s.settle p).geometry = s.geometry := by
  simp only [State.settle]; split
  · rfl
  · rfl
  · split_ifs <;> simp
  · split_ifs <;> simp

@[simp] theorem State.settle_store (s : State) (p : PortId) : (s.settle p).store = s.store := by
  simp only [State.settle]; split
  · rfl
  · rfl
  · split_ifs <;> simp
  · split_ifs <;> simp

@[simp] theorem State.settle_engine (s : State) (p : PortId) : (s.settle p).engine = s.engine := by
  simp only [State.settle]; split
  · rfl
  · rfl
  · split_ifs <;> simp
  · split_ifs <;> simp

/-- A drain's close or a reset's end leaves a dispatch opportunity; otherwise an outstanding one stays. -/
theorem State.settle_opportunity (s : State) (p : PortId) (h : s.opportunity = true) :
    (s.settle p).opportunity = true := by
  simp only [State.settle]; split
  · exact h
  · exact h
  · split_ifs <;> simp [h]
  · split_ifs <;> simp [h]

@[simp] theorem State.settle_dispatcher (s : State) (p : PortId) : (s.settle p).dispatcher = s.dispatcher := by
  simp only [State.settle]; split
  · rfl
  · rfl
  · split_ifs <;> simp
  · split_ifs <;> simp

@[simp] theorem State.settle_units (s : State) (p : PortId) : (s.settle p).units = s.units := by
  simp only [State.settle]; split
  · rfl
  · rfl
  · split_ifs <;> simp
  · split_ifs <;> simp

@[simp] theorem State.settle_pending (s : State) (p : PortId) : (s.settle p).pending = s.pending := by
  simp only [State.settle]; split
  · rfl
  · rfl
  · split_ifs <;> simp
  · split_ifs <;> simp

@[simp] theorem State.settle_dispatchQueue (s : State) (p : PortId) (x : PortId) : (s.settle p).dispatchQueue x = s.dispatchQueue x := by
  simp only [State.settle]; split
  · rfl
  · rfl
  · split_ifs <;> simp
  · split_ifs <;> simp

@[simp] theorem State.startReset_geometry (s : State) (p : PortId) (v : ResetTarget) : (s.startReset p v).geometry = s.geometry := by
  simp [State.startReset]

@[simp] theorem State.startReset_store (s : State) (p : PortId) (v : ResetTarget) : (s.startReset p v).store = s.store := by
  simp [State.startReset]

@[simp] theorem State.startReset_pending (s : State) (p : PortId) (v : ResetTarget) : (s.startReset p v).pending = s.pending := by
  simp [State.startReset]

@[simp] theorem State.busAnswer_contexts (s : State) (p : PortId) (l : List Word64) : (s.busAnswer p l).contexts = s.contexts := rfl

@[simp] theorem State.busAnswer_geometry (s : State) (p : PortId) (l : List Word64) : (s.busAnswer p l).geometry = s.geometry := rfl

@[simp] theorem State.busAnswer_pool (s : State) (p : PortId) (l : List Word64) : (s.busAnswer p l).pool = s.pool := rfl

@[simp] theorem State.busAnswer_store (s : State) (p : PortId) (l : List Word64) : (s.busAnswer p l).store = s.store := rfl

@[simp] theorem State.busAnswer_engine (s : State) (p : PortId) (l : List Word64) : (s.busAnswer p l).engine = s.engine := rfl

@[simp] theorem State.busAnswer_dispatcher (s : State) (p : PortId) (l : List Word64) : (s.busAnswer p l).dispatcher = s.dispatcher := rfl

@[simp] theorem State.busAnswer_opportunity (s : State) (p : PortId) (l : List Word64) : (s.busAnswer p l).opportunity = s.opportunity := rfl

@[simp] theorem State.busAnswer_units (s : State) (p : PortId) (l : List Word64) : (s.busAnswer p l).units = s.units := rfl

@[simp] theorem State.busAnswer_expiry (s : State) (p : PortId) (l : List Word64) : (s.busAnswer p l).expiry = s.expiry := rfl

@[simp] theorem State.busAnswer_link (s : State) (p : PortId) (l : List Word64) : (s.busAnswer p l).link = s.link := rfl

@[simp] theorem State.busAnswer_pending (s : State) (p : PortId) (l : List Word64) : (s.busAnswer p l).pending = s.pending := rfl

@[simp] theorem State.busAnswer_ctx (s : State) (p : PortId) (l : List Word64) (x : Entry) : (s.busAnswer p l).ctx x = s.ctx x := rfl

@[simp] theorem State.busAnswer_dispatchQueue (s : State) (p : PortId) (l : List Word64) (x : PortId) : (s.busAnswer p l).dispatchQueue x = s.dispatchQueue x := rfl

@[simp] theorem State.busAnswer_counters (s : State) (p : PortId) (l : List Word64) (x : PortId) : (s.busAnswer p l).counters x = s.counters x := rfl

@[simp] theorem State.busAnswer_causes (s : State) (p : PortId) (l : List Word64) (x : PortId) : (s.busAnswer p l).causes x = s.causes x := rfl

@[simp] theorem State.popAnswer_geometry (s : State) (p : PortId) : (s.popAnswer p).geometry = s.geometry := by
  simp only [State.popAnswer]
  (repeat' split) <;> rfl

@[simp] theorem State.popAnswer_pool (s : State) (p : PortId) : (s.popAnswer p).pool = s.pool := by
  simp only [State.popAnswer]
  (repeat' split) <;> rfl

@[simp] theorem State.popAnswer_store (s : State) (p : PortId) : (s.popAnswer p).store = s.store := by
  simp only [State.popAnswer]
  (repeat' split) <;> rfl

@[simp] theorem State.popAnswer_engine (s : State) (p : PortId) : (s.popAnswer p).engine = s.engine := by
  simp only [State.popAnswer]
  (repeat' split) <;> rfl

@[simp] theorem State.popAnswer_dispatcher (s : State) (p : PortId) : (s.popAnswer p).dispatcher = s.dispatcher := by
  simp only [State.popAnswer]
  (repeat' split) <;> rfl

@[simp] theorem State.popAnswer_opportunity (s : State) (p : PortId) : (s.popAnswer p).opportunity = s.opportunity := by
  simp only [State.popAnswer]
  (repeat' split) <;> rfl

@[simp] theorem State.popAnswer_units (s : State) (p : PortId) : (s.popAnswer p).units = s.units := by
  simp only [State.popAnswer]
  (repeat' split) <;> rfl

@[simp] theorem State.popAnswer_expiry (s : State) (p : PortId) : (s.popAnswer p).expiry = s.expiry := by
  simp only [State.popAnswer]
  (repeat' split) <;> rfl

@[simp] theorem State.popAnswer_link (s : State) (p : PortId) : (s.popAnswer p).link = s.link := by
  simp only [State.popAnswer]
  (repeat' split) <;> rfl

@[simp] theorem State.popAnswer_pending (s : State) (p : PortId) : (s.popAnswer p).pending = s.pending := by
  simp only [State.popAnswer]
  (repeat' split) <;> rfl

@[simp] theorem State.popAnswer_dispatchQueue (s : State) (p : PortId) (x : PortId) : (s.popAnswer p).dispatchQueue x = s.dispatchQueue x := by
  simp only [State.popAnswer]
  (repeat' split) <;> rfl

@[simp] theorem State.popAnswer_counters (s : State) (p : PortId) (x : PortId) : (s.popAnswer p).counters x = s.counters x := by
  simp only [State.popAnswer]
  (repeat' split) <;> rfl

@[simp] theorem State.popAnswer_causes (s : State) (p : PortId) (x : PortId) : (s.popAnswer p).causes x = s.causes x := by
  simp only [State.popAnswer]
  (repeat' split) <;> rfl

@[simp] theorem State.answerFrame_contexts (s : State) (n : Nat) (c : Byte) (r : ResultCode) (l : List Byte) : (s.answerFrame n c r l).contexts = s.contexts := rfl

@[simp] theorem State.answerFrame_geometry (s : State) (n : Nat) (c : Byte) (r : ResultCode) (l : List Byte) : (s.answerFrame n c r l).geometry = s.geometry := rfl

@[simp] theorem State.answerFrame_pool (s : State) (n : Nat) (c : Byte) (r : ResultCode) (l : List Byte) : (s.answerFrame n c r l).pool = s.pool := rfl

@[simp] theorem State.answerFrame_store (s : State) (n : Nat) (c : Byte) (r : ResultCode) (l : List Byte) : (s.answerFrame n c r l).store = s.store := rfl

@[simp] theorem State.answerFrame_engine (s : State) (n : Nat) (c : Byte) (r : ResultCode) (l : List Byte) : (s.answerFrame n c r l).engine = s.engine := rfl

@[simp] theorem State.answerFrame_dispatcher (s : State) (n : Nat) (c : Byte) (r : ResultCode) (l : List Byte) : (s.answerFrame n c r l).dispatcher = s.dispatcher := rfl

@[simp] theorem State.answerFrame_opportunity (s : State) (n : Nat) (c : Byte) (r : ResultCode) (l : List Byte) : (s.answerFrame n c r l).opportunity = s.opportunity := rfl

@[simp] theorem State.answerFrame_units (s : State) (n : Nat) (c : Byte) (r : ResultCode) (l : List Byte) : (s.answerFrame n c r l).units = s.units := rfl

@[simp] theorem State.answerFrame_expiry (s : State) (n : Nat) (c : Byte) (r : ResultCode) (l : List Byte) : (s.answerFrame n c r l).expiry = s.expiry := rfl

@[simp] theorem State.answerFrame_ports (s : State) (n : Nat) (c : Byte) (r : ResultCode) (l : List Byte) : (s.answerFrame n c r l).ports = s.ports := rfl

@[simp] theorem State.answerFrame_pending (s : State) (n : Nat) (c : Byte) (r : ResultCode) (l : List Byte) : (s.answerFrame n c r l).pending = s.pending := rfl

@[simp] theorem State.answerFrame_ctx (s : State) (n : Nat) (c : Byte) (r : ResultCode) (l : List Byte) (x : Entry) : (s.answerFrame n c r l).ctx x = s.ctx x := rfl

@[simp] theorem State.answerFrame_port (s : State) (n : Nat) (c : Byte) (r : ResultCode) (l : List Byte) (x : PortId) : (s.answerFrame n c r l).port x = s.port x := rfl

@[simp] theorem State.answerFrame_dispatchQueue (s : State) (n : Nat) (c : Byte) (r : ResultCode) (l : List Byte) (x : PortId) : (s.answerFrame n c r l).dispatchQueue x = s.dispatchQueue x := rfl

@[simp] theorem State.disposeHead_contexts (s : State) (p : PortId) : (s.disposeHead p).contexts = s.contexts := rfl

@[simp] theorem State.disposeHead_geometry (s : State) (p : PortId) : (s.disposeHead p).geometry = s.geometry := rfl

@[simp] theorem State.disposeHead_pool (s : State) (p : PortId) : (s.disposeHead p).pool = s.pool := rfl

@[simp] theorem State.disposeHead_store (s : State) (p : PortId) : (s.disposeHead p).store = s.store := rfl

@[simp] theorem State.disposeHead_engine (s : State) (p : PortId) : (s.disposeHead p).engine = s.engine := rfl

@[simp] theorem State.disposeHead_dispatcher (s : State) (p : PortId) : (s.disposeHead p).dispatcher = s.dispatcher := rfl

@[simp] theorem State.disposeHead_opportunity (s : State) (p : PortId) : (s.disposeHead p).opportunity = s.opportunity := rfl

@[simp] theorem State.disposeHead_units (s : State) (p : PortId) : (s.disposeHead p).units = s.units := rfl

@[simp] theorem State.disposeHead_expiry (s : State) (p : PortId) : (s.disposeHead p).expiry = s.expiry := rfl

@[simp] theorem State.disposeHead_link (s : State) (p : PortId) : (s.disposeHead p).link = s.link := rfl

@[simp] theorem State.disposeHead_pending (s : State) (p : PortId) : (s.disposeHead p).pending = s.pending := rfl

@[simp] theorem State.disposeHead_ctx (s : State) (p : PortId) (x : Entry) : (s.disposeHead p).ctx x = s.ctx x := rfl

@[simp] theorem State.disposeHead_dispatchQueue (s : State) (p : PortId) (x : PortId) : (s.disposeHead p).dispatchQueue x = s.dispatchQueue x := rfl

@[simp] theorem State.disposeHead_counters (s : State) (p : PortId) (x : PortId) : (s.disposeHead p).counters x = s.counters x := rfl

@[simp] theorem State.disposeHead_causes (s : State) (p : PortId) (x : PortId) : (s.disposeHead p).causes x = s.causes x := rfl

@[simp] theorem State.stall_contexts (s : State) (p : PortId) (i : IntakeState) : (s.stall p i).contexts = s.contexts := rfl

@[simp] theorem State.stall_geometry (s : State) (p : PortId) (i : IntakeState) : (s.stall p i).geometry = s.geometry := rfl

@[simp] theorem State.stall_pool (s : State) (p : PortId) (i : IntakeState) : (s.stall p i).pool = s.pool := rfl

@[simp] theorem State.stall_store (s : State) (p : PortId) (i : IntakeState) : (s.stall p i).store = s.store := rfl

@[simp] theorem State.stall_engine (s : State) (p : PortId) (i : IntakeState) : (s.stall p i).engine = s.engine := rfl

@[simp] theorem State.stall_dispatcher (s : State) (p : PortId) (i : IntakeState) : (s.stall p i).dispatcher = s.dispatcher := rfl

@[simp] theorem State.stall_opportunity (s : State) (p : PortId) (i : IntakeState) : (s.stall p i).opportunity = s.opportunity := rfl

@[simp] theorem State.stall_units (s : State) (p : PortId) (i : IntakeState) : (s.stall p i).units = s.units := rfl

@[simp] theorem State.stall_expiry (s : State) (p : PortId) (i : IntakeState) : (s.stall p i).expiry = s.expiry := rfl

@[simp] theorem State.stall_link (s : State) (p : PortId) (i : IntakeState) : (s.stall p i).link = s.link := rfl

@[simp] theorem State.stall_pending (s : State) (p : PortId) (i : IntakeState) : (s.stall p i).pending = s.pending := rfl

@[simp] theorem State.stall_ctx (s : State) (p : PortId) (i : IntakeState) (x : Entry) : (s.stall p i).ctx x = s.ctx x := rfl

@[simp] theorem State.stall_dispatchQueue (s : State) (p : PortId) (i : IntakeState) (x : PortId) : (s.stall p i).dispatchQueue x = s.dispatchQueue x := rfl

@[simp] theorem State.stall_counters (s : State) (p : PortId) (i : IntakeState) (x : PortId) : (s.stall p i).counters x = s.counters x := rfl

@[simp] theorem State.stall_causes (s : State) (p : PortId) (i : IntakeState) (x : PortId) : (s.stall p i).causes x = s.causes x := rfl

@[simp] theorem State.refuseHead_contexts (s : State) (p : PortId) (q : QueueEntry) (r : RefusalReason) : (s.refuseHead p q r).contexts = s.contexts := by
  simp only [State.refuseHead]; split <;> rfl

@[simp] theorem State.refuseHead_geometry (s : State) (p : PortId) (q : QueueEntry) (r : RefusalReason) : (s.refuseHead p q r).geometry = s.geometry := by
  simp only [State.refuseHead]; split <;> rfl

@[simp] theorem State.refuseHead_pool (s : State) (p : PortId) (q : QueueEntry) (r : RefusalReason) : (s.refuseHead p q r).pool = s.pool := by
  simp only [State.refuseHead]; split <;> rfl

@[simp] theorem State.refuseHead_store (s : State) (p : PortId) (q : QueueEntry) (r : RefusalReason) : (s.refuseHead p q r).store = s.store := by
  simp only [State.refuseHead]; split <;> rfl

@[simp] theorem State.refuseHead_engine (s : State) (p : PortId) (q : QueueEntry) (r : RefusalReason) : (s.refuseHead p q r).engine = s.engine := by
  simp only [State.refuseHead]; split <;> rfl

@[simp] theorem State.refuseHead_dispatcher (s : State) (p : PortId) (q : QueueEntry) (r : RefusalReason) : (s.refuseHead p q r).dispatcher = s.dispatcher := by
  simp only [State.refuseHead]; split <;> rfl

@[simp] theorem State.refuseHead_opportunity (s : State) (p : PortId) (q : QueueEntry) (r : RefusalReason) : (s.refuseHead p q r).opportunity = s.opportunity := by
  simp only [State.refuseHead]; split <;> rfl

@[simp] theorem State.refuseHead_units (s : State) (p : PortId) (q : QueueEntry) (r : RefusalReason) : (s.refuseHead p q r).units = s.units := by
  simp only [State.refuseHead]; split <;> rfl

@[simp] theorem State.refuseHead_expiry (s : State) (p : PortId) (q : QueueEntry) (r : RefusalReason) : (s.refuseHead p q r).expiry = s.expiry := by
  simp only [State.refuseHead]; split <;> rfl

@[simp] theorem State.refuseHead_pending (s : State) (p : PortId) (q : QueueEntry) (r : RefusalReason) : (s.refuseHead p q r).pending = s.pending := by
  simp only [State.refuseHead]; split <;> rfl

@[simp] theorem State.refuseHead_ctx (s : State) (p : PortId) (q : QueueEntry) (r : RefusalReason) (x : Entry) : (s.refuseHead p q r).ctx x = s.ctx x := by
  simp only [State.refuseHead]; split <;> rfl

@[simp] theorem State.refuseHead_dispatchQueue (s : State) (p : PortId) (q : QueueEntry) (r : RefusalReason) (x : PortId) : (s.refuseHead p q r).dispatchQueue x = s.dispatchQueue x := by
  simp only [State.refuseHead]; split <;> rfl

@[simp] theorem State.placeHead_contexts (s : State) (p : PortId) (r : Request) : (s.placeHead p r).contexts = s.contexts := rfl

@[simp] theorem State.placeHead_geometry (s : State) (p : PortId) (r : Request) : (s.placeHead p r).geometry = s.geometry := rfl

@[simp] theorem State.placeHead_pool (s : State) (p : PortId) (r : Request) : (s.placeHead p r).pool = s.pool := rfl

@[simp] theorem State.placeHead_store (s : State) (p : PortId) (r : Request) : (s.placeHead p r).store = s.store := rfl

@[simp] theorem State.placeHead_engine (s : State) (p : PortId) (r : Request) : (s.placeHead p r).engine = s.engine := rfl

@[simp] theorem State.placeHead_dispatcher (s : State) (p : PortId) (r : Request) : (s.placeHead p r).dispatcher = s.dispatcher := rfl

@[simp] theorem State.placeHead_opportunity (s : State) (p : PortId) (r : Request) : (s.placeHead p r).opportunity = s.opportunity := rfl

@[simp] theorem State.placeHead_units (s : State) (p : PortId) (r : Request) : (s.placeHead p r).units = s.units := rfl

@[simp] theorem State.placeHead_expiry (s : State) (p : PortId) (r : Request) : (s.placeHead p r).expiry = s.expiry := rfl

@[simp] theorem State.placeHead_link (s : State) (p : PortId) (r : Request) : (s.placeHead p r).link = s.link := rfl

@[simp] theorem State.placeHead_pending (s : State) (p : PortId) (r : Request) : (s.placeHead p r).pending = s.pending := rfl

@[simp] theorem State.placeHead_ctx (s : State) (p : PortId) (r : Request) (x : Entry) : (s.placeHead p r).ctx x = s.ctx x := rfl

@[simp] theorem State.placeHead_dispatchQueue (s : State) (p : PortId) (r : Request) (x : PortId) : (s.placeHead p r).dispatchQueue x = s.dispatchQueue x := rfl

@[simp] theorem State.placeHead_counters (s : State) (p : PortId) (r : Request) (x : PortId) : (s.placeHead p r).counters x = s.counters x := rfl

@[simp] theorem State.placeHead_causes (s : State) (p : PortId) (r : Request) (x : PortId) : (s.placeHead p r).causes x = s.causes x := rfl

@[simp] theorem State.handQuery_contexts (s : State) (p : PortId) (d : Descriptor) : (s.handQuery p d).contexts = s.contexts := rfl

@[simp] theorem State.handQuery_geometry (s : State) (p : PortId) (d : Descriptor) : (s.handQuery p d).geometry = s.geometry := rfl

@[simp] theorem State.handQuery_pool (s : State) (p : PortId) (d : Descriptor) : (s.handQuery p d).pool = s.pool := rfl

@[simp] theorem State.handQuery_store (s : State) (p : PortId) (d : Descriptor) : (s.handQuery p d).store = s.store := rfl

@[simp] theorem State.handQuery_engine (s : State) (p : PortId) (d : Descriptor) : (s.handQuery p d).engine = s.engine := rfl

@[simp] theorem State.handQuery_dispatcher (s : State) (p : PortId) (d : Descriptor) : (s.handQuery p d).dispatcher = s.dispatcher := rfl

@[simp] theorem State.handQuery_opportunity (s : State) (p : PortId) (d : Descriptor) : (s.handQuery p d).opportunity = s.opportunity := rfl

@[simp] theorem State.handQuery_units (s : State) (p : PortId) (d : Descriptor) : (s.handQuery p d).units = s.units := rfl

@[simp] theorem State.handQuery_expiry (s : State) (p : PortId) (d : Descriptor) : (s.handQuery p d).expiry = s.expiry := rfl

@[simp] theorem State.handQuery_link (s : State) (p : PortId) (d : Descriptor) : (s.handQuery p d).link = s.link := rfl

@[simp] theorem State.handQuery_pending (s : State) (p : PortId) (d : Descriptor) : (s.handQuery p d).pending = s.pending := rfl

@[simp] theorem State.handQuery_ctx (s : State) (p : PortId) (d : Descriptor) (x : Entry) : (s.handQuery p d).ctx x = s.ctx x := rfl

@[simp] theorem State.handQuery_dispatchQueue (s : State) (p : PortId) (d : Descriptor) (x : PortId) : (s.handQuery p d).dispatchQueue x = s.dispatchQueue x := rfl

@[simp] theorem State.handQuery_counters (s : State) (p : PortId) (d : Descriptor) (x : PortId) : (s.handQuery p d).counters x = s.counters x := rfl

@[simp] theorem State.handQuery_causes (s : State) (p : PortId) (d : Descriptor) (x : PortId) : (s.handQuery p d).causes x = s.causes x := rfl

@[simp] theorem State.withdraw_contexts (s : State) (p : PortId) (c : Context) : (s.withdraw p c).contexts = s.contexts := by
  simp only [State.withdraw]; split <;> rfl

@[simp] theorem State.withdraw_geometry (s : State) (p : PortId) (c : Context) : (s.withdraw p c).geometry = s.geometry := by
  simp only [State.withdraw]; split <;> rfl

@[simp] theorem State.withdraw_pool (s : State) (p : PortId) (c : Context) : (s.withdraw p c).pool = s.pool := by
  simp only [State.withdraw]; split <;> rfl

@[simp] theorem State.withdraw_store (s : State) (p : PortId) (c : Context) : (s.withdraw p c).store = s.store := by
  simp only [State.withdraw]; split <;> rfl

@[simp] theorem State.withdraw_engine (s : State) (p : PortId) (c : Context) : (s.withdraw p c).engine = s.engine := by
  simp only [State.withdraw]; split <;> rfl

@[simp] theorem State.withdraw_dispatcher (s : State) (p : PortId) (c : Context) : (s.withdraw p c).dispatcher = s.dispatcher := by
  simp only [State.withdraw]; split <;> rfl

@[simp] theorem State.withdraw_opportunity (s : State) (p : PortId) (c : Context) : (s.withdraw p c).opportunity = s.opportunity := by
  simp only [State.withdraw]; split <;> rfl

@[simp] theorem State.withdraw_units (s : State) (p : PortId) (c : Context) : (s.withdraw p c).units = s.units := by
  simp only [State.withdraw]; split <;> rfl

@[simp] theorem State.withdraw_expiry (s : State) (p : PortId) (c : Context) : (s.withdraw p c).expiry = s.expiry := by
  simp only [State.withdraw]; split <;> rfl

@[simp] theorem State.withdraw_link (s : State) (p : PortId) (c : Context) : (s.withdraw p c).link = s.link := by
  simp only [State.withdraw]; split <;> rfl

@[simp] theorem State.withdraw_pending (s : State) (p : PortId) (c : Context) : (s.withdraw p c).pending = s.pending := by
  simp only [State.withdraw]; split <;> rfl

@[simp] theorem State.withdraw_ctx (s : State) (p : PortId) (c : Context) (x : Entry) : (s.withdraw p c).ctx x = s.ctx x := by
  simp only [State.withdraw]; split <;> rfl

@[simp] theorem State.withdraw_dispatchQueue (s : State) (p : PortId) (c : Context) (x : PortId) : (s.withdraw p c).dispatchQueue x = s.dispatchQueue x := by
  simp only [State.withdraw]; split <;> rfl

@[simp] theorem State.withdraw_counters (s : State) (p : PortId) (c : Context) (x : PortId) : (s.withdraw p c).counters x = s.counters x := by
  simp only [State.withdraw]; split <;> rfl

@[simp] theorem State.withdraw_causes (s : State) (p : PortId) (c : Context) (x : PortId) : (s.withdraw p c).causes x = s.causes x := by
  simp only [State.withdraw]; split <;> rfl

@[simp] theorem State.answerUncombined_contexts (s : State) (p : PortId) (r : Request) (b : AnswerBody) : (s.answerUncombined p r b).contexts = s.contexts := rfl

@[simp] theorem State.answerUncombined_geometry (s : State) (p : PortId) (r : Request) (b : AnswerBody) : (s.answerUncombined p r b).geometry = s.geometry := rfl

@[simp] theorem State.answerUncombined_pool (s : State) (p : PortId) (r : Request) (b : AnswerBody) : (s.answerUncombined p r b).pool = s.pool := rfl

@[simp] theorem State.answerUncombined_store (s : State) (p : PortId) (r : Request) (b : AnswerBody) : (s.answerUncombined p r b).store = s.store := rfl

@[simp] theorem State.answerUncombined_engine (s : State) (p : PortId) (r : Request) (b : AnswerBody) : (s.answerUncombined p r b).engine = s.engine := rfl

@[simp] theorem State.answerUncombined_dispatcher (s : State) (p : PortId) (r : Request) (b : AnswerBody) : (s.answerUncombined p r b).dispatcher = s.dispatcher := rfl

@[simp] theorem State.answerUncombined_opportunity (s : State) (p : PortId) (r : Request) (b : AnswerBody) : (s.answerUncombined p r b).opportunity = s.opportunity := rfl

@[simp] theorem State.answerUncombined_units (s : State) (p : PortId) (r : Request) (b : AnswerBody) : (s.answerUncombined p r b).units = s.units := rfl

@[simp] theorem State.answerUncombined_expiry (s : State) (p : PortId) (r : Request) (b : AnswerBody) : (s.answerUncombined p r b).expiry = s.expiry := rfl

@[simp] theorem State.answerUncombined_link (s : State) (p : PortId) (r : Request) (b : AnswerBody) : (s.answerUncombined p r b).link = s.link := rfl

@[simp] theorem State.answerUncombined_pending (s : State) (p : PortId) (r : Request) (b : AnswerBody) : (s.answerUncombined p r b).pending = s.pending := rfl

@[simp] theorem State.answerUncombined_ctx (s : State) (p : PortId) (r : Request) (b : AnswerBody) (x : Entry) : (s.answerUncombined p r b).ctx x = s.ctx x := rfl

@[simp] theorem State.answerUncombined_dispatchQueue (s : State) (p : PortId) (r : Request) (b : AnswerBody) (x : PortId) : (s.answerUncombined p r b).dispatchQueue x = s.dispatchQueue x := rfl

@[simp] theorem State.answerUncombined_counters (s : State) (p : PortId) (r : Request) (b : AnswerBody) (x : PortId) : (s.answerUncombined p r b).counters x = s.counters x := rfl

@[simp] theorem State.answerUncombined_causes (s : State) (p : PortId) (r : Request) (b : AnswerBody) (x : PortId) : (s.answerUncombined p r b).causes x = s.causes x := rfl

@[simp] theorem State.refuseUncombined_contexts (s : State) (p : PortId) (r : Request) (w : RefusalReason) : (s.refuseUncombined p r w).contexts = s.contexts := rfl

@[simp] theorem State.refuseUncombined_geometry (s : State) (p : PortId) (r : Request) (w : RefusalReason) : (s.refuseUncombined p r w).geometry = s.geometry := rfl

@[simp] theorem State.refuseUncombined_pool (s : State) (p : PortId) (r : Request) (w : RefusalReason) : (s.refuseUncombined p r w).pool = s.pool := rfl

@[simp] theorem State.refuseUncombined_store (s : State) (p : PortId) (r : Request) (w : RefusalReason) : (s.refuseUncombined p r w).store = s.store := rfl

@[simp] theorem State.refuseUncombined_engine (s : State) (p : PortId) (r : Request) (w : RefusalReason) : (s.refuseUncombined p r w).engine = s.engine := rfl

@[simp] theorem State.refuseUncombined_dispatcher (s : State) (p : PortId) (r : Request) (w : RefusalReason) : (s.refuseUncombined p r w).dispatcher = s.dispatcher := rfl

@[simp] theorem State.refuseUncombined_opportunity (s : State) (p : PortId) (r : Request) (w : RefusalReason) : (s.refuseUncombined p r w).opportunity = s.opportunity := rfl

@[simp] theorem State.refuseUncombined_units (s : State) (p : PortId) (r : Request) (w : RefusalReason) : (s.refuseUncombined p r w).units = s.units := rfl

@[simp] theorem State.refuseUncombined_expiry (s : State) (p : PortId) (r : Request) (w : RefusalReason) : (s.refuseUncombined p r w).expiry = s.expiry := rfl

@[simp] theorem State.refuseUncombined_pending (s : State) (p : PortId) (r : Request) (w : RefusalReason) : (s.refuseUncombined p r w).pending = s.pending := rfl

@[simp] theorem State.refuseUncombined_ctx (s : State) (p : PortId) (r : Request) (w : RefusalReason) (x : Entry) : (s.refuseUncombined p r w).ctx x = s.ctx x := rfl

@[simp] theorem State.refuseUncombined_dispatchQueue (s : State) (p : PortId) (r : Request) (w : RefusalReason) (x : PortId) : (s.refuseUncombined p r w).dispatchQueue x = s.dispatchQueue x := rfl

@[simp] theorem State.beginCombine_contexts (s : State) (p : PortId) (e : Entry) (r : Request) (b : Bool) : (s.beginCombine p e r b).contexts = s.contexts := rfl

@[simp] theorem State.beginCombine_geometry (s : State) (p : PortId) (e : Entry) (r : Request) (b : Bool) : (s.beginCombine p e r b).geometry = s.geometry := rfl

@[simp] theorem State.beginCombine_pool (s : State) (p : PortId) (e : Entry) (r : Request) (b : Bool) : (s.beginCombine p e r b).pool = s.pool := rfl

@[simp] theorem State.beginCombine_store (s : State) (p : PortId) (e : Entry) (r : Request) (b : Bool) : (s.beginCombine p e r b).store = s.store := rfl

@[simp] theorem State.beginCombine_dispatcher (s : State) (p : PortId) (e : Entry) (r : Request) (b : Bool) : (s.beginCombine p e r b).dispatcher = s.dispatcher := rfl

@[simp] theorem State.beginCombine_opportunity (s : State) (p : PortId) (e : Entry) (r : Request) (b : Bool) : (s.beginCombine p e r b).opportunity = s.opportunity := rfl

@[simp] theorem State.beginCombine_units (s : State) (p : PortId) (e : Entry) (r : Request) (b : Bool) : (s.beginCombine p e r b).units = s.units := rfl

@[simp] theorem State.beginCombine_expiry (s : State) (p : PortId) (e : Entry) (r : Request) (b : Bool) : (s.beginCombine p e r b).expiry = s.expiry := rfl

@[simp] theorem State.beginCombine_pending (s : State) (p : PortId) (e : Entry) (r : Request) (b : Bool) : (s.beginCombine p e r b).pending = s.pending := rfl

@[simp] theorem State.beginCombine_ctx (s : State) (p : PortId) (e : Entry) (r : Request) (b : Bool) (x : Entry) : (s.beginCombine p e r b).ctx x = s.ctx x := rfl

@[simp] theorem State.beginCombine_dispatchQueue (s : State) (p : PortId) (e : Entry) (r : Request) (b : Bool) (x : PortId) : (s.beginCombine p e r b).dispatchQueue x = s.dispatchQueue x := rfl

@[simp] theorem State.setCombine_contexts (s : State) (c : Option Combine) : (s.setCombine c).contexts = s.contexts := rfl

@[simp] theorem State.setCombine_geometry (s : State) (c : Option Combine) : (s.setCombine c).geometry = s.geometry := rfl

@[simp] theorem State.setCombine_pool (s : State) (c : Option Combine) : (s.setCombine c).pool = s.pool := rfl

@[simp] theorem State.setCombine_store (s : State) (c : Option Combine) : (s.setCombine c).store = s.store := rfl

@[simp] theorem State.setCombine_dispatcher (s : State) (c : Option Combine) : (s.setCombine c).dispatcher = s.dispatcher := rfl

@[simp] theorem State.setCombine_opportunity (s : State) (c : Option Combine) : (s.setCombine c).opportunity = s.opportunity := rfl

@[simp] theorem State.setCombine_units (s : State) (c : Option Combine) : (s.setCombine c).units = s.units := rfl

@[simp] theorem State.setCombine_expiry (s : State) (c : Option Combine) : (s.setCombine c).expiry = s.expiry := rfl

@[simp] theorem State.setCombine_ports (s : State) (c : Option Combine) : (s.setCombine c).ports = s.ports := rfl

@[simp] theorem State.setCombine_link (s : State) (c : Option Combine) : (s.setCombine c).link = s.link := rfl

@[simp] theorem State.setCombine_pending (s : State) (c : Option Combine) : (s.setCombine c).pending = s.pending := rfl

@[simp] theorem State.setCombine_ctx (s : State) (c : Option Combine) (x : Entry) : (s.setCombine c).ctx x = s.ctx x := rfl

@[simp] theorem State.setCombine_port (s : State) (c : Option Combine) (x : PortId) : (s.setCombine c).port x = s.port x := rfl

@[simp] theorem State.setCombine_dispatchQueue (s : State) (c : Option Combine) (x : PortId) : (s.setCombine c).dispatchQueue x = s.dispatchQueue x := rfl

@[simp] theorem State.setCombine_counters (s : State) (c : Option Combine) (x : PortId) : (s.setCombine c).counters x = s.counters x := rfl

@[simp] theorem State.setCombine_causes (s : State) (c : Option Combine) (x : PortId) : (s.setCombine c).causes x = s.causes x := rfl

@[simp] theorem State.endCombine_contexts (s : State) (c : Combine) : (s.endCombine c).contexts = s.contexts := rfl

@[simp] theorem State.endCombine_geometry (s : State) (c : Combine) : (s.endCombine c).geometry = s.geometry := rfl

@[simp] theorem State.endCombine_pool (s : State) (c : Combine) : (s.endCombine c).pool = s.pool := rfl

@[simp] theorem State.endCombine_store (s : State) (c : Combine) : (s.endCombine c).store = s.store := rfl

@[simp] theorem State.endCombine_dispatcher (s : State) (c : Combine) : (s.endCombine c).dispatcher = s.dispatcher := rfl

@[simp] theorem State.endCombine_opportunity (s : State) (c : Combine) : (s.endCombine c).opportunity = s.opportunity := rfl

@[simp] theorem State.endCombine_units (s : State) (c : Combine) : (s.endCombine c).units = s.units := rfl

@[simp] theorem State.endCombine_expiry (s : State) (c : Combine) : (s.endCombine c).expiry = s.expiry := rfl

@[simp] theorem State.endCombine_link (s : State) (c : Combine) : (s.endCombine c).link = s.link := rfl

@[simp] theorem State.endCombine_pending (s : State) (c : Combine) : (s.endCombine c).pending = s.pending := rfl

@[simp] theorem State.endCombine_ctx (s : State) (c : Combine) (x : Entry) : (s.endCombine c).ctx x = s.ctx x := rfl

@[simp] theorem State.endCombine_dispatchQueue (s : State) (c : Combine) (x : PortId) : (s.endCombine c).dispatchQueue x = s.dispatchQueue x := rfl

@[simp] theorem State.endCombine_counters (s : State) (c : Combine) (x : PortId) : (s.endCombine c).counters x = s.counters x := rfl

@[simp] theorem State.endCombine_causes (s : State) (c : Combine) (x : PortId) : (s.endCombine c).causes x = s.causes x := rfl

@[simp] theorem State.answerStored_contexts (s : State) (c : Combine) (v : Context) : (s.answerStored c v).contexts = s.contexts := by
  simp only [State.answerStored]; split <;> rfl

@[simp] theorem State.answerStored_geometry (s : State) (c : Combine) (v : Context) : (s.answerStored c v).geometry = s.geometry := by
  simp only [State.answerStored]; split <;> rfl

@[simp] theorem State.answerStored_pool (s : State) (c : Combine) (v : Context) : (s.answerStored c v).pool = s.pool := by
  simp only [State.answerStored]; split <;> rfl

@[simp] theorem State.answerStored_store (s : State) (c : Combine) (v : Context) : (s.answerStored c v).store = s.store := by
  simp only [State.answerStored]; split <;> rfl

@[simp] theorem State.answerStored_engine (s : State) (c : Combine) (v : Context) : (s.answerStored c v).engine = s.engine := by
  simp only [State.answerStored]; split <;> rfl

@[simp] theorem State.answerStored_dispatcher (s : State) (c : Combine) (v : Context) : (s.answerStored c v).dispatcher = s.dispatcher := by
  simp only [State.answerStored]; split <;> rfl

@[simp] theorem State.answerStored_opportunity (s : State) (c : Combine) (v : Context) : (s.answerStored c v).opportunity = s.opportunity := by
  simp only [State.answerStored]; split <;> rfl

@[simp] theorem State.answerStored_units (s : State) (c : Combine) (v : Context) : (s.answerStored c v).units = s.units := by
  simp only [State.answerStored]; split <;> rfl

@[simp] theorem State.answerStored_expiry (s : State) (c : Combine) (v : Context) : (s.answerStored c v).expiry = s.expiry := by
  simp only [State.answerStored]; split <;> rfl

@[simp] theorem State.answerStored_link (s : State) (c : Combine) (v : Context) : (s.answerStored c v).link = s.link := by
  simp only [State.answerStored]; split <;> rfl

@[simp] theorem State.answerStored_pending (s : State) (c : Combine) (v : Context) : (s.answerStored c v).pending = s.pending := by
  simp only [State.answerStored]; split <;> rfl

@[simp] theorem State.answerStored_ctx (s : State) (c : Combine) (v : Context) (x : Entry) : (s.answerStored c v).ctx x = s.ctx x := by
  simp only [State.answerStored]; split <;> rfl

@[simp] theorem State.answerStored_dispatchQueue (s : State) (c : Combine) (v : Context) (x : PortId) : (s.answerStored c v).dispatchQueue x = s.dispatchQueue x := by
  simp only [State.answerStored]; split <;> rfl

@[simp] theorem State.answerStored_counters (s : State) (c : Combine) (v : Context) (x : PortId) : (s.answerStored c v).counters x = s.counters x := by
  simp only [State.answerStored]; split <;> rfl

@[simp] theorem State.answerStored_causes (s : State) (c : Combine) (v : Context) (x : PortId) : (s.answerStored c v).causes x = s.causes x := by
  simp only [State.answerStored]; split <;> rfl

@[simp] theorem State.answerRelease_contexts (s : State) (v : Context) (st : CtxState) : (s.answerRelease v st).contexts = s.contexts := by
  simp only [State.answerRelease]; split <;> rfl

@[simp] theorem State.answerRelease_geometry (s : State) (v : Context) (st : CtxState) : (s.answerRelease v st).geometry = s.geometry := by
  simp only [State.answerRelease]; split <;> rfl

@[simp] theorem State.answerRelease_pool (s : State) (v : Context) (st : CtxState) : (s.answerRelease v st).pool = s.pool := by
  simp only [State.answerRelease]; split <;> rfl

@[simp] theorem State.answerRelease_store (s : State) (v : Context) (st : CtxState) : (s.answerRelease v st).store = s.store := by
  simp only [State.answerRelease]; split <;> rfl

@[simp] theorem State.answerRelease_engine (s : State) (v : Context) (st : CtxState) : (s.answerRelease v st).engine = s.engine := by
  simp only [State.answerRelease]; split <;> rfl

@[simp] theorem State.answerRelease_dispatcher (s : State) (v : Context) (st : CtxState) : (s.answerRelease v st).dispatcher = s.dispatcher := by
  simp only [State.answerRelease]; split <;> rfl

@[simp] theorem State.answerRelease_opportunity (s : State) (v : Context) (st : CtxState) : (s.answerRelease v st).opportunity = s.opportunity := by
  simp only [State.answerRelease]; split <;> rfl

@[simp] theorem State.answerRelease_units (s : State) (v : Context) (st : CtxState) : (s.answerRelease v st).units = s.units := by
  simp only [State.answerRelease]; split <;> rfl

@[simp] theorem State.answerRelease_expiry (s : State) (v : Context) (st : CtxState) : (s.answerRelease v st).expiry = s.expiry := by
  simp only [State.answerRelease]; split <;> rfl

@[simp] theorem State.answerRelease_link (s : State) (v : Context) (st : CtxState) : (s.answerRelease v st).link = s.link := by
  simp only [State.answerRelease]; split <;> rfl

@[simp] theorem State.answerRelease_pending (s : State) (v : Context) (st : CtxState) : (s.answerRelease v st).pending = s.pending := by
  simp only [State.answerRelease]; split <;> rfl

@[simp] theorem State.answerRelease_ctx (s : State) (v : Context) (st : CtxState) (x : Entry) : (s.answerRelease v st).ctx x = s.ctx x := by
  simp only [State.answerRelease]; split <;> rfl

@[simp] theorem State.answerRelease_dispatchQueue (s : State) (v : Context) (st : CtxState) (x : PortId) : (s.answerRelease v st).dispatchQueue x = s.dispatchQueue x := by
  simp only [State.answerRelease]; split <;> rfl

@[simp] theorem State.answerRelease_counters (s : State) (v : Context) (st : CtxState) (x : PortId) : (s.answerRelease v st).counters x = s.counters x := by
  simp only [State.answerRelease]; split <;> rfl

@[simp] theorem State.answerRelease_causes (s : State) (v : Context) (st : CtxState) (x : PortId) : (s.answerRelease v st).causes x = s.causes x := by
  simp only [State.answerRelease]; split <;> rfl

@[simp] theorem State.answerCombineDamage_contexts (s : State) (c : Combine) (v : Context) : (s.answerCombineDamage c v).contexts = s.contexts := by
  simp only [State.answerCombineDamage]; split <;> rfl

@[simp] theorem State.answerCombineDamage_geometry (s : State) (c : Combine) (v : Context) : (s.answerCombineDamage c v).geometry = s.geometry := by
  simp only [State.answerCombineDamage]; split <;> rfl

@[simp] theorem State.answerCombineDamage_pool (s : State) (c : Combine) (v : Context) : (s.answerCombineDamage c v).pool = s.pool := by
  simp only [State.answerCombineDamage]; split <;> rfl

@[simp] theorem State.answerCombineDamage_store (s : State) (c : Combine) (v : Context) : (s.answerCombineDamage c v).store = s.store := by
  simp only [State.answerCombineDamage]; split <;> rfl

@[simp] theorem State.answerCombineDamage_engine (s : State) (c : Combine) (v : Context) : (s.answerCombineDamage c v).engine = s.engine := by
  simp only [State.answerCombineDamage]; split <;> rfl

@[simp] theorem State.answerCombineDamage_dispatcher (s : State) (c : Combine) (v : Context) : (s.answerCombineDamage c v).dispatcher = s.dispatcher := by
  simp only [State.answerCombineDamage]; split <;> rfl

@[simp] theorem State.answerCombineDamage_opportunity (s : State) (c : Combine) (v : Context) : (s.answerCombineDamage c v).opportunity = s.opportunity := by
  simp only [State.answerCombineDamage]; split <;> rfl

@[simp] theorem State.answerCombineDamage_units (s : State) (c : Combine) (v : Context) : (s.answerCombineDamage c v).units = s.units := by
  simp only [State.answerCombineDamage]; split <;> rfl

@[simp] theorem State.answerCombineDamage_expiry (s : State) (c : Combine) (v : Context) : (s.answerCombineDamage c v).expiry = s.expiry := by
  simp only [State.answerCombineDamage]; split <;> rfl

@[simp] theorem State.answerCombineDamage_link (s : State) (c : Combine) (v : Context) : (s.answerCombineDamage c v).link = s.link := by
  simp only [State.answerCombineDamage]; split <;> rfl

@[simp] theorem State.answerCombineDamage_pending (s : State) (c : Combine) (v : Context) : (s.answerCombineDamage c v).pending = s.pending := by
  simp only [State.answerCombineDamage]; split <;> rfl

@[simp] theorem State.answerCombineDamage_ctx (s : State) (c : Combine) (v : Context) (x : Entry) : (s.answerCombineDamage c v).ctx x = s.ctx x := by
  simp only [State.answerCombineDamage]; split <;> rfl

@[simp] theorem State.answerCombineDamage_dispatchQueue (s : State) (c : Combine) (v : Context) (x : PortId) : (s.answerCombineDamage c v).dispatchQueue x = s.dispatchQueue x := by
  simp only [State.answerCombineDamage]; split <;> rfl

@[simp] theorem State.answerCombineDamage_counters (s : State) (c : Combine) (v : Context) (x : PortId) : (s.answerCombineDamage c v).counters x = s.counters x := by
  simp only [State.answerCombineDamage]; split <;> rfl

@[simp] theorem State.answerCombineDamage_causes (s : State) (c : Combine) (v : Context) (x : PortId) : (s.answerCombineDamage c v).causes x = s.causes x := by
  simp only [State.answerCombineDamage]; split <;> rfl

@[simp] theorem State.leaveCombining_geometry (s : State) (c : Combine) (v : Context) : (s.leaveCombining c v).geometry = s.geometry := by
  simp only [State.leaveCombining]; split <;> simp

@[simp] theorem State.leaveCombining_store (s : State) (c : Combine) (v : Context) : (s.leaveCombining c v).store = s.store := by
  simp only [State.leaveCombining]; split <;> simp

@[simp] theorem State.leaveCombining_engine (s : State) (c : Combine) (v : Context) : (s.leaveCombining c v).engine = s.engine := by
  simp only [State.leaveCombining]; split <;> simp

@[simp] theorem State.leaveCombining_units (s : State) (c : Combine) (v : Context) : (s.leaveCombining c v).units = s.units := by
  simp only [State.leaveCombining]; split <;> simp

@[simp] theorem State.leaveCombining_link (s : State) (c : Combine) (v : Context) : (s.leaveCombining c v).link = s.link := by
  simp only [State.leaveCombining]; split <;> simp

@[simp] theorem State.leaveCombining_pending (s : State) (c : Combine) (v : Context) : (s.leaveCombining c v).pending = s.pending := by
  simp only [State.leaveCombining]; split <;> simp

@[simp] theorem State.leaveCombining_counters (s : State) (c : Combine) (v : Context) (x : PortId) : (s.leaveCombining c v).counters x = s.counters x := by
  simp only [State.leaveCombining]; split <;> simp

@[simp] theorem State.leaveCombining_causes (s : State) (c : Combine) (v : Context) (x : PortId) : (s.leaveCombining c v).causes x = s.causes x := by
  simp only [State.leaveCombining]; split <;> simp

@[simp] theorem State.freeDecode_contexts (s : State) (u : UnitId) (j : Job) (v : OutSlot) : (s.freeDecode u j v).contexts = s.contexts := rfl

@[simp] theorem State.freeDecode_geometry (s : State) (u : UnitId) (j : Job) (v : OutSlot) : (s.freeDecode u j v).geometry = s.geometry := rfl

@[simp] theorem State.freeDecode_pool (s : State) (u : UnitId) (j : Job) (v : OutSlot) : (s.freeDecode u j v).pool = s.pool := rfl

@[simp] theorem State.freeDecode_store (s : State) (u : UnitId) (j : Job) (v : OutSlot) : (s.freeDecode u j v).store = s.store := rfl

@[simp] theorem State.freeDecode_engine (s : State) (u : UnitId) (j : Job) (v : OutSlot) : (s.freeDecode u j v).engine = s.engine := rfl

@[simp] theorem State.freeDecode_opportunity (s : State) (u : UnitId) (j : Job) (v : OutSlot) : (s.freeDecode u j v).opportunity = true := rfl

@[simp] theorem State.freeDecode_dispatcher (s : State) (u : UnitId) (j : Job) (v : OutSlot) : (s.freeDecode u j v).dispatcher = s.dispatcher := rfl

@[simp] theorem State.freeDecode_expiry (s : State) (u : UnitId) (j : Job) (v : OutSlot) : (s.freeDecode u j v).expiry = s.expiry := rfl

@[simp] theorem State.freeDecode_link (s : State) (u : UnitId) (j : Job) (v : OutSlot) : (s.freeDecode u j v).link = s.link := rfl

@[simp] theorem State.freeDecode_pending (s : State) (u : UnitId) (j : Job) (v : OutSlot) : (s.freeDecode u j v).pending = s.pending := rfl

@[simp] theorem State.freeDecode_ctx (s : State) (u : UnitId) (j : Job) (v : OutSlot) (x : Entry) : (s.freeDecode u j v).ctx x = s.ctx x := rfl

@[simp] theorem State.freeDecode_dispatchQueue (s : State) (u : UnitId) (j : Job) (v : OutSlot) (x : PortId) : (s.freeDecode u j v).dispatchQueue x = s.dispatchQueue x := rfl

@[simp] theorem State.freeDecode_counters (s : State) (u : UnitId) (j : Job) (v : OutSlot) (x : PortId) : (s.freeDecode u j v).counters x = s.counters x := rfl

@[simp] theorem State.freeDecode_causes (s : State) (u : UnitId) (j : Job) (v : OutSlot) (x : PortId) : (s.freeDecode u j v).causes x = s.causes x := rfl

@[simp] theorem State.completeAbandoned_geometry (s : State) (u : UnitId) (j : Job) : (s.completeAbandoned u j).geometry = s.geometry := by
  simp only [State.completeAbandoned]; split_ifs <;> simp

@[simp] theorem State.completeAbandoned_store (s : State) (u : UnitId) (j : Job) : (s.completeAbandoned u j).store = s.store := by
  simp only [State.completeAbandoned]; split_ifs <;> simp

@[simp] theorem State.completeAbandoned_engine (s : State) (u : UnitId) (j : Job) : (s.completeAbandoned u j).engine = s.engine := by
  simp only [State.completeAbandoned]; split_ifs <;> simp

@[simp] theorem State.completeAbandoned_dispatcher (s : State) (u : UnitId) (j : Job) : (s.completeAbandoned u j).dispatcher = s.dispatcher := by
  simp only [State.completeAbandoned]; split_ifs <;> simp

@[simp] theorem State.completeAbandoned_pending (s : State) (u : UnitId) (j : Job) : (s.completeAbandoned u j).pending = s.pending := by
  simp only [State.completeAbandoned]; split_ifs <;> simp

@[simp] theorem State.completeAbandoned_dispatchQueue (s : State) (u : UnitId) (j : Job) (x : PortId) : (s.completeAbandoned u j).dispatchQueue x = s.dispatchQueue x := by
  simp only [State.completeAbandoned]; split_ifs <;> simp

@[simp] theorem State.completePass_geometry (s : State) (u : UnitId) (j : Job) (b : List Bool) (m z : Nat) : (s.completePass u j b m z).geometry = s.geometry := by
  simp only [State.completePass]; split_ifs <;> simp

@[simp] theorem State.completePass_store (s : State) (u : UnitId) (j : Job) (b : List Bool) (m z : Nat) : (s.completePass u j b m z).store = s.store := by
  simp only [State.completePass]; split_ifs <;> simp

@[simp] theorem State.completePass_engine (s : State) (u : UnitId) (j : Job) (b : List Bool) (m z : Nat) : (s.completePass u j b m z).engine = s.engine := by
  simp only [State.completePass]; split_ifs <;> simp

@[simp] theorem State.completePass_dispatcher (s : State) (u : UnitId) (j : Job) (b : List Bool) (m z : Nat) : (s.completePass u j b m z).dispatcher = s.dispatcher := by
  simp only [State.completePass]; split_ifs <;> simp

@[simp] theorem State.completePass_pending (s : State) (u : UnitId) (j : Job) (b : List Bool) (m z : Nat) : (s.completePass u j b m z).pending = s.pending := by
  simp only [State.completePass]; split_ifs <;> simp

@[simp] theorem State.completePass_dispatchQueue (s : State) (u : UnitId) (j : Job) (b : List Bool) (m z : Nat) (x : PortId) : (s.completePass u j b m z).dispatchQueue x = s.dispatchQueue x := by
  simp only [State.completePass]; split_ifs <;> simp

@[simp] theorem State.completeFail_geometry (s : State) (u : UnitId) (j : Job) (m z : Nat) : (s.completeFail u j m z).geometry = s.geometry := by
  simp only [State.completeFail]; split_ifs <;> simp

@[simp] theorem State.completeFail_store (s : State) (u : UnitId) (j : Job) (m z : Nat) : (s.completeFail u j m z).store = s.store := by
  simp only [State.completeFail]; split_ifs <;> simp

@[simp] theorem State.completeFail_engine (s : State) (u : UnitId) (j : Job) (m z : Nat) : (s.completeFail u j m z).engine = s.engine := by
  simp only [State.completeFail]; split_ifs <;> simp

@[simp] theorem State.completeFail_dispatcher (s : State) (u : UnitId) (j : Job) (m z : Nat) : (s.completeFail u j m z).dispatcher = s.dispatcher := by
  simp only [State.completeFail]; split_ifs <;> simp

@[simp] theorem State.completeFail_pending (s : State) (u : UnitId) (j : Job) (m z : Nat) : (s.completeFail u j m z).pending = s.pending := by
  simp only [State.completeFail]; split_ifs <;> simp

@[simp] theorem State.completeFail_dispatchQueue (s : State) (u : UnitId) (j : Job) (m z : Nat) (x : PortId) : (s.completeFail u j m z).dispatchQueue x = s.dispatchQueue x := by
  simp only [State.completeFail]; split_ifs <;> simp

@[simp] theorem State.dispatchHead_geometry (s : State) (p : PortId) (e : Entry) (d : PendingDecode) (i : SlotId) (a : Assignment) : (s.dispatchHead p e d i a).geometry = s.geometry := rfl

@[simp] theorem State.dispatchHead_pool (s : State) (p : PortId) (e : Entry) (d : PendingDecode) (i : SlotId) (a : Assignment) : (s.dispatchHead p e d i a).pool = s.pool := rfl

@[simp] theorem State.dispatchHead_store (s : State) (p : PortId) (e : Entry) (d : PendingDecode) (i : SlotId) (a : Assignment) : (s.dispatchHead p e d i a).store = s.store := rfl

@[simp] theorem State.dispatchHead_engine (s : State) (p : PortId) (e : Entry) (d : PendingDecode) (i : SlotId) (a : Assignment) : (s.dispatchHead p e d i a).engine = s.engine := rfl

@[simp] theorem State.dispatchHead_expiry (s : State) (p : PortId) (e : Entry) (d : PendingDecode) (i : SlotId) (a : Assignment) : (s.dispatchHead p e d i a).expiry = s.expiry := rfl

@[simp] theorem State.dispatchHead_link (s : State) (p : PortId) (e : Entry) (d : PendingDecode) (i : SlotId) (a : Assignment) : (s.dispatchHead p e d i a).link = s.link := rfl

@[simp] theorem State.dispatchHead_pending (s : State) (p : PortId) (e : Entry) (d : PendingDecode) (i : SlotId) (a : Assignment) : (s.dispatchHead p e d i a).pending = s.pending := rfl

@[simp] theorem State.dispatchHead_counters (s : State) (p : PortId) (e : Entry) (d : PendingDecode) (i : SlotId) (a : Assignment) (x : PortId) : (s.dispatchHead p e d i a).counters x = s.counters x := rfl

@[simp] theorem State.dispatchHead_causes (s : State) (p : PortId) (e : Entry) (d : PendingDecode) (i : SlotId) (a : Assignment) (x : PortId) : (s.dispatchHead p e d i a).causes x = s.causes x := rfl

@[simp] theorem State.takeSlot_contexts (s : State) (p : PortId) : (s.takeSlot p).contexts = s.contexts := rfl

@[simp] theorem State.takeSlot_geometry (s : State) (p : PortId) : (s.takeSlot p).geometry = s.geometry := rfl

@[simp] theorem State.takeSlot_pool (s : State) (p : PortId) : (s.takeSlot p).pool = s.pool := rfl

@[simp] theorem State.takeSlot_store (s : State) (p : PortId) : (s.takeSlot p).store = s.store := rfl

@[simp] theorem State.takeSlot_dispatcher (s : State) (p : PortId) : (s.takeSlot p).dispatcher = s.dispatcher := rfl

@[simp] theorem State.takeSlot_opportunity (s : State) (p : PortId) : (s.takeSlot p).opportunity = s.opportunity := rfl

@[simp] theorem State.takeSlot_units (s : State) (p : PortId) : (s.takeSlot p).units = s.units := rfl

@[simp] theorem State.takeSlot_expiry (s : State) (p : PortId) : (s.takeSlot p).expiry = s.expiry := rfl

@[simp] theorem State.takeSlot_link (s : State) (p : PortId) : (s.takeSlot p).link = s.link := rfl

@[simp] theorem State.takeSlot_pending (s : State) (p : PortId) : (s.takeSlot p).pending = s.pending := rfl

@[simp] theorem State.takeSlot_ctx (s : State) (p : PortId) (x : Entry) : (s.takeSlot p).ctx x = s.ctx x := rfl

@[simp] theorem State.takeSlot_dispatchQueue (s : State) (p : PortId) (x : PortId) : (s.takeSlot p).dispatchQueue x = s.dispatchQueue x := rfl

@[simp] theorem State.takeSlot_counters (s : State) (p : PortId) (x : PortId) : (s.takeSlot p).counters x = s.counters x := rfl

@[simp] theorem State.takeSlot_causes (s : State) (p : PortId) (x : PortId) : (s.takeSlot p).causes x = s.causes x := rfl

@[simp] theorem State.unitPasses_contexts (s : State) : (s.unitPasses).contexts = s.contexts := by
  simp only [State.unitPasses]; split_ifs <;> rfl

@[simp] theorem State.unitPasses_geometry (s : State) : (s.unitPasses).geometry = s.geometry := by
  simp only [State.unitPasses]; split_ifs <;> rfl

@[simp] theorem State.unitPasses_pool (s : State) : (s.unitPasses).pool = s.pool := by
  simp only [State.unitPasses]; split_ifs <;> rfl

@[simp] theorem State.unitPasses_store (s : State) : (s.unitPasses).store = s.store := by
  simp only [State.unitPasses]; split_ifs <;> rfl

@[simp] theorem State.unitPasses_engine (s : State) : (s.unitPasses).engine = s.engine := by
  simp only [State.unitPasses]; split_ifs <;> rfl

@[simp] theorem State.unitPasses_dispatcher (s : State) : (s.unitPasses).dispatcher = s.dispatcher := by
  simp only [State.unitPasses]; split_ifs <;> rfl

@[simp] theorem State.unitPasses_opportunity (s : State) : (s.unitPasses).opportunity = s.opportunity := by
  simp only [State.unitPasses]; split_ifs <;> rfl

@[simp] theorem State.unitPasses_units (s : State) : (s.unitPasses).units = s.units := by
  simp only [State.unitPasses]; split_ifs <;> rfl

@[simp] theorem State.unitPasses_ports (s : State) : (s.unitPasses).ports = s.ports := by
  simp only [State.unitPasses]; split_ifs <;> rfl

@[simp] theorem State.unitPasses_link (s : State) : (s.unitPasses).link = s.link := by
  simp only [State.unitPasses]; split_ifs <;> rfl

@[simp] theorem State.unitPasses_pending (s : State) : (s.unitPasses).pending = s.pending := by
  simp only [State.unitPasses]; split_ifs <;> rfl

@[simp] theorem State.unitPasses_ctx (s : State) (x : Entry) : (s.unitPasses).ctx x = s.ctx x := by
  simp only [State.unitPasses]; split_ifs <;> rfl

@[simp] theorem State.unitPasses_port (s : State) (x : PortId) : (s.unitPasses).port x = s.port x := by
  simp only [State.unitPasses]; split_ifs <;> rfl

@[simp] theorem State.unitPasses_dispatchQueue (s : State) (x : PortId) : (s.unitPasses).dispatchQueue x = s.dispatchQueue x := by
  simp only [State.unitPasses]; split_ifs <;> rfl

@[simp] theorem State.unitPasses_counters (s : State) (x : PortId) : (s.unitPasses).counters x = s.counters x := by
  simp only [State.unitPasses]; split_ifs <;> rfl

@[simp] theorem State.unitPasses_causes (s : State) (x : PortId) : (s.unitPasses).causes x = s.causes x := by
  simp only [State.unitPasses]; split_ifs <;> rfl

end Sys2Proof.Machine
end

