-- ==== Sys2Proof/Laws/Contexts.lean ====
section
/-! SUPPORT. What each operation that changes a context entry leaves in every entry of the table, and small facts about the lists that name entries. -/

namespace Sys2Proof.Machine

@[simp] theorem State.setPort_setPort (s : State) (p : PortId) (q r : Port) : (s.setPort p q).setPort p r = s.setPort p r := by
  simp [State.setPort]

@[simp] theorem State.setPort_self (s : State) (p : PortId) : s.setPort p (s.port p) = s := by
  simp [State.setPort, State.port, Vector.get_eq_getElem]

@[simp] theorem State.onPort_onPort (s : State) (p : PortId) (f g : Port → Port) :
    (s.onPort p f).onPort p g = s.onPort p fun q => g (f q) := by simp [State.onPort]

/-- A change of one port as a replacement of it. -/
theorem State.onPort_eq (s : State) (p : PortId) (f : Port → Port) : s.onPort p f = s.setPort p (f (s.port p)) := rfl

@[simp] theorem mem_allEntries (e : Entry) : e ∈ allEntries := List.mem_finRange e

@[simp] theorem mem_allPorts (p : PortId) : p ∈ allPorts := by
  revert p; decide

theorem allEntries_nodup : allEntries.Nodup := List.nodup_finRange 256

/-- Two states with the same entries have the same table. -/
theorem State.contexts_ext {s t : State} (h : ∀ e, s.ctx e = t.ctx e) : s.contexts = t.contexts := by
  ext i hi : 1
  simpa [State.ctx, Vector.get_eq_getElem] using h ⟨i, hi⟩

/-- Two states with the same ports have the same port table. -/
theorem State.ports_ext {s t : State} (h : ∀ p, s.port p = t.port p) : s.ports = t.ports := by
  ext i hi : 1
  simpa [State.port, Vector.get_eq_getElem] using h ⟨i, hi⟩

theorem State.freeContext_ctx (s : State) (e d : Entry) :
    (s.freeContext e).ctx d = if e = d then Context.free else s.ctx d := by
  simp [State.freeContext, State.setCtx_ctx]

theorem State.releasePages_ctx (s : State) (e d : Entry) :
    (s.releasePages e).ctx d = if e = d then Context.free else s.ctx d := by
  simp [State.releasePages, State.freeContext_ctx]

theorem State.closeDamaged_ctx (s : State) (e d : Entry) (report : List Page) :
    (s.closeDamaged e report).ctx d = if e = d then Context.free else s.ctx d := by
  simp [State.closeDamaged, State.freeContext_ctx]

theorem State.enterHeld_ctx (s : State) (e d : Entry) :
    (s.enterHeld e).ctx d = if e = d then
      { s.ctx e with
        state := .held, gap := false, units := UnitSet.none,
        deadline := s.deadlineAfter (s.port (s.ctx e).port).profile.holdLifetime } else s.ctx d := by
  simp [State.enterHeld, State.setCtx_ctx]

theorem State.enterSolved_ctx (s : State) (e d : Entry) :
    (s.enterSolved e).ctx d = if e = d then
      { s.ctx e with
        state := .solved, pages := [], gap := false, units := UnitSet.none,
        deadline := s.deadlineAfter (s.port (s.ctx e).port).profile.tombstoneLifetime } else s.ctx d := by
  simp [State.enterSolved, State.setCtx_ctx]

theorem State.endHeld_ctx (s : State) (k : NoticeKind) (e d : Entry) :
    (s.endHeld k e).ctx d = if e = d ∧ (s.ctx e).state = .held then
      (if (s.port (s.ctx e).port).room then Context.free else (s.ctx e).closing k) else s.ctx d := by
  simp only [State.endHeld]
  by_cases h : (s.ctx e).state = .held
  · by_cases h2 : (s.port (s.ctx e).port).room = true
    · simp [h, h2, State.freeContext_ctx]
    · simp [h, h2, State.setCtx_ctx]
  · simp [h]

theorem State.endTombstone_ctx (s : State) (e d : Entry) :
    (s.endTombstone e).ctx d = if e = d ∧ (s.ctx e).state = .solved then Context.free else s.ctx d := by
  simp only [State.endTombstone]
  by_cases h : (s.ctx e).state = .solved
  · simp [h, State.freeContext_ctx]
  · simp [h]

theorem State.endContexts_ctx (s : State) (p : PortId) (k : CtxState → Bool) (e : Entry) :
    (s.endContexts p k).ctx e = if s.inStates p k e then Context.free else s.ctx e := by
  simp [State.endContexts, State.ctx, State.inStates, Vector.get_eq_getElem, State.giveBack, State.setPool,
    State.setExpiryList, State.setExpiry, State.onPort, State.setPort]
  congr 1
  simp only [eq_iff_iff]
  tauto

theorem State.closeDrain_ctx (s : State) (p : PortId) (e : Entry) :
    (s.closeDrain p).ctx e = if s.inStates p endedAtClose e then Context.free else s.ctx e := by
  simp [State.closeDrain, State.endContexts_ctx]

theorem State.settle_ctx (s : State) (p : PortId) (e : Entry) :
    (s.settle p).ctx e =
      if (s.port p).state = .draining ∧ s.quiet p = true ∧ s.inStates p endedAtClose e = true then Context.free
      else s.ctx e := by
  simp only [State.settle]
  split
  · next h => simp [h]
  · next h => simp [h]
  · next h =>
    by_cases hq : s.quiet p = true
    · simp [h, hq, State.closeDrain_ctx]
    · simp [h, hq]
  · next h => split_ifs <;> simp_all

theorem State.startReset_ctx (s : State) (p : PortId) (v : ResetTarget) (e : Entry) :
    (s.startReset p v).ctx e = if s.inStates p endedAtReset e then Context.free else s.ctx e := by
  simp only [State.startReset]
  rw [State.settle_ctx]
  split_ifs <;> simp_all [State.endContexts_ctx, Port.cleared]

theorem State.popAnswer_ctx (s : State) (p : PortId) (e : Entry) :
    (s.popAnswer p).ctx e =
      if (s.port p).closing.head? = some e ∧ (s.ctx e).state = .closing then Context.free else s.ctx e := by
  simp only [State.popAnswer]
  split
  · next h => simp [h]
  · next d rest h =>
    by_cases hc : (s.ctx d).state = .closing
    · simp only [hc, if_true]
      split <;> simp only [State.freeContext_ctx, State.onPort_ctx, State.post_ctx, h, List.head?_cons] <;>
        by_cases hd : d = e <;> simp_all
    · by_cases hd : d = e <;> simp_all

theorem State.dispatchHead_ctx (s : State) (p : PortId) (e x : Entry) (d : PendingDecode) (i : SlotId) (a : Assignment) :
    (s.dispatchHead p e d i a).ctx x =
      if e = x then { s.ctx e with state := .decoding, units := a.unitSet, pendingDecode := none } else s.ctx x := by
  simp [State.dispatchHead, State.setCtx_ctx]

end Sys2Proof.Machine
end

