-- ==== Sys2Proof/Laws/Order.lean ====
section
/-! SUPPORT. One order for updates of different parts of the state: simp moves the opportunity and the port outward and the context inward, so that two ways to build one state come out the same. -/

namespace Sys2Proof.Machine

@[simp] theorem State.setPool_setCtx (s : State) (pl : Pool) (e : Entry) (c : Context) :
    (s.setPool pl).setCtx e c = (s.setCtx e c).setPool pl := rfl
@[simp] theorem State.setStore_setCtx (s : State) (m : List Host.Cell) (e : Entry) (c : Context) :
    (s.setStore m).setCtx e c = (s.setCtx e c).setStore m := rfl
@[simp] theorem State.setStore_setPool (s : State) (m : List Host.Cell) (pl : Pool) :
    (s.setStore m).setPool pl = (s.setPool pl).setStore m := rfl
@[simp] theorem State.setGeometry_setCtx (s : State) (g : List GeometryEntry) (e : Entry) (c : Context) :
    (s.setGeometry g).setCtx e c = (s.setCtx e c).setGeometry g := rfl
@[simp] theorem State.setGeometry_setPool (s : State) (g : List GeometryEntry) (pl : Pool) :
    (s.setGeometry g).setPool pl = (s.setPool pl).setGeometry g := rfl
@[simp] theorem State.setGeometry_setStore (s : State) (g : List GeometryEntry) (m : List Host.Cell) :
    (s.setGeometry g).setStore m = (s.setStore m).setGeometry g := rfl
@[simp] theorem State.setEngine_setCtx (s : State) (en : Engine) (e : Entry) (c : Context) :
    (s.setEngine en).setCtx e c = (s.setCtx e c).setEngine en := rfl
@[simp] theorem State.setEngine_setPool (s : State) (en : Engine) (pl : Pool) :
    (s.setEngine en).setPool pl = (s.setPool pl).setEngine en := rfl
@[simp] theorem State.setEngine_setStore (s : State) (en : Engine) (m : List Host.Cell) :
    (s.setEngine en).setStore m = (s.setStore m).setEngine en := rfl
@[simp] theorem State.setEngine_setGeometry (s : State) (en : Engine) (g : List GeometryEntry) :
    (s.setEngine en).setGeometry g = (s.setGeometry g).setEngine en := rfl
@[simp] theorem State.setDispatcher_setCtx (s : State) (d : Dispatcher) (e : Entry) (c : Context) :
    (s.setDispatcher d).setCtx e c = (s.setCtx e c).setDispatcher d := rfl
@[simp] theorem State.setDispatcher_setPool (s : State) (d : Dispatcher) (pl : Pool) :
    (s.setDispatcher d).setPool pl = (s.setPool pl).setDispatcher d := rfl
@[simp] theorem State.setDispatcher_setStore (s : State) (d : Dispatcher) (m : List Host.Cell) :
    (s.setDispatcher d).setStore m = (s.setStore m).setDispatcher d := rfl
@[simp] theorem State.setDispatcher_setGeometry (s : State) (d : Dispatcher) (g : List GeometryEntry) :
    (s.setDispatcher d).setGeometry g = (s.setGeometry g).setDispatcher d := rfl
@[simp] theorem State.setDispatcher_setEngine (s : State) (d : Dispatcher) (en : Engine) :
    (s.setDispatcher d).setEngine en = (s.setEngine en).setDispatcher d := rfl
@[simp] theorem State.setUnits_setCtx (s : State) (us : Units) (e : Entry) (c : Context) :
    (s.setUnits us).setCtx e c = (s.setCtx e c).setUnits us := rfl
@[simp] theorem State.setUnits_setPool (s : State) (us : Units) (pl : Pool) :
    (s.setUnits us).setPool pl = (s.setPool pl).setUnits us := rfl
@[simp] theorem State.setUnits_setStore (s : State) (us : Units) (m : List Host.Cell) :
    (s.setUnits us).setStore m = (s.setStore m).setUnits us := rfl
@[simp] theorem State.setUnits_setGeometry (s : State) (us : Units) (g : List GeometryEntry) :
    (s.setUnits us).setGeometry g = (s.setGeometry g).setUnits us := rfl
@[simp] theorem State.setUnits_setEngine (s : State) (us : Units) (en : Engine) :
    (s.setUnits us).setEngine en = (s.setEngine en).setUnits us := rfl
@[simp] theorem State.setUnits_setDispatcher (s : State) (us : Units) (d : Dispatcher) :
    (s.setUnits us).setDispatcher d = (s.setDispatcher d).setUnits us := rfl
@[simp] theorem State.setExpiry_setCtx (s : State) (x : ExpiryUnit) (e : Entry) (c : Context) :
    (s.setExpiry x).setCtx e c = (s.setCtx e c).setExpiry x := rfl
@[simp] theorem State.setExpiry_setPool (s : State) (x : ExpiryUnit) (pl : Pool) :
    (s.setExpiry x).setPool pl = (s.setPool pl).setExpiry x := rfl
@[simp] theorem State.setExpiry_setStore (s : State) (x : ExpiryUnit) (m : List Host.Cell) :
    (s.setExpiry x).setStore m = (s.setStore m).setExpiry x := rfl
@[simp] theorem State.setExpiry_setGeometry (s : State) (x : ExpiryUnit) (g : List GeometryEntry) :
    (s.setExpiry x).setGeometry g = (s.setGeometry g).setExpiry x := rfl
@[simp] theorem State.setExpiry_setEngine (s : State) (x : ExpiryUnit) (en : Engine) :
    (s.setExpiry x).setEngine en = (s.setEngine en).setExpiry x := rfl
@[simp] theorem State.setExpiry_setDispatcher (s : State) (x : ExpiryUnit) (d : Dispatcher) :
    (s.setExpiry x).setDispatcher d = (s.setDispatcher d).setExpiry x := rfl
@[simp] theorem State.setExpiry_setUnits (s : State) (x : ExpiryUnit) (us : Units) :
    (s.setExpiry x).setUnits us = (s.setUnits us).setExpiry x := rfl
@[simp] theorem State.setLink_setCtx (s : State) (l : Link) (e : Entry) (c : Context) :
    (s.setLink l).setCtx e c = (s.setCtx e c).setLink l := rfl
@[simp] theorem State.setLink_setPool (s : State) (l : Link) (pl : Pool) :
    (s.setLink l).setPool pl = (s.setPool pl).setLink l := rfl
@[simp] theorem State.setLink_setStore (s : State) (l : Link) (m : List Host.Cell) :
    (s.setLink l).setStore m = (s.setStore m).setLink l := rfl
@[simp] theorem State.setLink_setGeometry (s : State) (l : Link) (g : List GeometryEntry) :
    (s.setLink l).setGeometry g = (s.setGeometry g).setLink l := rfl
@[simp] theorem State.setLink_setEngine (s : State) (l : Link) (en : Engine) :
    (s.setLink l).setEngine en = (s.setEngine en).setLink l := rfl
@[simp] theorem State.setLink_setDispatcher (s : State) (l : Link) (d : Dispatcher) :
    (s.setLink l).setDispatcher d = (s.setDispatcher d).setLink l := rfl
@[simp] theorem State.setLink_setUnits (s : State) (l : Link) (us : Units) :
    (s.setLink l).setUnits us = (s.setUnits us).setLink l := rfl
@[simp] theorem State.setLink_setExpiry (s : State) (l : Link) (x : ExpiryUnit) :
    (s.setLink l).setExpiry x = (s.setExpiry x).setLink l := rfl
@[simp] theorem State.setPort_setCtx (s : State) (p : PortId) (q : Port) (e : Entry) (c : Context) :
    (s.setPort p q).setCtx e c = (s.setCtx e c).setPort p q := rfl
@[simp] theorem State.setPort_setPool (s : State) (p : PortId) (q : Port) (pl : Pool) :
    (s.setPort p q).setPool pl = (s.setPool pl).setPort p q := rfl
@[simp] theorem State.setPort_setStore (s : State) (p : PortId) (q : Port) (m : List Host.Cell) :
    (s.setPort p q).setStore m = (s.setStore m).setPort p q := rfl
@[simp] theorem State.setPort_setGeometry (s : State) (p : PortId) (q : Port) (g : List GeometryEntry) :
    (s.setPort p q).setGeometry g = (s.setGeometry g).setPort p q := rfl
@[simp] theorem State.setPort_setEngine (s : State) (p : PortId) (q : Port) (en : Engine) :
    (s.setPort p q).setEngine en = (s.setEngine en).setPort p q := rfl
@[simp] theorem State.setPort_setDispatcher (s : State) (p : PortId) (q : Port) (d : Dispatcher) :
    (s.setPort p q).setDispatcher d = (s.setDispatcher d).setPort p q := rfl
@[simp] theorem State.setPort_setUnits (s : State) (p : PortId) (q : Port) (us : Units) :
    (s.setPort p q).setUnits us = (s.setUnits us).setPort p q := rfl
@[simp] theorem State.setPort_setExpiry (s : State) (p : PortId) (q : Port) (x : ExpiryUnit) :
    (s.setPort p q).setExpiry x = (s.setExpiry x).setPort p q := rfl
@[simp] theorem State.setPort_setLink (s : State) (p : PortId) (q : Port) (l : Link) :
    (s.setPort p q).setLink l = (s.setLink l).setPort p q := rfl
@[simp] theorem State.setOpportunity_setCtx (s : State) (b : Bool) (e : Entry) (c : Context) :
    (s.setOpportunity b).setCtx e c = (s.setCtx e c).setOpportunity b := rfl
@[simp] theorem State.setOpportunity_setPool (s : State) (b : Bool) (pl : Pool) :
    (s.setOpportunity b).setPool pl = (s.setPool pl).setOpportunity b := rfl
@[simp] theorem State.setOpportunity_setStore (s : State) (b : Bool) (m : List Host.Cell) :
    (s.setOpportunity b).setStore m = (s.setStore m).setOpportunity b := rfl
@[simp] theorem State.setOpportunity_setGeometry (s : State) (b : Bool) (g : List GeometryEntry) :
    (s.setOpportunity b).setGeometry g = (s.setGeometry g).setOpportunity b := rfl
@[simp] theorem State.setOpportunity_setEngine (s : State) (b : Bool) (en : Engine) :
    (s.setOpportunity b).setEngine en = (s.setEngine en).setOpportunity b := rfl
@[simp] theorem State.setOpportunity_setDispatcher (s : State) (b : Bool) (d : Dispatcher) :
    (s.setOpportunity b).setDispatcher d = (s.setDispatcher d).setOpportunity b := rfl
@[simp] theorem State.setOpportunity_setUnits (s : State) (b : Bool) (us : Units) :
    (s.setOpportunity b).setUnits us = (s.setUnits us).setOpportunity b := rfl
@[simp] theorem State.setOpportunity_setExpiry (s : State) (b : Bool) (x : ExpiryUnit) :
    (s.setOpportunity b).setExpiry x = (s.setExpiry x).setOpportunity b := rfl
@[simp] theorem State.setOpportunity_setLink (s : State) (b : Bool) (l : Link) :
    (s.setOpportunity b).setLink l = (s.setLink l).setOpportunity b := rfl
@[simp] theorem State.setOpportunity_setPort (s : State) (b : Bool) (p : PortId) (q : Port) :
    (s.setOpportunity b).setPort p q = (s.setPort p q).setOpportunity b := rfl
@[simp] theorem State.setOpportunity_setCounters (s : State) (b : Bool) (p : PortId) (k : Counters) :
    (s.setOpportunity b).setCounters p k = (s.setCounters p k).setOpportunity b := rfl
@[simp] theorem State.setOpportunity_setCauses (s : State) (b : Bool) (p : PortId) (k : Causes) :
    (s.setOpportunity b).setCauses p k = (s.setCauses p k).setOpportunity b := rfl
@[simp] theorem State.setOpportunity_setOpportunity (s : State) (a b : Bool) : (s.setOpportunity a).setOpportunity b = s.setOpportunity b := rfl
@[simp] theorem State.setPool_setPool (s : State) (pl pl2 : Pool) : (s.setPool pl).setPool pl2 = s.setPool pl2 := rfl
@[simp] theorem State.setStore_setStore (s : State) (m m2 : List Host.Cell) : (s.setStore m).setStore m2 = s.setStore m2 := rfl
@[simp] theorem State.setGeometry_setGeometry (s : State) (g g2 : List GeometryEntry) : (s.setGeometry g).setGeometry g2 = s.setGeometry g2 := rfl
@[simp] theorem State.setEngine_setEngine (s : State) (en en2 : Engine) : (s.setEngine en).setEngine en2 = s.setEngine en2 := rfl
@[simp] theorem State.setDispatcher_setDispatcher (s : State) (d d2 : Dispatcher) : (s.setDispatcher d).setDispatcher d2 = s.setDispatcher d2 := rfl
@[simp] theorem State.setUnits_setUnits (s : State) (us us2 : Units) : (s.setUnits us).setUnits us2 = s.setUnits us2 := rfl
@[simp] theorem State.setExpiry_setExpiry (s : State) (x x2 : ExpiryUnit) : (s.setExpiry x).setExpiry x2 = s.setExpiry x2 := rfl
@[simp] theorem State.setLink_setLink (s : State) (l l2 : Link) : (s.setLink l).setLink l2 = s.setLink l2 := rfl
@[simp] theorem State.setCtx_setCtx (s : State) (e : Entry) (c c2 : Context) :
    (s.setCtx e c).setCtx e c2 = s.setCtx e c2 := by
  simp [State.setCtx]

/-- Two changes of ports that differ, in the order of their numbers or not. -/
theorem State.setPort_comm (s : State) (p r : PortId) (a b : Port) (h : p ≠ r) :
    (s.setPort p a).setPort r b = (s.setPort r b).setPort p a := by
  have : p.val ≠ r.val := fun x => h (Fin.ext x)
  simp [State.setPort, Vector.set_comm _ _ this]

end Sys2Proof.Machine
end

