-- ==== Sys2Proof/Laws/Dispatch.lean ====
section
/-! SUPPORT. What the scans of a dispatch opportunity can do: they stay within the relation Scans, because a dispatch takes an IDLE unit and there are two. -/

namespace Sys2Proof.Machine

/-- The dispatch event, written out. -/
theorem State.dispatchHead_eq (s : State) (p : PortId) (e : Entry) (d : PendingDecode) (slot : SlotId) (a : Assignment) :
    s.dispatchHead p e d slot a = s.dispatched p e d slot a := rfl

/-- How many units are IDLE. -/
def Units.idleCount (us : Units) : Nat := (us.idle .du0).toNat + (us.idle .du1).toNat

theorem Units.idleCount_le (us : Units) : us.idleCount ≤ 2 := by
  unfold Units.idleCount
  cases us.idle .du0 <;> cases us.idle .du1 <;> decide

/-- A dispatch takes at least one IDLE unit. -/
theorem State.dispatchHead_idleCount (s : State) (p : PortId) (e : Entry) (d : PendingDecode) (slot : SlotId)
    (a : Assignment) (h : s.evaluateHead p = .dispatched e d slot a) :
    (s.dispatchHead p e d slot a).units.idleCount < s.units.idleCount := by
  have hu : (s.dispatchHead p e d slot a).units =
      s.units.assign a (Job.dispatched e (s.ctx e) d (s.port p).profile.damping slot a.isPair) := rfl
  rw [hu]
  simp only [State.evaluateHead] at h
  split at h
  · split at h
    · split at h
      · split at h
        · cases h
        · next u hf =>
          cases h
          revert hf
          cases hs : s.units with
          | paired j => intro hf; cases hf
          | apart x y => cases x <;> cases y <;> intro hf <;> cases hf <;> exact Nat.lt_of_sub_eq_succ rfl
      · split at h
        · next hb =>
          cases h
          revert hb
          cases hs : s.units with
          | paired j => intro hb; cases hb
          | apart x y => cases x <;> cases y <;> intro hb <;> first | exact Nat.lt_of_sub_eq_succ rfl | cases hb
        · cases h
    · cases h
  · cases h

/-- The four ports in scan order are all ports. -/
theorem portAfter_onto (pointer p : PortId) : ∃ i : Fin 4, portAfter pointer i = p := by
  revert pointer p; decide

theorem scanOrder_getElem? (pointer : PortId) (k : Fin 4) : (scanOrder pointer)[k.val]? = some (portAfter pointer k) := by
  revert pointer k; decide

/-- What one scan does: it passes over every head, or stops at the first that is not passed over. -/
theorem State.scanQueues_split (s : State) (ps : List PortId) :
    ((∀ p ∈ ps, s.evaluateHead p = .passedOver) ∧ State.scanQueues ps s = (s, false)) ∨
    ∃ pre p post, ps = pre ++ p :: post ∧ (∀ r ∈ pre, s.evaluateHead r = .passedOver) ∧
      ((s.evaluateHead p = .pairWait ∧
          State.scanQueues ps s = (s.setDispatcher { s.dispatcher with mode := .pairWait p }, false)) ∨
        ∃ e d slot a, s.evaluateHead p = .dispatched e d slot a ∧
          State.scanQueues ps s = (s.dispatched p e d slot a, true)) := by
  induction ps with
  | nil => exact Or.inl ⟨fun p hp => (nomatch hp), rfl⟩
  | cons p ps ih =>
    rw [State.scanQueues]
    cases hv : s.evaluateHead p with
    | passedOver =>
      rcases ih with ⟨ha, hs⟩ | ⟨pre, r, post, hl, hp, hr⟩
      · exact Or.inl ⟨List.forall_mem_cons.2 ⟨hv, ha⟩, hs⟩
      · exact Or.inr ⟨p :: pre, r, post, by rw [hl]; rfl, List.forall_mem_cons.2 ⟨hv, hp⟩, hr⟩
    | pairWait => exact Or.inr ⟨[], p, ps, rfl, fun r hr => (nomatch hr), Or.inl ⟨hv, rfl⟩⟩
    | dispatched e d slot a =>
      exact Or.inr ⟨[], p, ps, rfl, fun r hr => (nomatch hr), Or.inr ⟨e, d, slot, a, hv, rfl⟩⟩

/-- The same from the pointer, with ports counted as the scan reaches them. -/
theorem State.scanQueues_spec (s : State) :
    ((∀ p, s.evaluateHead p = .passedOver) ∧ State.scanQueues (scanOrder s.dispatcher.pointer) s = (s, false)) ∨
    ∃ i : Fin 4, (∀ k, k < i → s.evaluateHead (portAfter s.dispatcher.pointer k) = .passedOver) ∧
      ((s.evaluateHead (portAfter s.dispatcher.pointer i) = .pairWait ∧
          State.scanQueues (scanOrder s.dispatcher.pointer) s =
            (s.setDispatcher { s.dispatcher with mode := .pairWait (portAfter s.dispatcher.pointer i) }, false)) ∨
        ∃ e d slot a, s.evaluateHead (portAfter s.dispatcher.pointer i) = .dispatched e d slot a ∧
          State.scanQueues (scanOrder s.dispatcher.pointer) s =
            (s.dispatched (portAfter s.dispatcher.pointer i) e d slot a, true)) := by
  have at_ := scanOrder_getElem? s.dispatcher.pointer
  rcases s.scanQueues_split (scanOrder s.dispatcher.pointer) with ⟨ha, hs⟩ | ⟨pre, p, post, hl, hp, hr⟩
  · refine Or.inl ⟨fun p => ?_, hs⟩
    obtain ⟨i, rfl⟩ := portAfter_onto s.dispatcher.pointer p
    exact ha _ (List.mem_of_getElem? (at_ i))
  · have hlen : pre.length < 4 := by
      have := congrArg List.length hl
      simp only [scanOrder, List.length_cons, List.length_nil, List.length_append] at this
      omega
    have hi := at_ ⟨pre.length, hlen⟩
    rw [hl, List.getElem?_append_right (Nat.le_refl _), Nat.sub_self] at hi
    cases hi
    refine Or.inr ⟨⟨pre.length, hlen⟩, fun k hk => hp _ ?_, hr⟩
    have hk' := at_ k
    rw [hl, List.getElem?_append_left hk] at hk'
    exact List.mem_of_getElem? hk'

/-- The scans of an opportunity run to an end of the relation when there is fuel for one scan more than IDLE units. -/
theorem State.scanOn_scans (fuel : Nat) (s : State) (h : s.units.idleCount < fuel) : Scans s (s.scanOn fuel) := by
  induction fuel generalizing s with
  | zero => exact absurd h (Nat.not_lt_zero _)
  | succ n ih =>
    rw [State.scanOn]
    rcases s.scanQueues_spec with ⟨ha, hs⟩ | ⟨i, hk, ⟨hv, hs⟩ | ⟨e, d, slot, a, hv, hs⟩⟩
    · rw [hs]; exact Scans.passes s ha
    · rw [hs]; exact Scans.waits s i hk hv
    · rw [hs]
      have := s.dispatchHead_idleCount _ e d slot a hv
      rw [State.dispatchHead_eq] at this
      exact Scans.goesOn s _ i e d slot a hk hv (ih _ (by omega))

/-- One opportunity's scans are a run of the relation. -/
theorem State.scanOn_scansAtMost (s : State) : Scans s (s.scanOn scansAtMost) :=
  s.scanOn_scans scansAtMost (Nat.lt_of_le_of_lt s.units.idleCount_le (by decide))

/-- A run of scans from a state has one end. -/
theorem Scans.unique {s t u : State} (h : Scans s t) (g : Scans s u) : t = u := by
  induction h generalizing u with
  | passes s ha =>
    cases g with
    | passes _ _ => rfl
    | waits _ i _ hv => rw [ha] at hv; cases hv
    | goesOn _ _ i e d slot a _ hv _ => rw [ha] at hv; cases hv
  | waits s i hk hv =>
    cases g with
    | passes _ ha => rw [ha] at hv; cases hv
    | waits _ j hj gv =>
      have : i = j := by
        rcases lt_trichotomy i j with h | h | h
        · rw [hj i h] at hv; cases hv
        · exact h
        · rw [hk j h] at gv; cases gv
      rw [this]
    | goesOn _ _ j e d slot a hj gv _ =>
      exfalso
      rcases lt_trichotomy i j with h | h | h
      · rw [hj i h] at hv; cases hv
      · rw [h, gv] at hv; cases hv
      · rw [hk j h] at gv; cases gv
  | goesOn s t i e d slot a hk hv _ ih =>
    cases g with
    | passes _ ha => rw [ha] at hv; cases hv
    | waits _ j hj gv =>
      exfalso
      rcases lt_trichotomy i j with h | h | h
      · rw [hj i h] at hv; cases hv
      · rw [h, gv] at hv; cases hv
      · rw [hk j h] at gv; cases gv
    | goesOn _ _ j e' d' slot' a' hj gv gs =>
      have : i = j := by
        rcases lt_trichotomy i j with h | h | h
        · rw [hj i h] at hv; cases hv
        · exact h
        · rw [hk j h] at gv; cases gv
      subst this
      rw [hv] at gv
      cases gv
      exact ih gs

end Sys2Proof.Machine
end

