-- ==== Sys2Proof/Laws/Memory.lean ====
section
/-! SUPPORT. The soft store: every write keeps the one canonical form, and what a read gives after a write. -/

namespace Sys2Proof.Machine

/-- The listed cells of a range lie in it, rise strictly and differ from the default. -/
theorem Memory.cells_mem (bs : List Byte) : ∀ (a : Nat) (x : Host.Cell), x ∈ Memory.cells a bs →
    a ≤ x.1 ∧ x.1 < a + bs.length ∧ x.2 ≠ Config.storeDefault := by
  induction bs with
  | nil => intro a x h; simp [Memory.cells] at h
  | cons b bs ih =>
    intro a x h
    simp only [Memory.cells] at h
    split at h
    · obtain ⟨h1, h2, h3⟩ := ih (a + 1) x h
      simp only [List.length_cons]
      exact ⟨by omega, by omega, h3⟩
    · rcases List.mem_cons.1 h with rfl | h
      · simp only [List.length_cons]
        exact ⟨Nat.le_refl _, by omega, by assumption⟩
      · obtain ⟨h1, h2, h3⟩ := ih (a + 1) x h
        simp only [List.length_cons]
        exact ⟨by omega, by omega, h3⟩

theorem Memory.cells_rising (bs : List Byte) : ∀ a : Nat, (Memory.cells a bs).Pairwise (fun x y => x.1 < y.1) := by
  induction bs with
  | nil => intro a; simp [Memory.cells]
  | cons b bs ih =>
    intro a
    simp only [Memory.cells]
    split
    · exact ih (a + 1)
    · refine List.pairwise_cons.2 ⟨fun x h => ?_, ih (a + 1)⟩
      have := Memory.cells_mem bs (a + 1) x h
      omega

/-- Every write inside the store keeps the canonical form. -/
theorem Memory.writeRange_wf (m : List Host.Cell) (a : Nat) (bs : List Byte) (h : Memory.wf m)
    (fit : a + bs.length ≤ storeCells) : Memory.wf (Memory.writeRange m a bs) := by
  obtain ⟨h1, h2⟩ := h
  refine ⟨?_, ?_⟩
  · simp only [Memory.writeRange, List.pairwise_append]
    refine ⟨⟨h1.filter _, Memory.cells_rising bs a, ?_⟩, h1.filter _, ?_⟩
    · intro x hx y hy
      have := (List.mem_filter.1 hx).2
      have := Memory.cells_mem bs a y hy
      simp at *; omega
    · intro x hx y hy
      have hy := (List.mem_filter.1 hy).2
      rcases List.mem_append.1 hx with hx | hx
      · have := (List.mem_filter.1 hx).2
        simp at *; omega
      · have := Memory.cells_mem bs a x hx
        simp at *; omega
  · intro x hx
    simp only [Memory.writeRange, List.mem_append, List.mem_filter] at hx
    rcases hx with (⟨hx, -⟩ | hx) | ⟨hx, -⟩
    · exact h2 x hx
    · have := Memory.cells_mem bs a x hx
      exact ⟨by omega, this.2.2⟩
    · exact h2 x hx

/-- A cell that no entry lists reads as the default. -/
theorem Memory.read_unlisted (m : List Host.Cell) (k : Nat) (h : ∀ x ∈ m, x.1 ≠ k) :
    Memory.read m k = Config.storeDefault := by
  induction m with
  | nil => rfl
  | cons x m ih =>
    obtain ⟨a, b⟩ := x
    have ha := h (a, b) (List.mem_cons_self ..)
    simp only [Memory.read, if_neg ha]
    exact ih fun y hy => h y (List.mem_cons_of_mem _ hy)

theorem Memory.read_append_left (m n : List Host.Cell) (k : Nat) (h : ∀ x ∈ n, x.1 ≠ k) :
    Memory.read (m ++ n) k = Memory.read m k := by
  induction m with
  | nil => simpa [Memory.read] using Memory.read_unlisted n k h
  | cons x m ih => obtain ⟨a, b⟩ := x; simp only [List.cons_append, Memory.read, ih]

theorem Memory.read_append_right (m n : List Host.Cell) (k : Nat) (h : ∀ x ∈ m, x.1 ≠ k) :
    Memory.read (m ++ n) k = Memory.read n k := by
  induction m with
  | nil => rfl
  | cons x m ih =>
    obtain ⟨a, b⟩ := x
    have ha := h (a, b) (List.mem_cons_self ..)
    simp only [List.cons_append, Memory.read, if_neg ha]
    exact ih fun y hy => h y (List.mem_cons_of_mem _ hy)

theorem Memory.read_filter (m : List Host.Cell) (k : Nat) (p : Host.Cell → Bool)
    (h : ∀ x : Host.Cell, x.1 = k → p x = true) : Memory.read (m.filter p) k = Memory.read m k := by
  induction m with
  | nil => rfl
  | cons x m ih =>
    obtain ⟨a, b⟩ := x
    by_cases hp : p (a, b) = true
    · simp only [List.filter_cons_of_pos hp, Memory.read, ih]
    · have ha : a ≠ k := fun e => hp (h (a, b) e)
      simp only [List.filter_cons_of_neg hp, Memory.read, if_neg ha, ih]

theorem Memory.read_cells (bs : List Byte) : ∀ (a k : Nat), a ≤ k → k < a + bs.length →
    Memory.read (Memory.cells a bs) k = bs.getD (k - a) Config.storeDefault := by
  induction bs with
  | nil => intro a k h1 h2; simp at h2; omega
  | cons b bs ih =>
    intro a k h1 h2
    simp only [Memory.cells]
    by_cases hk : a = k
    · subst hk
      split
      · rename_i hb
        rw [Memory.read_unlisted]
        · simp [hb]
        · intro x hx
          have := Memory.cells_mem bs (a + 1) x hx
          omega
      · simp [Memory.read]
    · have e : k - a = (k - (a + 1)) + 1 := by omega
      have := ih (a + 1) k (by omega) (by simp only [List.length_cons] at h2; omega)
      split
      · rw [this, e, List.getD_cons_succ]
      · rw [Memory.read, if_neg hk, this, e, List.getD_cons_succ]

/-- A read inside a written range gives the written value. -/
theorem Memory.read_written (m : List Host.Cell) (a k : Nat) (bs : List Byte) (h1 : a ≤ k) (h2 : k < a + bs.length) :
    Memory.read (Memory.writeRange m a bs) k = bs.getD (k - a) Config.storeDefault := by
  simp only [Memory.writeRange]
  rw [Memory.read_append_left, Memory.read_append_right, Memory.read_cells bs a k h1 h2]
  · intro x hx
    have := (List.mem_filter.1 hx).2
    simp at this; omega
  · intro x hx
    have := (List.mem_filter.1 hx).2
    simp at this; omega

/-- A read outside a written range gives what it gave before. -/
theorem Memory.read_unwritten (m : List Host.Cell) (a k : Nat) (bs : List Byte) (h : k < a ∨ a + bs.length ≤ k) :
    Memory.read (Memory.writeRange m a bs) k = Memory.read m k := by
  have hc : ∀ x ∈ Memory.cells a bs, x.1 ≠ k := by
    intro x hx
    have := Memory.cells_mem bs a x hx
    omega
  simp only [Memory.writeRange]
  rcases h with h | h
  · rw [Memory.read_append_left, Memory.read_append_left _ _ _ hc, Memory.read_filter]
    · intro x hx; simp; omega
    · intro x hx
      have := (List.mem_filter.1 hx).2
      simp at this; omega
  · rw [List.append_assoc, Memory.read_append_right, Memory.read_append_right _ _ _ hc, Memory.read_filter]
    · intro x hx; simp; omega
    · intro x hx
      have := (List.mem_filter.1 hx).2
      simp at this; omega

/-- The store after reset is in the canonical form. -/
theorem State.reset_store_wf : Memory.wf State.reset.store := by
  refine ⟨List.Pairwise.nil, ?_⟩
  intro x hx
  simp [State.reset] at hx

/-- A whole page lies inside the store. -/
theorem pageBase_fits (pg : Page) : pageBase pg + Config.pageValues ≤ storeCells := by
  have := pg.isLt
  simp only [pageBase, storeCells, Config.pageValues, Config.physicalPages]
  omega

/-- Clearing a page keeps the canonical form. -/
theorem State.clearPage_wf (s : State) (pg : Page) (h : Memory.wf s.store) : Memory.wf (s.clearPage pg).store := by
  simp only [State.clearPage, State.setStore_store]
  exact Memory.writeRange_wf _ _ _ h (by simpa using pageBase_fits pg)

/-- A visit inside one page keeps the canonical form. -/
theorem Memory.addVisit_wf (m : List Host.Cell) (pg : Page) (v : Visit) (staged : List Byte) (h : Memory.wf m)
    (fit : v.position % Config.pageValues + v.length ≤ Config.pageValues) :
    Memory.wf (Memory.addVisit m pg v staged) := by
  refine Memory.writeRange_wf _ _ _ h ?_
  have := pageBase_fits pg
  simp only [List.length_zipWith, Memory.readRange, List.length_map, List.length_range]
  omega

end Sys2Proof.Machine
end

