-- ==== Sys2Proof/Laws/PerInstr.lean ====
section
/-! SUPPORT. One fact per command: by which door it reaches the device. -/

namespace Sys2Proof.Laws

/-- The commands that no bus access and no frame spells: events inside the device, and power or RST_N. -/
def isEvent : Instr → Bool
  | .submit _ _ => false
  | .softData _ _ => false
  | .returnSlot _ _ => false
  | .selfReset _ _ => false
  | .answer _ _ => false
  | .status _ _ _ => false
  | .unmappedWrite _ _ => false
  | .intakeTry _ => true
  | .combineSelection => true
  | .clearPageEnd => true
  | .combinePageReadEnd _ => true
  | .visitWriteEnd => true
  | .combineCompletion => true
  | .combineDamage => true
  | .combineAbort => true
  | .dispatch => true
  | .decodePageReadEnd _ _ => true
  | .halfIterationEnd _ => true
  | .iterationEnd _ => true
  | .decodeDamage _ => true
  | .tick => true
  | .expiryHeld => true
  | .expiryTombstone => true
  | .statusRead _ => false
  | .profileWrite _ => false
  | .profileRead _ => false
  | .geometryWrite _ => false
  | .geometryRead _ => false
  | .geometryDelete _ => false
  | .portEnable _ => false
  | .portDisable _ => false
  | .portReset _ => false
  | .deviceReset _ => false
  | .timebaseWrite _ => false
  | .poolRead _ => false
  | .contextRead _ => false
  | .countersRead _ => false
  | .countersClear _ => false
  | .clockRead _ => false
  | .frameRefused _ _ => false
  | .powerOnReset => true

/-- A well-formed command reaches the device by exactly one door: a client port access (spec/11 R203), a management frame (spec/10 R186), or an event of the device itself (spec/95). -/
def Door.Statement (i : Instr) : Prop :=
  i.wf = true → (busAccess i).isSome.toNat + (frameBits i).isSome.toNat + (isEvent i).toNat = 1

theorem Door.submit (p : PortId) (w : WriteBurst) : Door.Statement (.submit p w) := fun _ => rfl

theorem Door.softData (p : PortId) (w : WriteBurst) : Door.Statement (.softData p w) := fun _ => rfl

theorem Door.returnSlot (p : PortId) (w : WriteBurst) : Door.Statement (.returnSlot p w) := fun _ => rfl

theorem Door.selfReset (p : PortId) (w : WriteBurst) : Door.Statement (.selfReset p w) := fun _ => rfl

theorem Door.answer (p : PortId) (beats : List Lanes) : Door.Statement (.answer p beats) := by
  intro h
  cases beats with
  | nil => simp [Instr.wf] at h
  | cons => rfl

theorem Door.status (p : PortId) (lanes : Lanes) (later : List ReadBeat) : Door.Statement (.status p lanes later) := fun _ => rfl

theorem Door.unmappedWrite (p : PortId) (a : OtherAccess) : Door.Statement (.unmappedWrite p a) := by
  intro h
  cases a with
  | write => rfl
  | read beats =>
    cases beats with
    | nil => simp [Instr.wf, OtherAccess.wf] at h
    | cons => rfl

theorem Door.intakeTry (p : PortId) : Door.Statement (.intakeTry p) := fun _ => rfl

theorem Door.combineSelection : Door.Statement .combineSelection := fun _ => rfl

theorem Door.clearPageEnd : Door.Statement .clearPageEnd := fun _ => rfl

theorem Door.combinePageReadEnd (passed : Bool) : Door.Statement (.combinePageReadEnd passed) := fun _ => rfl

theorem Door.visitWriteEnd : Door.Statement .visitWriteEnd := fun _ => rfl

theorem Door.combineCompletion : Door.Statement .combineCompletion := fun _ => rfl

theorem Door.combineDamage : Door.Statement .combineDamage := fun _ => rfl

theorem Door.combineAbort : Door.Statement .combineAbort := fun _ => rfl

theorem Door.dispatch : Door.Statement .dispatch := fun _ => rfl

theorem Door.decodePageReadEnd (u : UnitId) (passed : Bool) : Door.Statement (.decodePageReadEnd u passed) := fun _ => rfl

theorem Door.halfIterationEnd (u : UnitId) : Door.Statement (.halfIterationEnd u) := fun _ => rfl

theorem Door.iterationEnd (u : UnitId) : Door.Statement (.iterationEnd u) := fun _ => rfl

theorem Door.decodeDamage (u : UnitId) : Door.Statement (.decodeDamage u) := fun _ => rfl

theorem Door.tick : Door.Statement .tick := fun _ => rfl

theorem Door.expiryHeld : Door.Statement .expiryHeld := fun _ => rfl

theorem Door.expiryTombstone : Door.Statement .expiryTombstone := fun _ => rfl

theorem Door.statusRead (f : Frame) : Door.Statement (.statusRead f) := fun _ => rfl

theorem Door.profileWrite (f : Frame) : Door.Statement (.profileWrite f) := fun _ => rfl

theorem Door.profileRead (f : Frame) : Door.Statement (.profileRead f) := fun _ => rfl

theorem Door.geometryWrite (f : Frame) : Door.Statement (.geometryWrite f) := fun _ => rfl

theorem Door.geometryRead (f : Frame) : Door.Statement (.geometryRead f) := fun _ => rfl

theorem Door.geometryDelete (f : Frame) : Door.Statement (.geometryDelete f) := fun _ => rfl

theorem Door.portEnable (f : Frame) : Door.Statement (.portEnable f) := fun _ => rfl

theorem Door.portDisable (f : Frame) : Door.Statement (.portDisable f) := fun _ => rfl

theorem Door.portReset (f : Frame) : Door.Statement (.portReset f) := fun _ => rfl

theorem Door.deviceReset (f : Frame) : Door.Statement (.deviceReset f) := fun _ => rfl

theorem Door.timebaseWrite (f : Frame) : Door.Statement (.timebaseWrite f) := fun _ => rfl

theorem Door.poolRead (f : Frame) : Door.Statement (.poolRead f) := fun _ => rfl

theorem Door.contextRead (f : Frame) : Door.Statement (.contextRead f) := fun _ => rfl

theorem Door.countersRead (f : Frame) : Door.Statement (.countersRead f) := fun _ => rfl

theorem Door.countersClear (f : Frame) : Door.Statement (.countersClear f) := fun _ => rfl

theorem Door.clockRead (f : Frame) : Door.Statement (.clockRead f) := fun _ => rfl

theorem Door.frameRefused (code : Option Byte) (f : Frame) : Door.Statement (.frameRefused code f) := by
  intro _
  cases code <;> rfl

theorem Door.powerOnReset : Door.Statement .powerOnReset := fun _ => rfl

end Sys2Proof.Laws
end

