-- ==== Sys2Proof/Laws/Trellis.lean ====
section
/-! SUPPORT. What the functions of a pass compute: the largest of a list, the metrics of a boundary, and the runs of forward metrics, backward metrics and extrinsic values over consecutive steps. -/

namespace Sys2Proof.Machine

/-- The largest of a list with something in it is its largest member. -/
theorem largest_isLargest (l : List Int) (h : l ≠ []) : IsLargest (· ∈ l) (largest l) := by
  obtain ⟨x, xs, rfl⟩ := List.exists_cons_of_ne_nil h
  show IsLargest _ (xs.foldl max x)
  clear h
  induction xs generalizing x with
  | nil => exact ⟨List.mem_cons_self, fun y hy => (List.mem_singleton.1 hy).le⟩
  | cons y ys ih =>
    obtain ⟨mem, above⟩ := ih (max x y)
    have hm : max x y ≤ ys.foldl max (max x y) := above _ List.mem_cons_self
    refine ⟨?_, fun z hz => ?_⟩
    · rw [List.foldl_cons]
      rcases List.mem_cons.1 mem with h | h
      · rw [h]
        rcases max_choice x y with h | h
        · rw [h]; exact List.mem_cons_self
        · rw [h]; exact List.mem_cons_of_mem _ List.mem_cons_self
      · exact List.mem_cons_of_mem _ (List.mem_cons_of_mem _ h)
    · rcases List.mem_cons.1 hz with h | hz
      · exact h ▸ (le_max_left x y).trans hm
      · rcases List.mem_cons.1 hz with h | hz
        · exact h ▸ (le_max_right x y).trans hm
        · exact above _ (List.mem_cons_of_mem _ hz)

theorem IsLargest.congr {P Q : Int → Prop} {x : Int} (h : IsLargest P x) (hpq : ∀ y, P y ↔ Q y) : IsLargest Q x :=
  ⟨(hpq x).1 h.1, fun y hy => h.2 y ((hpq y).2 hy)⟩

/-- Normalising the largest sums of the 16 states gives the metrics of the boundary. -/
theorem normalise_boundaryMetrics (sums : Nat → Int → Prop) (raw : Nat → Int)
    (h : ∀ σ, σ < 16 → IsLargest (sums σ) (raw σ)) : BoundaryMetrics sums (normalise ((List.range 16).map raw)) := by
  refine ⟨by simp [normalise], raw, largest ((List.range 16).map raw), h, ?_, fun σ hs => ?_⟩
  · refine (largest_isLargest _ (by simp)).congr fun y => ?_
    simp only [List.mem_map, List.mem_range, eq_comm]
  · rw [List.getD_eq_getElem?_getD]
    simp [normalise, hs, metricFloor]

/-- forwards gives the forward metrics at the start of each step, and at the end of the last. -/
theorem forwards_run (vs : List StepValues) (m : List Int) :
    ∃ fw, ForwardRun vs m fw ∧ (forwards vs m).1.length = vs.length ∧
      (∀ t, t < vs.length → (forwards vs m).1[t]? = some (fw t)) ∧ (forwards vs m).2 = fw vs.length := by
  induction vs generalizing m with
  | nil => exact ⟨fun _ => m, ⟨rfl, fun _ _ h => nomatch h⟩, rfl, fun _ h => absurd h (Nat.not_lt_zero _), rfl⟩
  | cons v vs ih =>
    obtain ⟨fw, ⟨h0, h1⟩, hl, h2, h3⟩ := ih (forwardStep m v)
    refine ⟨fun | 0 => m | t + 1 => fw t, ⟨rfl, ?_⟩, by simp [forwards, hl], ?_, by simp [forwards, h3]⟩
    · rintro (_ | t) w ht
      · cases ht; exact h0
      · exact h1 t w ht
    · rintro (_ | t) ht
      · rfl
      · exact h2 t (Nat.lt_of_succ_lt_succ ht)

/-- backwards gives the backward metrics at the end of each step, and at the start of the first. -/
theorem backwards_run (bs : List Branch) (vs : List StepValues) (m : List Int) :
    ∃ bw, BackwardRun bs vs m bw ∧ (backwards bs vs m).2.length = vs.length ∧
      (∀ t, t < vs.length → (backwards bs vs m).2[t]? = some (bw (t + 1))) ∧ (backwards bs vs m).1 = bw 0 := by
  induction vs with
  | nil => exact ⟨fun _ => m, ⟨rfl, fun _ _ h => nomatch h⟩, rfl, fun _ h => absurd h (Nat.not_lt_zero _), rfl⟩
  | cons v vs ih =>
    obtain ⟨bw, ⟨h0, h1⟩, hl, h2, h3⟩ := ih
    refine ⟨fun | 0 => backwardStep bs v (bw 0) | t + 1 => bw t, ⟨h0, ?_⟩, by simp [backwards, hl], ?_,
      by simp [backwards, h3]⟩
    · rintro (_ | t) w ht
      · cases ht; rfl
      · exact h1 t w ht
    · rintro (_ | t) ht
      · exact congrArg some h3
      · exact h2 t (Nat.lt_of_succ_lt_succ ht)

/-- extrinsics gives the extrinsic value of each step from the metrics at its start and at its end. -/
theorem extrinsics_run (vs : List StepValues) (a b : List (List Int)) (fw bw : Nat → List Int)
    (ha : a.length = vs.length) (hb : b.length = vs.length) (hf : ∀ t, t < vs.length → a[t]? = some (fw t))
    (hw : ∀ t, t < vs.length → b[t]? = some (bw (t + 1))) : ExtrinsicRun vs fw bw (extrinsics vs a b) := by
  induction vs generalizing a b fw bw with
  | nil => exact ⟨rfl, fun _ _ h => nomatch h⟩
  | cons v vs ih =>
    match a, b, ha, hb with
    | x :: a, y :: b, ha, hb =>
      obtain ⟨hl, he⟩ := ih a b (fun t => fw (t + 1)) (fun t => bw (t + 1)) (Nat.succ.inj ha) (Nat.succ.inj hb)
        (fun t ht => hf (t + 1) (Nat.succ_lt_succ ht)) (fun t ht => hw (t + 1) (Nat.succ_lt_succ ht))
      refine ⟨congrArg Nat.succ hl, ?_⟩
      rintro (_ | t) w ht
      · have hx := hf 0 (Nat.succ_pos _)
        have hy := hw 0 (Nat.succ_pos _)
        cases ht; cases hx; cases hy
        rfl
      · exact he t w ht

end Sys2Proof.Machine
end

