-- ==== Sys2Proof/Tests/Slice0.lean ====
section
/-! SUPPORT. The writer's own tests: ill-formed terms that the checks refuse, frames and accesses written out from the spec's tables, one small step per command, and for every statement with hypotheses a state and operands that meet them. -/

namespace Sys2Proof.Tests

set_option Elab.async false

open Sys2Proof.Machine

/-! ### Ill-formed terms -/

/-- A burst without a beat. -/
theorem test_burst_without_beats_refused : Instr.wf (.submit 0 ⟨0, 0xFF, 0⟩) = false := by decide

/-- Eight bits after the last complete byte would be a byte. -/
theorem test_eight_spare_bits_refused : Instr.wf (.statusRead ⟨[], List.replicate 8 true⟩) = false := by decide

/-- A read of ANSWER without a beat. -/
theorem test_answer_without_beats_refused : Instr.wf (.answer 0 []) = false := by decide

/-- Another access begins at no register of its direction, and has a beat. -/
theorem test_other_access_refused :
    Instr.wf (.unmappedWrite 0 (.write 0x0020 ⟨1, 0xFF, 0⟩)) = false ∧ Instr.wf (.unmappedWrite 0 (.read [])) = false ∧
      Instr.wf (.unmappedWrite 0 (.read [⟨0x0010, 0xFF⟩])) = false ∧
      Instr.wf (.unmappedWrite 0 (.write 0x0010 ⟨0, 0xFF, 0⟩)) = false ∧
      Instr.wf (.unmappedWrite 0 (.write 0x0010 ⟨1, 0xFF, 0⟩)) = true := by decide

/-- A refused frame has no byte at all, or a code that names no command. -/
theorem test_refused_frame_refused :
    Instr.wf (.frameRefused none ⟨[0], []⟩) = false ∧ Instr.wf (.frameRefused (some 0x01) ⟨[], []⟩) = false ∧
      Instr.wf (.frameRefused (some 0x07) ⟨[], []⟩) = true := by decide

/-! ### Frames and accesses written out (spec/11 Tables 11-1 and 11-9) -/

/-- The bits of a byte sequence given in binary. -/
def bits (l : List Nat) : List Bool := l.map (· == 1)

theorem test_frame_status_read : frameCommand (bits [0,0,0,0,0,0,0,1]) = .statusRead ⟨[], []⟩ := by decide

theorem test_frame_profile_read :
    frameCommand (bits [0,0,0,0,0,0,1,1, 0,0,0,0,0,0,1,0]) = .profileRead ⟨[2], []⟩ := by decide

theorem test_frame_geometry_delete :
    frameCommand (bits [0,0,0,0,0,1,1,0, 0,0,1,0,0,0,0,0, 0,0,0,0,0,0,0,0]) = .geometryDelete ⟨[0x20, 0x00], []⟩ := by
  decide

theorem test_frame_port_commands :
    frameCommand (bits [0,0,0,0,1,0,0,0, 0,0,0,0,0,0,1,1]) = .portEnable ⟨[3], []⟩ ∧
      frameCommand (bits [0,0,0,0,1,0,0,1, 0,0,0,0,0,0,1,1]) = .portDisable ⟨[3], []⟩ ∧
      frameCommand (bits [0,0,0,0,1,0,1,0, 0,0,0,0,0,0,1,1]) = .portReset ⟨[3], []⟩ ∧
      frameCommand (bits [0,0,0,0,1,1,1,1]) = .deviceReset ⟨[], []⟩ := by decide

theorem test_frame_timebase_write :
    frameCommand (bits [0,0,0,1,0,0,0,0, 0,0,0,0,1,1,1,1, 1,0,1,0,0,0,0,0, 1]) =
      .timebaseWrite ⟨[0x0F, 0xA0], [true]⟩ := by decide

theorem test_frame_reads :
    frameCommand (bits [0,0,0,1,0,0,0,1]) = .poolRead ⟨[], []⟩ ∧
      frameCommand (bits [0,0,0,1,0,0,1,0, 1,1,1,1,1,1,1,1]) = .contextRead ⟨[0xFF], []⟩ ∧
      frameCommand (bits [0,0,0,1,0,0,1,1, 0,0,0,0,0,0,0,1]) = .countersRead ⟨[1], []⟩ ∧
      frameCommand (bits [0,0,0,1,0,1,0,0, 0,0,0,0,0,0,0,1]) = .countersClear ⟨[1], []⟩ ∧
      frameCommand (bits [0,0,0,1,0,1,0,1]) = .clockRead ⟨[], []⟩ := by decide

theorem test_frame_writes :
    frameCommand (bits [0,0,0,0,0,0,1,0]) = .profileWrite ⟨[], []⟩ ∧
      frameCommand (bits [0,0,0,0,0,1,0,0]) = .geometryWrite ⟨[], []⟩ ∧
      frameCommand (bits [0,0,0,0,0,1,0,1, 0,1,1,1,1,1,1,1]) = .geometryRead ⟨[0x7F], []⟩ := by decide

theorem test_frame_refused :
    frameCommand (bits [0,0,0,0,0,1,1,1, 0,0,0,0,0,0,0,1]) = .frameRefused (some 0x07) ⟨[1], []⟩ ∧
      frameCommand (bits [1,0,1]) = .frameRefused none ⟨[], [true, false, true]⟩ := by decide

theorem test_bus_accesses (w : WriteBurst) :
    busCommand 1 (.write 0x0000 w) = .submit 1 w ∧ busCommand 1 (.write 0x0008 w) = .softData 1 w ∧
      busCommand 1 (.write 0x0020 w) = .returnSlot 1 w ∧ busCommand 1 (.write 0x0030 w) = .selfReset 1 w ∧
      busCommand 1 (.write 0x0010 w) = .unmappedWrite 1 (.write 0x0010 w) ∧
      busCommand 1 (.read ⟨0x0010, 0xFF⟩ [⟨0x0018, 0x0F⟩]) = .answer 1 [0xFF, 0x0F] ∧
      busCommand 1 (.read ⟨0x0028, 0xFF⟩ []) = .status 1 0xFF [] ∧
      busCommand 1 (.read ⟨0x4000, 0xFF⟩ []) = .unmappedWrite 1 (.read [⟨0x4000, 0xFF⟩]) := by
  refine ⟨?_, ?_, ?_, ?_, ?_, ?_, ?_, ?_⟩ <;> rfl

/-! ### Small states -/

/-- A valid profile. -/
def prof : Profile :=
  { reserve := 10, cap := 100, maxContexts := 4, maxAttempts := 4, iterationCap := 8, holdLifetime := 500,
    tombstoneLifetime := 50, evictionPolicy := .evictOwn, damping := List.replicate 12 24 }

/-- An ACTIVE port with nothing in it. -/
def idlePort : Port := { Port.offWith prof ⟨none, []⟩ with state := .active }

/-- The device after reset with one port replaced and one block size known. -/
def at0 (q : Port) : State := { (State.reset.setPort 0 q) with geometry := [⟨64, 1, 0⟩] }

theorem at0_port (q : Port) : (at0 q).port 0 = q := by
  show (State.reset.setPort 0 q).port 0 = q
  simp

theorem at0_ctx (q : Port) (e : Entry) : (at0 q).ctx e = Context.free := by
  unfold at0 State.ctx
  simp [State.setPort, State.reset, Vector.get_eq_getElem]

/-- A port-0 state with one context in entry 0. -/
def at0c (q : Port) (c : Context) : State := (at0 q).setCtx 0 c

theorem at0c_port (q : Port) (c : Context) : (at0c q c).port 0 = q := by
  rw [at0c, State.setCtx_port, at0_port]

theorem at0c_ctx (q : Port) (c : Context) : (at0c q c).ctx 0 = c := by
  rw [at0c, State.setCtx_ctx, if_pos rfl]

theorem at0c_ctx_other (q : Port) (c : Context) (e : Entry) (h : e ≠ 0) : (at0c q c).ctx e = Context.free := by
  rw [at0c, State.setCtx_ctx, if_neg (Ne.symm h), at0_ctx]

/-- A key that no context has is unknown. -/
theorem lookup_none (s : State) (p : PortId) (tag : Tag) (h : ∀ e, (s.ctx e).state = .free ∨ (s.ctx e).port ≠ p) :
    s.lookup p tag = none := by
  rw [State.lookup, List.find?_eq_none]
  intro e _ hf
  simp only [Bool.and_eq_true, bne_iff_ne, beq_iff_eq] at hf
  rcases h e with h | h
  · exact hf.1.1 h
  · exact h hf.1.2

theorem at0_lookup (q : Port) (p : PortId) (tag : Tag) : (at0 q).lookup p tag = none :=
  lookup_none _ _ _ fun e => Or.inl (by rw [at0_ctx]; rfl)

/-- A context of port 0 with block size 64 and page 0. -/
def aContext (st : CtxState) : Context :=
  { Context.free with
    state := st, tag := 5, K := 64, L := 208, pageCount := 1, permA := 1, pages := [0], lastAttempt := 1,
    combinedCount := 1 }

/-- A valid ATTEMPT of eight values. -/
def anAttempt : Descriptor :=
  { kind := .attempt, tag := 5, cookie := 9, checksumPresent := false, K := 64, attempt := 2, action := 1, start := 204,
    count := 8, iterationLimit := 2, stopMode := 3 }

/-- The same attempt in a combine request slot. -/
def aRequest : Request :=
  { tag := 5, K := 64, attempt := 2, start := 204, count := 8, checksumPresent := false, action := .decode,
    iterationLimit := 2, stopMode := .agree, cookie := 9, buffer := .s0, valuesReceived := 8 }

/-- A combine of that attempt, all its reads ahead of it. -/
def aCombine : Combine :=
  { port := 0, entry := 0, cookie := 9, action := .decode, buffer := .s0, start := 204, count := 8, phase := .adding,
    clearIndex := 0, valueIndex := 0, abortRequested := false, openReads := [], readsEnded := 0, damaged := [],
    atBoundary := false }

/-- A decode of block size 64 on a unit. -/
def aJob : Job :=
  { port := 0, entry := 0, K := 64, L := 208, permA := 1, permB := 0, pages := [0], cookie := 9, iterationLimit := 2,
    stopMode := .agree, checksumPresent := false, damping := List.replicate 12 24, slot := 0, h := 0,
    extrinsic := List.replicate 64 0, previous := none, stopping := false, reads := ⟨1, []⟩, readsPartner := ⟨0, []⟩,
    damaged := [], pairMetrics1 := PairMetrics.start, pairMetrics2 := PairMetrics.start }

/-- A full single-beat write. -/
def full (d : Word64) : WriteBurst := ⟨1, 0xFF, d⟩

/-- What a test looks at after one step. -/
def after {α : Type} (i : Instr) (s : State) (view : State → α) : Option α :=
  match exec i s with
  | .next t => some (view t)
  | .fault _ => none
  | .refused _ => none

/-! ### One step of each command -/

theorem test_submit_word :
    after (.submit 0 (full 7)) (at0 { idlePort with assembly := [1, 2] }) (fun t => (t.port 0).assembly) =
      some [1, 2, 7] := by decide +kernel

theorem test_submit_seals_the_filling_buffer :
    after (.submit 0 (full 0)) (at0 { idlePort with assembly := [1, 2, 0] })
        (fun t => ((t.port 0).queue.map (·.buffer), (t.port 0).buf0.state, (t.port 0).buf1.state)) =
      some ([some .s0], .sealed, .filling) := by decide +kernel

theorem test_soft_data :
    after (.softData 0 (full 0x8877665544332211)) (at0 idlePort) (fun t => (t.port 0).buf0.values) =
      some [0x11, 0x22, 0x33, 0x44, 0x55, 0x66, 0x77, 0x88] := by decide +kernel

theorem test_return_slot :
    after (.returnSlot 0 (full 3)) (at0 (idlePort.setOutSlot 3 (.held [1])))
        (fun t => ((t.port 0).outSlot 3, t.opportunity)) =
      some (.free, true) := by decide +kernel

theorem test_self_reset_of_another_value_is_ignored :
    after (.selfReset 0 (full 2)) (at0 { idlePort with queue := [⟨anAttempt, none, 0, false⟩] })
        (fun t => ((t.port 0).state, (t.port 0).queue.length)) =
      some (.active, 1) := by decide +kernel

theorem test_answer_pops :
    after (.answer 0 [0xFF, 0xFF, 0xFF, 0xFF]) (at0 { idlePort with answers := [⟨0xABC, 0x01020304, .stored true 2⟩] })
        (fun t => ((t.port 0).answers, (t.port 0).bus.data)) =
      some ([], [0x010203040ABC0101, 2, 0, 0]) := by decide +kernel

theorem test_answer_peeks :
    after (.answer 0 [0xFF, 0x01]) (at0 { idlePort with answers := [⟨0xABC, 0x01020304, .stored true 2⟩] })
        (fun t => ((t.port 0).answers.length, (t.port 0).bus.data)) =
      some (1, [0x010203040ABC0101, 2]) := by decide +kernel

theorem test_status :
    after (.status 0 0xFF []) (at0 { idlePort with submitDropped := true, reservations := 3 })
        (fun t => ((t.port 0).submitDropped, (t.port 0).bus.data)) =
      some (false, [1 + 2 ^ 4 + 2 ^ 14 + 3 * 2 ^ 41]) := by decide +kernel

theorem test_slot_window_read :
    after (.unmappedWrite 0 (.read [⟨0x4408, 0xFF⟩, ⟨0x5000, 0xFF⟩]))
        (at0 (idlePort.setOutSlot 1 (.held [0, 0, 0, 0, 0, 0, 0, 0, 0x21, 0x43]))) (fun t => (t.port 0).bus.data) =
      some [0x4321, 0] := by decide +kernel

/-- The key names a HELD context, so the slot is READY. -/
theorem test_intake_places_an_attempt :
    after (.intakeTry 0)
        (at0c { idlePort with
          queue := [⟨anAttempt, some .s0, 8, false⟩], buf0 := ⟨.sealed, List.replicate 8 1, false⟩ } (aContext .held))
        (fun t => ((t.port 0).slot, (t.port 0).reservations, (t.port 0).queue)) =
      some (.ready aRequest, 1, []) := by decide +kernel

theorem test_intake_refuses_an_unknown_size :
    after (.intakeTry 0) (at0 { idlePort with queue := [⟨{ anAttempt with K := 72 }, none, 0, false⟩] })
        (fun t => ((t.port 0).answers, (t.counters 0).refusals)) =
      some ([⟨5, 9, .refused .badSize⟩], 1) := by decide +kernel

theorem test_selection_continues_a_held_context :
    after .combineSelection
        { at0c { idlePort with
            slot := .ready aRequest, reservations := 1, buf0 := ⟨.sealed, List.replicate 8 1, false⟩ } (aContext .held) with
          expiry := ⟨0, 4, 4, 0, [0]⟩ }
        (fun t => ((t.ctx 0).state, (t.ctx 0).lastAttempt, t.expiry.list, t.engine.combine.map (·.openReads))) =
      some (.combining, 2, [], some [0]) := by decide +kernel

theorem test_clear_page_end :
    after .clearPageEnd
        { (at0 idlePort).setCtx 0 (aContext .combining) with
          store := [(0, 1), (511, 2), (512, 3)], engine := ⟨0, some { aCombine with phase := .clearing }⟩ }
        (fun t => (t.store, t.engine.combine.map fun c => (c.phase, c.openReads))) =
      some ([(512, 3)], some (.adding, [0])) := by decide +kernel

theorem test_combine_page_read_end :
    after (.combinePageReadEnd false)
        { (at0 idlePort).setCtx 0 (aContext .combining) with engine := ⟨0, some { aCombine with openReads := [0] }⟩ }
        (fun t => t.engine.combine.map fun c => (c.openReads, c.readsEnded, c.damaged)) =
      some (some ([], 1, [0])) := by decide +kernel

/-- The attempt wraps at position 208: its first visit covers positions 204 to 207. -/
theorem test_visit_write_end :
    after .visitWriteEnd
        { (at0 { idlePort with buf0 := ⟨.combining, [100, 0x80, 0, 1, 5, 5, 5, 5], false⟩ }).setCtx 0
            (aContext .combining) with
          store := [(204, 100), (205, 0xFF)], engine := ⟨0, some { aCombine with readsEnded := 1 }⟩ }
        (fun t => (t.store, t.engine.combine.map fun c => (c.valueIndex, c.openReads))) =
      some ([(204, 127), (205, 0x81), (207, 1)], some (4, [0])) := by decide +kernel

theorem test_combine_completion :
    after .combineCompletion
        { (at0 idlePort).setCtx 0 { aContext .combining with pendingDecode := some ⟨9, 2, .agree, false⟩ } with
          engine := ⟨0, some { aCombine with valueIndex := 8, readsEnded := 2 }⟩ }
        (fun t => ((t.ctx 0).state, t.dispatchQueue 0, t.engine.combine, t.opportunity)) =
      some (.queued, [0], none, true) := by decide +kernel

theorem test_combine_damage :
    after .combineDamage
        { (at0 { idlePort with reservations := 1 }).setCtx 0
            { aContext .combining with pendingDecode := some ⟨9, 2, .agree, false⟩ } with
          engine := ⟨0, some { aCombine with damaged := [0], readsEnded := 1 }⟩ }
        (fun t => ((t.ctx 0).state, t.pool.retiredList, (t.port 0).answers, (t.port 0).reservations)) =
      some (.free, [0], [⟨5, 9, .damaged⟩], 0) := by decide +kernel

theorem test_combine_abort :
    after .combineAbort
        { (at0 { idlePort with buf0 := ⟨.combining, [1], false⟩ }).setCtx 0 (aContext .combining) with
          engine := ⟨0, some { aCombine with abortRequested := true, atBoundary := true }⟩ }
        (fun t => ((t.ctx 0).state, (t.port 0).buf0, t.engine.combine)) =
      some (.free, Buffer.filling, none) := by decide +kernel

/-- Entries 0 and 1 are QUEUED contexts of ports 0 and 1 with block sizes, each the only one of its queue, and an opportunity is outstanding. -/
def twoQueued (K0 K1 : Nat) (mode : DispatchMode) : State :=
  { (((at0 idlePort).setPort 1 idlePort).setCtx 0
        { aContext .queued with K := K0, pendingDecode := some ⟨9, 2, .agree, false⟩ }).setCtx 1
      { aContext .queued with port := 1, K := K1, pendingDecode := some ⟨9, 2, .agree, false⟩ } with
    dispatcher := ⟨mode, 0, ((Vector.replicate 4 []).set 0 [0]).set 1 [1]⟩, opportunity := true }

/-- One opportunity starts two decodes, one on each unit. -/
theorem test_dispatch_of_two_heads :
    after .dispatch (twoQueued 64 64 .normal)
        (fun t => ((t.ctx 0).units, (t.ctx 1).units, (t.port 0).outSlot 0, t.dispatcher.pointer, t.opportunity)) =
      some (⟨true, false⟩, ⟨false, true⟩, .reserved, 2, false) := by decide +kernel

/-- The held head of port 0 is dispatched on the pair, and the scan that follows enters PAIR_WAIT for port 1. -/
theorem test_dispatch_of_the_held_head :
    after .dispatch (twoQueued 4104 4104 (.pairWait 0))
        (fun t => ((t.ctx 0).units, (t.ctx 1).state, t.dispatcher.mode, t.dispatcher.pointer, t.opportunity)) =
      some (⟨true, true⟩, .queued, .pairWait 1, 1, false) := by decide +kernel

theorem test_decode_page_read_end :
    after (.decodePageReadEnd .du0 true)
        { at0 idlePort with units := .apart (some { aJob with reads := ⟨0, [0]⟩ }) none }
        (fun t => (t.units.job .du0).map (·.reads)) =
      some (some ⟨1, []⟩) := by decide +kernel

theorem test_half_iteration_end_of_a_stopping_decode :
    after (.halfIterationEnd .du0)
        { (at0 { idlePort with reservations := 1 }).setCtx 0 { aContext .decoding with units := ⟨true, false⟩ } with
          units := .apart (some { aJob with stopping := true }) none }
        (fun t => ((t.ctx 0).state, (t.port 0).answers, t.units)) =
      some (.free, [⟨5, 9, .decoded .abandoned 0 false false 0 0 0 0⟩], .apart none none) := by decide +kernel

theorem test_iteration_end_of_a_stopping_decode :
    after (.iterationEnd .du0)
        { (at0 { idlePort with reservations := 1 }).setCtx 0 { aContext .decoding with units := ⟨true, false⟩ } with
          units := .apart (some { aJob with stopping := true, h := 3 }) none }
        (fun t => (t.port 0).answers) =
      some [⟨5, 9, .decoded .abandoned 2 false false 0 0 0 0⟩] := by decide +kernel

theorem test_decode_damage :
    after (.decodeDamage .du0)
        { (at0 { idlePort with reservations := 1 }).setCtx 0 { aContext .decoding with units := ⟨true, false⟩ } with
          units := .apart (some { aJob with damaged := [0, 0] }) none }
        (fun t => ((t.port 0).answers, t.pool.retiredList, t.pool.spareList.length)) =
      some ([⟨5, 9, .damaged⟩], [0], 63) := by decide +kernel

theorem test_tick_wraps_the_clock :
    after .tick { State.reset with expiry := ⟨0xFFFFFFFF, 40, 4, 3, []⟩ } (·.expiry) = some ⟨0, 40, 40, 0, []⟩ := by
  decide +kernel

theorem test_expiry_held :
    after .expiryHeld { (at0 idlePort).setCtx 0 (aContext .held) with expiry := ⟨0, 4, 4, 0, [0]⟩ }
        (fun t => ((t.ctx 0).state, (t.port 0).answers, (t.counters 0).expiries)) =
      some (.free, [⟨5, 0, .notice .expired 1⟩], 1) := by decide +kernel

theorem test_expiry_tombstone :
    after .expiryTombstone { (at0 idlePort).setCtx 0 { aContext .solved with pages := [] } with expiry := ⟨0, 4, 4, 0, [0]⟩ }
        (fun t => ((t.ctx 0).state, t.expiry.list, (t.counters 0).expiries)) =
      some (.free, [], 0) := by decide +kernel

theorem test_status_read :
    after (.statusRead ⟨[], []⟩) (at0 { idlePort with state := .resetting .off }) (fun t => t.link.reply.take 7) =
      some [0x01, 0x00, 0x00, 0x07, 0, 0, 0] := by decide +kernel

theorem test_profile_write_and_read :
    after (.profileWrite ⟨0 :: [0x00, 0x0A, 0x00, 0x64, 4, 4, 8, 0x01, 0xF4, 0x00, 0x32, 0x01] ++ List.replicate 12 24, []⟩)
        State.reset (fun t => (t.port 0).profile) = some prof ∧
      after (.profileRead ⟨[0], []⟩) (at0 idlePort) (fun t => t.link.reply.take 27) =
        some (0x03 :: 0x00 :: 0 :: [0x00, 0x0A, 0x00, 0x64, 4, 4, 8, 0x01, 0xF4, 0x00, 0x32, 0x01] ++
          List.replicate 12 24) := by decide +kernel

theorem test_geometry_commands :
    after (.geometryWrite ⟨[0x02, 0x00, 0x00, 0x03, 0x00, 0x07], []⟩) (at0 idlePort) (·.geometry) =
        some [⟨64, 1, 0⟩, ⟨512, 3, 7⟩] ∧
      after (.geometryRead ⟨[0], []⟩) (at0 idlePort) (fun t => t.link.reply.take 9) =
        some [0x05, 0x00, 1, 0, 64, 0, 1, 0, 0] ∧
      after (.geometryDelete ⟨[0x00, 0x40], []⟩) (at0 idlePort) (·.geometry) = some [] := by decide +kernel

theorem test_port_enable :
    after (.portEnable ⟨[0], []⟩) (at0 { idlePort with state := .off }) (fun t => (t.port 0).state) = some .active ∧
      after (.portEnable ⟨[0], []⟩) State.reset (·.link.lastResult) = some .badProfile := by decide +kernel

theorem test_port_disable :
    after (.portDisable ⟨[0], []⟩)
        (at0 { idlePort with assembly := [1], queue := [⟨anAttempt, none, 0, false⟩] })
        (fun t => ((t.port 0).state, (t.port 0).assembly, (t.port 0).submitDropped)) =
      some (.draining, [], true) := by decide +kernel

theorem test_port_reset_with_a_combine :
    after (.portReset ⟨[0], []⟩)
        { (at0 idlePort).setCtx 0 (aContext .combining) with engine := ⟨0, some aCombine⟩ }
        (fun t => t.engine.combine.map (·.abortRequested)) =
      some (some true) := by decide +kernel

theorem test_device_reset :
    after (.deviceReset ⟨[], []⟩) (at0 idlePort) (fun t => ((t.port 0).state, (t.port 0).profile, t.geometry.length)) =
      some (.off, prof, 1) := by decide +kernel

theorem test_timebase_write :
    after (.timebaseWrite ⟨[0x0F, 0xA0], []⟩) State.reset (fun t => (t.expiry.timebase, t.expiry.period)) =
        some (4000, 4) ∧
      after (.timebaseWrite ⟨[0x0F, 0xA1], []⟩) State.reset (fun t => (t.expiry.timebase, t.link.lastResult)) =
        some (4, .badProfile) := by decide +kernel

theorem test_pool_read :
    after (.poolRead ⟨[], []⟩) State.reset (fun t => t.link.reply.take 17) =
      some [0x11, 0x00, 0x08, 0x00, 0, 0, 0, 0, 0, 0, 0, 0, 64, 0, 0, 0, 0] := by decide +kernel

theorem test_context_read :
    after (.contextRead ⟨[0], []⟩) ((at0 idlePort).setCtx 0 (aContext .held)) (fun t => t.link.reply.take 18) =
      some [0x12, 0x00, 0, 0x04, 0, 0, 5, 0, 64, 0, 208, 1, 0, 1, 0, 0, 1, 1] := by decide +kernel

theorem test_counters :
    after (.countersRead ⟨[2], []⟩) (State.reset.countPass 2) (fun t => t.link.reply.take 11) =
        some [0x13, 0x00, 2, 0, 0, 0, 0, 0, 0, 0, 1] ∧
      after (.countersClear ⟨[2], []⟩) (State.reset.countPass 2) (fun t => t.counters 2) =
        some Counters.zero := by decide +kernel

theorem test_clock_read :
    after (.clockRead ⟨[], []⟩) { State.reset with expiry := ⟨0x01020304, 40, 4, 3, []⟩ } (fun t => t.link.reply.take 8) =
      some [0x15, 0x00, 1, 2, 3, 4, 0, 40] := by decide +kernel

theorem test_frame_refused_result :
    after (.frameRefused (some 0x07) ⟨[], []⟩) State.reset (fun t => t.link.reply.take 2) = some [0x07, 0x01] ∧
      after (.frameRefused none ⟨[], [true]⟩) State.reset (fun t => t.link.reply.take 2) = some [0x00, 0x02] := by
  decide +kernel

theorem test_power_on_reset :
    after .powerOnReset { at0 idlePort with pending := [.tick] } (fun t => ((t.port 0).state, t.pending)) =
      some (.off, [.tick]) := by decide +kernel

/-! ### A state that keeps every law, with a HELD context -/

/-- Port 0 ACTIVE, one HELD context of it with page 0 and a deadline. -/
def good : State :=
  { (((at0 idlePort).setCtx 0 { aContext .held with deadline := 10 })) with
    pool := { Pool.powerOn with freeList := Pool.powerOn.freeList.drop 1, usage := (Vector.replicate 4 0).set 0 1 }
    expiry := ⟨0, 4, 4, 0, [0]⟩ }

theorem good_ctx (e : Entry) : good.ctx e = if e = 0 then { aContext .held with deadline := 10 } else Context.free := by
  have h : good.ctx e = (at0c idlePort { aContext .held with deadline := 10 }).ctx e := by
    unfold good at0c State.ctx
    rfl
  rw [h]
  split
  · next h0 => rw [h0, at0c_ctx]
  · next h0 => rw [at0c_ctx_other _ _ _ h0]

theorem good_port (p : PortId) :
    good.port p = if p = 0 then idlePort else Port.offWith Profile.default ⟨none, []⟩ := by
  revert p; decide +kernel

theorem sum_of_one (f : Entry → Nat) (h : ∀ e, e ≠ 0 → f e = 0) : (allEntries.map f).sum = f 0 := by
  have : allEntries = 0 :: (List.finRange 255).map Fin.succ := by rw [allEntries, List.finRange_succ]
  rw [this, List.map_cons, List.sum_cons, List.map_map]
  have h0 : ((List.finRange 255).map (f ∘ Fin.succ)).sum = 0 := by
    rw [List.sum_eq_zero]
    intro x hx
    obtain ⟨i, _, rfl⟩ := List.mem_map.1 hx
    exact h _ (Fin.succ_ne_zero i)
  omega

theorem powerOn_pages (pg : Page) : Pool.powerOn.freeList.count pg + Pool.powerOn.spareList.count pg = 1 := by
  have h := (List.filter_append_perm (fun x : Page => decide (x.val < Config.servicePages)) allPages).count_eq pg
  rw [List.count_append] at h
  simp only [Pool.powerOn]
  exact h.trans (List.count_eq_one_of_mem (List.nodup_finRange 2112) (List.mem_finRange pg))

theorem good_free_list : Pool.powerOn.freeList = 0 :: good.pool.freeList := by decide +kernel

theorem good_page_lists (pg : Page) :
    (allEntries.map fun e => (good.ctx e).pages.count pg).sum = [(0 : Page)].count pg := by
  rw [sum_of_one]
  · rw [good_ctx, if_pos rfl]
    simp only [aContext]
  · intro e he
    rw [good_ctx, if_neg he]
    simp only [Context.free, List.count_nil]

theorem good_other_lists : good.pool.spareList = Pool.powerOn.spareList ∧ good.pool.retiredList = [] := by
  decide +kernel

theorem good_pages (pg : Page) : good.pageCopies pg = 1 := by
  have h := powerOn_pages pg
  rw [good_free_list, List.count_cons] at h
  rw [State.pageCopies, good_page_lists, good_other_lists.1, good_other_lists.2, List.count_cons, List.count_nil]
  omega

theorem good_pool : PoolLaw good where
  onePlace := good_pages
  listLength e := by
    rw [good_ctx]
    split
    · decide
    · decide
  usage := by decide +kernel
  retired := by decide +kernel

theorem good_laws : Laws good where
  pool := good_pool
  store := show Memory.wf good.store by decide +kernel
  key e d := by
    rw [good_ctx, good_ctx]
    intro he hd _ _
    by_cases h1 : e = 0 <;> by_cases h2 : d = 0 <;> simp_all [Context.free]
  free e := by
    rw [good_ctx]
    split
    · intro h; cases h
    · intro; rfl
  fields := {
    pending := fun e => by rw [good_ctx]; split <;> (intro h; cases h)
    release := fun e => by rw [good_ctx]; split <;> (intro h; cases h)
    notice := fun e => by rw [good_ctx]; split <;> simp [aContext, Context.free]
    deadline := fun e => by rw [good_ctx]; split <;> simp [aContext, Context.free]
    stopping := fun u j h => by cases u <;> cases h }
  expiry := {
    once := by decide
    members := fun e => by
      show e ∈ [(0 : Entry)] ↔ _
      rw [good_ctx]
      split <;> simp_all [aContext, Context.free] }
  dispatch := {
    once := by decide +kernel
    members := fun p e => by
      have : good.dispatchQueue p = [] := by revert p; decide +kernel
      rw [this, good_ctx]
      split <;> simp [aContext, Context.free]
    owed := fun e => by rw [good_ctx]; split <;> simp [aContext, Context.free]
    held := fun p h => by cases h }
  closing := {
    once := by decide +kernel
    members := fun p e => by
      have : (good.port p).closing = [] := by revert p; decide +kernel
      rw [this, good_ctx]
      split <;> simp [aContext, Context.free] }
  engine := by
    show ∀ e, (good.ctx e).state ≠ .combining
    intro e
    rw [good_ctx]
    split <;> simp [aContext, Context.free]
  units := {
    decoding := fun e => by
      rw [good_ctx]
      constructor
      · split <;> (intro h; cases h)
      · rintro ⟨u, h⟩; cases u <;> cases h
    port := fun u j h => by cases u <;> cases h
    single := fun a b h => by cases h
    paired := fun u j h => by cases u <;> cases h
    field := fun e => by rw [good_ctx]; split <;> rfl }
  ports := {
    off := fun p => by rw [good_port]; split <;> (intro h; first | rfl | cases h)
    offContexts := fun p e h hp => by
      rw [good_ctx] at hp ⊢
      split at hp
      · have h0 : p = 0 := hp.symm
        rw [good_port, if_pos h0] at h
        cases h
      · next h0 => rw [if_neg h0]; rfl
    resetting := fun p => by rw [good_port]; split <;> (intro h; cases h)
    resettingContexts := fun p e => by rw [good_port]; split <;> (intro h; cases h)
    resettingEngine := fun c h => by cases h
    resettingUnits := fun u j h => by cases u <;> cases h }
  answers := {
    reserved := by decide +kernel
    fits := by decide +kernel
    head := fun p => by rw [good_port]; split <;> (intro h; cases h)
    waiting := by decide +kernel }
  budget := {
    contexts := by decide +kernel
    attempts := fun e => by
      rw [good_ctx]
      split
      · intro _; decide +kernel
      · intro h; exact absurd rfl h
    slot := fun p r => by rw [good_port]; split <;> (rintro (h | h) <;> cases h)
    cap := by decide +kernel
    reserve := by decide +kernel }

/-! ### The hypotheses of the statements hold somewhere: one theorem per statement -/

/-- The laws hold of a state that steps: for every invariant that rests on all of them or on one. -/
theorem witness_StepKeepsLaws : Laws good ∧ ∃ t, step good = .next t := ⟨good_laws, ⟨_, rfl⟩⟩

/-- The Geometry Table's law at a table with an entry. -/
theorem witness_StepKeepsTheLists : GeometryLaw good ∧ good.geometry = [⟨64, 1, 0⟩] :=
  ⟨⟨by decide, by decide, by decide⟩, rfl⟩

theorem witness_EmptyQueueLetsOneUnitPass :
    (State.reset.pending = [] ∧ State.reset.expiry.elapsed + 1 < State.reset.expiry.period) ∧
      ∃ s : State, s.pending = [] ∧ s.expiry.elapsed + 1 = s.expiry.period :=
  ⟨⟨rfl, by decide⟩, { State.reset with expiry := ⟨0, 4, 4, 3, []⟩ }, rfl, rfl⟩

theorem witness_StepKeepsExtrinsicRange :
    ∃ s t : State, DecodeLaw s ∧ s.units.job .du0 ≠ none ∧ step s = .next t := by
  refine ⟨{ at0 idlePort with units := .apart (some { aJob with K := 2, extrinsic := [1023, -1023] }) none }, _, ?_,
    fun h => (by cases h), rfl⟩
  constructor
  · intro u j h
    cases u
    · cases h; decide
    · cases h
  · intro u j h
    cases u
    · cases h; decide
    · cases h
  · decide +kernel

theorem full_write (d : Word64) : FullWrite (full d) := ⟨rfl, rfl⟩

theorem witness_SubmitTakesAWord :
    (∃ q w, (at0 q).port 0 = q ∧ q.state = .active ∧ FullWrite w ∧ q.assembly.length < 3) ∧
    (∃ q w, (at0 q).port 0 = q ∧ q.state = .active ∧ FullWrite w ∧ q.assembly.length = 3 ∧ 32 ≤ q.queue.length) ∧
    (∃ q w, (at0 q).port 0 = q ∧ q.state = .active ∧ FullWrite w ∧ q.assembly.length = 3 ∧ q.queue.length < 32 ∧
      (descriptorOfWords (q.assembly ++ [w.data])).kind ≠ .attempt) ∧
    (∃ q w, (at0 q).port 0 = q ∧ q.state = .active ∧ FullWrite w ∧ q.assembly.length = 3 ∧ q.queue.length < 32 ∧
      (descriptorOfWords (q.assembly ++ [w.data])).kind = .attempt ∧ q.buf0.state ≠ .filling ∧ q.buf1.state ≠ .filling) ∧
    (∃ q w, (at0 q).port 0 = q ∧ q.state = .active ∧ FullWrite w ∧ q.assembly.length = 3 ∧ q.queue.length < 32 ∧
      (descriptorOfWords (q.assembly ++ [w.data])).kind = .attempt ∧ q.buf0.state = .filling) ∧
    ∃ q w, (at0 q).port 0 = q ∧ q.state = .active ∧ FullWrite w ∧ q.assembly.length = 3 ∧ q.queue.length < 32 ∧
      (descriptorOfWords (q.assembly ++ [w.data])).kind = .attempt ∧ q.buf0.state ≠ .filling ∧ q.buf1.state = .filling :=
  ⟨⟨{ idlePort with assembly := [1, 2] }, full 0, at0_port _, rfl, full_write _, by decide⟩,
   ⟨{ idlePort with assembly := [1, 2, 3], queue := List.replicate 32 ⟨anAttempt, none, 0, false⟩ }, full 0, at0_port _,
    rfl, full_write _, rfl, by decide⟩,
   ⟨{ idlePort with assembly := [2, 0, 0], queue := List.replicate 31 ⟨anAttempt, none, 0, false⟩ }, full 0, at0_port _,
    rfl, full_write _, rfl, by decide, by decide +kernel⟩,
   ⟨{ idlePort with assembly := [1, 0, 0], buf0 := ⟨.combining, [], false⟩, buf1 := ⟨.sealed, [], false⟩ }, full 0,
    at0_port _, rfl, full_write _, rfl, by decide, by decide +kernel, by decide, by decide⟩,
   ⟨{ idlePort with assembly := [1, 0, 0] }, full 0, at0_port _, rfl, full_write _, rfl, by decide, by decide +kernel,
    rfl⟩,
   ⟨{ idlePort with assembly := [1, 0, 0], buf0 := ⟨.sealed, [], false⟩, buf1 := Buffer.filling }, full 0, at0_port _,
    rfl, full_write _, rfl, by decide, by decide +kernel, by decide, rfl⟩⟩

theorem witness_DescriptorFields :
    (∃ bs : List Byte, bs.length = 32 ∧ bs.getD 0 0 = 0x02) ∧ (∃ bs : List Byte, bs.length = 32 ∧ bs.getD 0 0 = 0x03) ∧
      (∃ bs : List Byte, bs.length = 32 ∧ bs.getD 0 0 ≠ 0x02 ∧ bs.getD 0 0 ≠ 0x03) ∧
      ∃ ws : List Word64, ws.length = 4 ∧ 3 < 4 ∧ 7 < 8 :=
  ⟨⟨2 :: List.replicate 31 0, by decide⟩, ⟨3 :: List.replicate 31 0, by decide⟩, ⟨List.replicate 32 0xFF, by decide⟩,
   ⟨[1, 2, 3, 4], by decide⟩⟩

theorem witness_SoftDataFillsTheBuffer :
    (∃ q w, (at0 q).port 0 = q ∧ q.state = .active ∧ FullWrite w ∧ q.filling? = none) ∧
    (∃ q w b, (at0 q).port 0 = q ∧ q.state = .active ∧ FullWrite w ∧ q.filling? = some b ∧
      (q.buf b).values.length = 24584) ∧
    ∃ q w b, (at0 q).port 0 = q ∧ q.state = .active ∧ FullWrite w ∧ q.filling? = some b ∧
      24584 < (q.buf b).values.length :=
  ⟨⟨{ idlePort with buf0 := ⟨.sealed, [], false⟩ }, full 0, at0_port _, rfl, full_write _, rfl⟩,
   ⟨{ idlePort with buf0 := ⟨.filling, List.replicate 24584 0, false⟩ }, full 0, .s0, at0_port _, rfl, full_write _, rfl,
    List.length_replicate⟩,
   ⟨{ idlePort with buf0 := ⟨.filling, List.replicate 24592 0, false⟩ }, full 0, .s0, at0_port _, rfl, full_write _, rfl,
    by show 24584 < (List.replicate 24592 (0 : Byte)).length; rw [List.length_replicate]; decide⟩⟩

theorem witness_WritesNotTaken :
    (∃ q, (at0 q).port 0 = q ∧ q.state = .off) ∧
    (∃ q w, (at0 q).port 0 = q ∧ q.state = .active ∧ ¬ FullWrite w) ∧
    (∃ q, (at0 q).port 0 = q ∧ q.state = .draining) ∧ ∃ q, (at0 q).port 0 = q ∧ q.state = .resetting .off :=
  ⟨⟨{ idlePort with state := .off }, at0_port _, rfl⟩,
   ⟨idlePort, ⟨1, 0x7F, 0⟩, at0_port _, rfl, fun h => absurd h.2 (by decide)⟩,
   ⟨{ idlePort with state := .draining }, at0_port _, rfl⟩,
   ⟨{ idlePort with state := .resetting .off }, at0_port _, rfl⟩⟩

theorem witness_ReturnSlotFreesAHeldSlot :
    (∃ (q : Port) (w : WriteBurst) (i : SlotId) (payload : List Byte), (at0 q).port 0 = q ∧ q.state = .draining ∧
      FullWrite w ∧ w.data.toNat = i.val ∧ i = 3 ∧ q.outSlot i = .held payload) ∧
    ∃ (q : Port) (w : WriteBurst), (at0 q).port 0 = q ∧ q.state = .active ∧ FullWrite w ∧
      ∀ (i : SlotId) (payload : List Byte), w.data.toNat = i.val → q.outSlot i ≠ .held payload :=
  ⟨⟨{ idlePort with state := .draining, outSlots := Vector.replicate 4 (.held [7]) }, full 3, 3, [7], at0_port _, rfl,
    full_write _, rfl, rfl, by decide⟩,
   ⟨idlePort, full 4, at0_port _, rfl, full_write _, fun i _ h => absurd h (Nat.ne_of_gt i.isLt)⟩⟩

theorem witness_PortResetEvent :
    (0x03 : Byte).toNat = (3 : PortId).val ∧ ((State.reset.setPort 3 idlePort).port 3).state = .active ∧
      ((State.reset.setPort 3 { idlePort with state := .draining }).port 3).state = .draining ∧
      ((State.reset.port 3).state ≠ .active ∧ (State.reset.port 3).state ≠ .draining) ∧ FullWrite (full 1) ∧
      (full 1).data = 1 ∧ ¬ FullWrite ⟨2, 0xFF, 1⟩ ∧ 4 ≤ (0x04 : Byte).toNat := by
  refine ⟨rfl, by simp [idlePort], by simp, by decide +kernel, full_write _, rfl, fun h => absurd h.1 (by decide),
    by decide⟩

theorem witness_AnswerPopsOrPeeks :
    (∃ q a, (at0 q).port 0 = q ∧ q.answers = [a] ∧ q.closing = [] ∧ q.intake = .noAnswerSpace) ∧
    (∃ q a c n, (at0c q c).port 0 = q ∧ q.answers = [a] ∧ q.closing = [0] ∧ (at0c q c).ctx 0 = c ∧ c.state = .closing ∧
      c.port = 0 ∧ c.owedNotice = some n) ∧
    (List.replicate 5 0xFF ≠ List.replicate 4 (0xFF : Lanes)) ∧ idlePort.answers = [] :=
  ⟨⟨{ idlePort with answers := [⟨5, 0, .withdrawn⟩], intake := .noAnswerSpace }, ⟨5, 0, .withdrawn⟩, at0_port _, rfl, rfl,
    rfl⟩,
   ⟨{ idlePort with answers := [⟨5, 0, .withdrawn⟩], closing := [0] }, ⟨5, 0, .withdrawn⟩,
    { aContext .closing with pages := [], owedNotice := some ⟨.evicted, 1⟩ }, ⟨.evicted, 1⟩, at0c_port _ _, rfl, rfl,
    at0c_ctx _ _, rfl, rfl, rfl⟩,
   by decide, rfl⟩

theorem witness_AnswerRecordLayout (slot : Nat) :
    (∃ i : Nat, i < 8 ∧ i = 7) ∧ (∃ i : Nat, 4 ≤ i) ∧ (∃ b gap n, b = AnswerBody.stored gap n) ∧
      (∃ b, b = AnswerBody.decoded .pass 3 true false slot 8 1 0) ∧ (∃ b st, b = AnswerBody.released st) ∧
      (∃ b r, b = AnswerBody.refused r) ∧ (∃ b, b = AnswerBody.damaged) ∧ (∃ b, b = AnswerBody.withdrawn) ∧
      (∃ b n, b = AnswerBody.superseded n) ∧ (∃ b n, b = AnswerBody.duplicate n) ∧
      (∃ b n, b = AnswerBody.alreadySolved n) ∧ (∃ b n, b = AnswerBody.notice .expired n) ∧
      (∃ b n, b = AnswerBody.notice .evicted n) ∧ ∃ b st, b = AnswerBody.status st 8192 15 15 49 0xFFFFFFFF :=
  ⟨⟨7, by decide, rfl⟩, ⟨4, Nat.le_refl 4⟩, ⟨_, true, 2, rfl⟩, ⟨_, rfl⟩, ⟨_, .held, rfl⟩, ⟨_, .badKind, rfl⟩, ⟨_, rfl⟩,
   ⟨_, rfl⟩, ⟨_, 1, rfl⟩, ⟨_, 1, rfl⟩, ⟨_, 1, rfl⟩, ⟨_, 1, rfl⟩, ⟨_, 1, rfl⟩, _, .held, rfl⟩

theorem witness_StatusAndOtherAccesses :
    (∃ b : ReadBeat, b.addr.toNat < 0x4000 ∧ b.addr = 0x3FFF) ∧ (∃ b : ReadBeat, 0x5000 ≤ b.addr.toNat ∧ b.addr = 0x5000) ∧
    (∃ (q : Port) (b : ReadBeat) (i : SlotId) (payload : List Byte), (at0 q).port 0 = q ∧
      0x4000 + 0x400 * i.val ≤ b.addr.toNat ∧ b.addr.toNat < 0x4400 + 0x400 * i.val ∧ b.addr = 0x4FFF ∧
      q.outSlot i = .held payload) ∧
    ∃ (q : Port) (b : ReadBeat) (i : SlotId), (at0 q).port 0 = q ∧ 0x4000 + 0x400 * i.val ≤ b.addr.toNat ∧
      b.addr.toNat < 0x4400 + 0x400 * i.val ∧ b.addr = 0x4000 ∧ q.outSlot i = .free :=
  ⟨⟨⟨0x3FFF, 0xFF⟩, by decide⟩, ⟨⟨0x5000, 0xFF⟩, by decide⟩,
   ⟨{ idlePort with outSlots := Vector.replicate 4 (.held [7]) }, ⟨0x4FFF, 0xFF⟩, 3, [7], at0_port _, by decide,
    by decide, rfl, by decide⟩,
   ⟨idlePort, ⟨0x4000, 0xFF⟩, 0, at0_port _, by decide, by decide, rfl, by decide⟩⟩

/-- A payload's first and last word, by their bytes. -/
theorem test_words_of_bytes :
    bytesWord (field [1, 2, 3, 4, 5, 6, 7, 8, 9] 1 8) = 0x0908070605040302 ∧
      recordWord ((List.range 32).map (BitVec.ofNat 8)) 3 = 0x1F1E1D1C1B1A1918 := by decide

theorem witness_StatusWordFields :
    ∃ q : Port, q.assembly.length = 3 ∧ q.queue.length = 32 ∧ q.fillingBuffer.values.length = 24592 ∧
      q.answers.length ≤ 64 ∧ q.reservations = 64 :=
  ⟨{ idlePort with
      assembly := [0, 0, 0], queue := List.replicate 32 ⟨anAttempt, none, 0, false⟩
      buf0 := ⟨.filling, List.replicate 24592 0, true⟩, reservations := 64 },
    rfl, List.length_replicate, List.length_replicate, Nat.zero_le _, rfl⟩

/-- A queue entry of a descriptor with eight values in S0. -/
def entryOf (d : Descriptor) : QueueEntry := ⟨d, some .s0, 8, false⟩

/-- Each check fails on one descriptor that passes the checks before it, and one passes all. -/
theorem witness_IntakeChecksInOrder :
    ((at0 idlePort).port 0).profile = prof ∧ actionOfByte 0 = none ∧ actionOfByte anAttempt.action = some .decode ∧
      actionOfByte 2 = some .holdOnly ∧ actionOfByte 3 = none ∧ (at0 idlePort).geometryOf 72 = none ∧
      (at0 idlePort).geometryOf anAttempt.K = some ⟨64, 1, 0⟩ ∧ prof.maxAttempts < 5 ∧ 1 ≤ anAttempt.attempt ∧
      anAttempt.attempt ≤ prof.maxAttempts ∧ 3 * anAttempt.K + 16 ≤ 208 ∧ 3 * anAttempt.K + 16 < 209 ∧
      anAttempt.start < 3 * anAttempt.K + 16 ∧ 1 ≤ anAttempt.count ∧ anAttempt.count ≤ 3 * anAttempt.K + 16 ∧
      prof.iterationCap < 9 ∧ 1 ≤ anAttempt.iterationLimit ∧ anAttempt.iterationLimit ≤ prof.iterationCap ∧
      anAttempt.iterationLimit ≠ 1 ∧ stopModeOfByte 0 = none ∧ stopModeOfByte 2 = some .check ∧
      stopModeOfByte anAttempt.stopMode = some .agree ∧ anAttempt.checksumPresent = false ∧
      (entryOf anAttempt).valuesReceived = (anAttempt.count + 7) / 8 * 8 ∧
      (entryOf { anAttempt with count := 9 }).valuesReceived ≠ (9 + 7) / 8 * 8 := by decide +kernel

theorem witness_IntakeTriesAnAttempt :
    (∃ q x, (at0 q).port 0 = q ∧ q.queue = [x] ∧ q.triesFresh ∧ q.answers.length + q.reservations = 64) ∧
    (∃ q x, (at0 q).port 0 = q ∧ q.queue = [x] ∧ q.triesFresh ∧ q.answers.length + q.reservations = 63 ∧
      x.descriptor.kind = .unnamed 0x07 ∧ (at0 q).checkAttempt 0 x = .error .badKind ∧ x.buffer = none) ∧
    (∃ q x, (at0 q).port 0 = q ∧ q.queue = [x] ∧ q.triesFresh ∧ q.answers.length + q.reservations < 64 ∧
      x.descriptor.kind = .attempt ∧ (at0 q).checkAttempt 0 x = .error .badSize ∧ x.buffer = some .s0) ∧
    (∃ q x r, (at0 q).port 0 = q ∧ q.queue = [x] ∧ q.triesFresh ∧ q.answers.length + q.reservations < 64 ∧
      x.descriptor.kind = .attempt ∧ (at0 q).checkAttempt 0 x = .ok r ∧ q.slot = .empty) ∧
    ∃ q x r, (at0 q).port 0 = q ∧ q.queue = [x] ∧ q.triesFresh ∧ q.answers.length + q.reservations < 64 ∧
      x.descriptor.kind = .attempt ∧ (at0 q).checkAttempt 0 x = .ok r ∧ q.slot ≠ .empty :=
  ⟨⟨{ idlePort with queue := [entryOf anAttempt], reservations := 64 }, _, at0_port _, rfl, ⟨rfl, Or.inl rfl⟩, rfl⟩,
   ⟨{ idlePort with queue := [⟨{ anAttempt with kind := .unnamed 0x07 }, none, 0, false⟩], reservations := 63 }, _, at0_port _,
    rfl, ⟨rfl, Or.inl rfl⟩, rfl, rfl, rfl, rfl⟩,
   ⟨{ idlePort with queue := [entryOf { anAttempt with K := 72 }] }, _, at0_port _, rfl, ⟨rfl, Or.inl rfl⟩, by decide, rfl,
    rfl, rfl⟩,
   ⟨{ idlePort with queue := [entryOf anAttempt] }, _, aRequest, at0_port _, rfl, ⟨rfl, Or.inl rfl⟩, by decide, rfl, rfl,
    rfl⟩,
   ⟨{ idlePort with queue := [entryOf anAttempt], slot := .ready aRequest }, _, aRequest, at0_port _, rfl,
    ⟨rfl, Or.inl rfl⟩, by decide, rfl, rfl, by decide⟩⟩

/-- A descriptor of another kind for the same key. -/
def ofKind (k : DescriptorKind) : QueueEntry := ⟨{ anAttempt with kind := k }, none, 0, false⟩

theorem witness_IntakeAnswersAQuery :
    (∃ q, (at0 q).port 0 = q ∧ q.queue = [ofKind .query] ∧ q.triesFresh ∧ q.answers.length + q.reservations = 63 ∧
      q.slot.tag? = some 5) ∧
    (∃ q, (at0 q).port 0 = q ∧ q.queue = [ofKind .query] ∧ q.triesFresh ∧ q.answers.length + q.reservations < 64 ∧
      q.slot.tag? ≠ some 5 ∧ (at0 q).lookup 0 5 = none) ∧
    ∃ q c, (at0c q c).port 0 = q ∧ q.queue = [ofKind .query] ∧ q.triesFresh ∧ q.answers.length + q.reservations < 64 ∧
      q.slot.tag? ≠ some 5 ∧ (at0c q c).lookup 0 5 = some 0 ∧ (at0c q c).ctx 0 = c ∧ c.state = .held :=
  ⟨⟨{ idlePort with queue := [ofKind .query], slot := .keyWait aRequest, reservations := 63 }, at0_port _, rfl,
    ⟨rfl, Or.inl rfl⟩, rfl, rfl⟩,
   ⟨{ idlePort with queue := [ofKind .query] }, at0_port _, rfl, ⟨rfl, Or.inl rfl⟩, by decide, by decide,
    at0_lookup _ _ _⟩,
   ⟨{ idlePort with queue := [ofKind .query] }, aContext .held, at0c_port _ _, rfl, ⟨rfl, Or.inl rfl⟩, by decide,
    by decide, by decide +kernel, at0c_ctx _ _, rfl⟩⟩

/-- The context that a release names, by its state. -/
def released (st : CtxState) : Context :=
  { aContext st with pendingDecode := if st = .queued then some ⟨9, 2, .agree, false⟩ else none }

theorem witness_IntakeHandsOverARelease :
    (∃ q, (at0 q).port 0 = q ∧ q.queue = [ofKind .release] ∧ q.triesFresh ∧ q.answers.length + q.reservations = 63 ∧
      q.slot.tag? ≠ some 5 ∧ (at0 q).lookup 0 5 = none) ∧
    (∃ q, (at0c q (aContext .closing)).port 0 = q ∧ q.queue = [ofKind .release] ∧ q.triesAgain ∧
      q.slot.tag? ≠ some 5 ∧ (at0c q (aContext .closing)).lookup 0 5 = some 0) ∧
    ∀ st ∈ [CtxState.held, .solved, .queued, .combining, .decoding, .closing],
      ∃ q c, (at0c q c).port 0 = q ∧ q.queue = [ofKind .release] ∧ q.triesFresh ∧
        q.answers.length + q.reservations < 64 ∧ q.slot.tag? ≠ some 5 ∧ (at0c q c).lookup 0 5 = some 0 ∧
        (at0c q c).ctx 0 = c ∧ c.state = st ∧ c.releasePending = none ∧ (st = .queued → c.pendingDecode.isSome) := by
  refine ⟨⟨{ idlePort with queue := [ofKind .release], reservations := 63 }, at0_port _, rfl, ⟨rfl, Or.inl rfl⟩, rfl,
    by decide, at0_lookup _ _ _⟩,
    ⟨{ idlePort with
        queue := [ofKind .release], intake := .keyOrder, headReserved := true, stallSignalled := true, reservations := 1 },
      at0c_port _ _, rfl, ⟨rfl, rfl, rfl⟩, by decide, by decide +kernel⟩, ?_⟩
  intro st h
  refine ⟨{ idlePort with queue := [ofKind .release] }, released st, at0c_port _ _, rfl, ⟨rfl, Or.inl rfl⟩, by decide,
    by decide, ?_, at0c_ctx _ _, rfl, rfl, fun h => by subst h; rfl⟩
  revert st
  decide +kernel

theorem witness_DrainsCloseAndResetsEnd :
    (∃ q, (at0 q).port 0 = q ∧ q.state = .active) ∧
    (∃ q, (at0 q).port 0 = q ∧ q.state = .draining ∧ q.queue ≠ []) ∧
    (∃ q c, (at0c q c).port 0 = q ∧ q.state = .draining ∧ ((at0c q c).ctx 0).port = 0 ∧
      ((at0c q c).ctx 0).state = .decoding) ∧
    (∃ q, (at0c q (aContext .held)).port 0 = q ∧ q.state = .draining ∧ q.queue = [] ∧ q.slot = .empty ∧
      ∀ e, ((at0c q (aContext .held)).ctx e).port = 0 →
        ((at0c q (aContext .held)).ctx e).state ≠ .combining ∧ ((at0c q (aContext .held)).ctx e).state ≠ .queued ∧
          ((at0c q (aContext .held)).ctx e).state ≠ .decoding) ∧
    (∃ q c, (at0c q c).port 0 = q ∧ q.state = .resetting .off ∧ (at0c q c).inFlightWork 0) ∧
    ∃ q, (at0 q).port 0 = q ∧ q.state = .resetting .active ∧ ¬ (at0 q).inFlightWork 0 :=
  ⟨⟨idlePort, at0_port _, rfl⟩,
   ⟨{ idlePort with state := .draining, queue := [entryOf anAttempt] }, at0_port _, rfl, by decide⟩,
   ⟨{ idlePort with state := .draining }, aContext .decoding, at0c_port _ _, rfl, by rw [at0c_ctx]; rfl,
    by rw [at0c_ctx]; rfl⟩,
   ⟨{ idlePort with state := .draining }, at0c_port _ _, rfl, rfl, rfl, fun e _ => by
      by_cases h : e = 0
      · rw [h, at0c_ctx]; decide
      · rw [at0c_ctx_other _ _ _ h]; decide⟩,
   ⟨{ idlePort with state := .resetting .off }, aContext .combining, at0c_port _ _, rfl,
    ⟨0, by rw [at0c_ctx]; exact ⟨rfl, Or.inl rfl⟩⟩⟩,
   ⟨{ idlePort with state := .resetting .active }, at0_port _, rfl, fun ⟨e, _, h⟩ => by
      rw [at0_ctx] at h; rcases h with h | h <;> cases h⟩⟩

theorem witness_SignalsAndFreedBuffers :
    (∃ q : Port, q.slot = .keyWait aRequest) ∧ (∃ q : Port, q.slot = .empty) ∧
    (∃ (q : Port) (x : QueueEntry), q.intake = .keyOrder ∧ q.headReserved = true ∧ q.queue = [x] ∧ x.descriptor.tag = 5) ∧
    (∃ q : Port, q.intake = .keyOrder ∧ q.headReserved = true ∧ ∀ x rest, q.queue = x :: rest → x.descriptor.tag ≠ 6) ∧
    (∃ q : Port, q.intake ≠ .keyOrder) ∧ (∃ q : Port, q.headReserved = false) ∧
    (∃ q : Port, q.buf1.state = .filling) ∧ (∃ q : Port, q.buf1.state ≠ .filling) ∧
    (∃ q : Port, q.buf0.state = .filling) ∧ (∃ q : Port, q.buf0.state = .free) ∧
    ∃ q : Port, q.buf0.state ≠ .filling ∧ q.buf0.state ≠ .free :=
  ⟨⟨{ idlePort with slot := .keyWait aRequest }, rfl⟩, ⟨idlePort, rfl⟩,
   ⟨{ idlePort with intake := .keyOrder, headReserved := true, queue := [ofKind .release] }, _, rfl, rfl, rfl, rfl⟩,
   ⟨{ idlePort with intake := .keyOrder, headReserved := true, queue := [ofKind .release] }, rfl, rfl,
    fun _ _ h => by cases h; decide⟩,
   ⟨idlePort, by decide⟩, ⟨idlePort, rfl⟩,
   ⟨{ idlePort with buf1 := Buffer.filling }, rfl⟩, ⟨idlePort, by decide⟩, ⟨idlePort, rfl⟩,
   ⟨{ idlePort with buf0 := Buffer.free }, rfl⟩, ⟨{ idlePort with buf0 := ⟨.sealed, [], false⟩ }, by decide, by decide⟩⟩

theorem witness_DamagedPagesAreRetiredOnce : ([0, 1] : List Page).Nodup ∧ (([1, 1, 5] : List Page).filter (· ∈ ([0, 1] : List Page))).eraseDups = [1] := by
  decide

/-- A key held by a context that is not busy, and by one that is; a key that no entry has. -/
theorem witness_keys :
    KeyLaw good ∧ good.hasKey 0 0 5 ∧ (∃ c, c.state = .combining ∧ (at0c idlePort c).hasKey 0 0 5) ∧
      ∀ e, ¬ (at0 idlePort).hasKey e 0 5 :=
  ⟨good_laws.key, by rw [State.hasKey, good_ctx]; decide,
   ⟨aContext .combining, rfl, by rw [State.hasKey, at0c_ctx]; decide⟩,
   fun e h => h.1 (by rw [at0_ctx]; rfl)⟩

/-- A HELD context of a port with one free entry of the answer queue, and with none; a tombstone. -/
theorem witness_endings :
    (∀ n ∈ [63, 64], ∃ q c, (at0c q c).port 0 = q ∧ (at0c q c).ctx 0 = c ∧ c.port = 0 ∧ c.state = .held ∧
      q.answers.length + q.reservations = n) ∧
    ∃ q c, (at0c q c).port 0 = q ∧ (at0c q c).ctx 0 = c ∧ c.port = 0 ∧ c.state = .solved :=
  ⟨fun n _ => ⟨{ idlePort with reservations := n }, aContext .held, at0c_port _ _, at0c_ctx _ _, rfl, rfl,
    Nat.zero_add n⟩,
   ⟨idlePort, aContext .solved, at0c_port _ _, at0c_ctx _ _, rfl, rfl⟩⟩

/-- A shortage that one eviction relieves, one that none relieves, and a port with policy REFUSE. -/
theorem witness_EvictionRelievesShortages :
    PoolLaw good ∧ ExpiryLaw good ∧ (good.port 1).profile.evictionPolicy = .refuse ∧
      (good.port 0).profile.evictionPolicy = .evictOwn ∧
      ((good.expiry.list.filter fun e => (good.ctx e).port == 0 && (good.ctx e).state == .held).map
        fun e => (good.ctx e).pageCount).sum = 1 ∧
      ((allPorts.filter fun r => r != 0 && (good.port r).state != .off).map fun r =>
        (good.port r).profile.reserve - good.pool.usageOf r).sum = 0 ∧
      (∀ n, (n ≤ good.pool.freeList.length + 1 ∧ good.pool.usageOf 0 - 1 + n ≤ (good.port 0).profile.cap ∧
          0 + ((good.port 0).profile.reserve - (good.pool.usageOf 0 - 1 + n)) ≤
            good.pool.freeList.length + 1 - n + good.pool.shortfall) ↔ n ≤ 100) ∧
      good.grants 0 100 = false := by
  refine ⟨good_laws.pool, good_laws.expiry, by decide +kernel, by decide +kernel, by decide +kernel, by decide +kernel,
    fun n => ?_, by decide +kernel⟩
  rw [show good.pool.freeList.length = 2047 by decide +kernel, show good.pool.usageOf 0 = 1 by decide +kernel,
    show (good.port 0).profile.cap = 100 by decide +kernel, show (good.port 0).profile.reserve = 10 by decide +kernel,
    show good.pool.shortfall = 0 by decide +kernel]
  omega

/-- Port 1 has the attempt of port 0's key in a READY slot as well. -/
def twoSlots : State :=
  (at0c { idlePort with slot := .ready aRequest } (aContext .decoding)).setPort 1 { idlePort with slot := .ready aRequest }

theorem twoSlots_port (p : PortId) :
    twoSlots.port p = if p = 0 ∨ p = 1 then { idlePort with slot := .ready aRequest }
      else Port.offWith Profile.default ⟨none, []⟩ := by
  revert p; decide +kernel

/-- The scan finds port 0 busy and takes port 1. -/
theorem witness_SelectionScansInOrder :
    (∃ (s u : State) (i : Fin 4) (p : PortId) (r : Request), s.engine.combine = none ∧ p = portAfter s.engine.pointer i ∧
      i = 1 ∧ (s.port p).slot = .ready r ∧ s.keyBusy p r.tag = false ∧
      (∀ (k : Fin 4) (o : Request), k < i → (s.port (portAfter s.engine.pointer k)).slot = .ready o →
        s.keyBusy (portAfter s.engine.pointer k) o.tag = true) ∧
      u = { s with ports := u.ports } ∧
      ∀ k : Fin 4, u.port (portAfter s.engine.pointer k) =
        if k < i then (s.port (portAfter s.engine.pointer k)).waiting else s.port (portAfter s.engine.pointer k)) ∧
    ∃ s u : State, s.engine.combine = none ∧
      (∀ (p : PortId) (o : Request), (s.port p).slot = .ready o → s.keyBusy p o.tag = true) ∧
      u = { s with ports := u.ports } ∧ ∀ p, u.port p = (s.port p).waiting := by
  constructor
  · refine ⟨twoSlots, twoSlots.setPort 0 (twoSlots.port 0).waiting, 1, 1, aRequest, rfl, rfl, rfl, by decide +kernel,
      ?_, ?_, rfl, by decide +kernel⟩
    · rw [State.keyBusy, lookup_none]
      intro e
      by_cases h : e = 0
      · exact Or.inr (by rw [h, show twoSlots.ctx 0 = aContext .decoding from at0c_ctx _ _]; decide)
      · exact Or.inl (by rw [show twoSlots.ctx e = Context.free from at0c_ctx_other _ _ _ h]; rfl)
    intro k o hk h
    have hk0 : k = 0 := by clear h; revert k; decide
    subst hk0
    rw [twoSlots_port] at h
    cases h
    decide +kernel
  · refine ⟨at0c { idlePort with slot := .ready aRequest } (aContext .decoding),
      (at0c { idlePort with slot := .ready aRequest } (aContext .decoding)).setPort 0
        { idlePort with slot := .keyWait aRequest }, rfl, ?_, rfl, by decide +kernel⟩
    intro p o h
    by_cases hp : p = 0
    · subst hp
      rw [at0c_port] at h
      cases h
      decide +kernel
    · exfalso
      have hs : ((at0c { idlePort with slot := .ready aRequest } (aContext .decoding)).port p).slot = .empty := by
        clear h; revert p; decide +kernel
      rw [hs] at h
      cases h

/-- Port 0 with the attempt selected, and a profile. -/
def selecting (f : Profile) (c : Context) : State :=
  at0c { idlePort with
    profile := f, slot := .ready aRequest, reservations := 1, buf0 := ⟨.sealed, List.replicate 8 1, false⟩ } c

theorem scan_takes_port0 (s : State) (he : s.engine.pointer = 0) (hp : (s.port 0).slot = .ready aRequest)
    (h : s.keyBusy 0 5 = false) : State.scanSlots (scanOrder s.engine.pointer) s = (s, some (0, aRequest)) := by
  rw [he]
  show State.scanSlots (0 :: _) _ = _
  rw [State.scanSlots, hp]
  simp only [show aRequest.tag = 5 from rfl, h, Bool.false_eq_true, if_false]

theorem selecting_scan (f : Profile) (c : Context) (h : (selecting f c).keyBusy 0 5 = false) :
    State.scanSlots (scanOrder (selecting f c).engine.pointer) (selecting f c) = (selecting f c, some (0, aRequest)) :=
  scan_takes_port0 _ rfl (by rw [selecting, at0c_port]) h

theorem selecting_unknown (f : Profile) (p : PortId) (tag : Tag) :
    (selecting f Context.free).lookup p tag = none :=
  lookup_none _ _ _ fun e => Or.inl (by
    by_cases h : e = 0
    · rw [h, selecting, at0c_ctx]; rfl
    · rw [selecting, at0c_ctx_other _ _ _ h]; rfl)

theorem selecting_not_busy (f : Profile) (p : PortId) (tag : Tag) : (selecting f Context.free).keyBusy p tag = false := by
  rw [State.keyBusy, selecting_unknown]

/-- The attempt taken from its slot, with no context in the table. -/
def taken (f : Profile) : State := (selecting f Context.free).takeSlot 0

theorem taken_unknown (f : Profile) (p : PortId) (tag : Tag) : (taken f).lookup p tag = none := selecting_unknown f p tag

theorem taken_port (f : Profile) : ((taken f).port 0).profile = f := by
  simp [taken, State.takeSlot, State.onPort, selecting, at0c_port]

theorem taken_count (f : Profile) : (taken f).contextCount 0 = 0 := by
  rw [State.contextCount, List.length_eq_zero_iff, List.filter_eq_nil_iff]
  intro e _
  have h : (taken f).ctx e = Context.free := by
    show (selecting f Context.free).ctx e = _
    by_cases h : e = 0
    · rw [h, selecting, at0c_ctx]
    · rw [selecting, at0c_ctx_other _ _ _ h]
  rw [h]
  decide

theorem witness_AdmissionOpensANewContext :
    ∃ (s v : State) (g : GeometryEntry), s.engine.combine = none ∧
      State.scanSlots (scanOrder s.engine.pointer) s = (s, some (0, aRequest)) ∧ v = s.takeSlot 0 ∧
      v.lookup 0 aRequest.tag = none ∧ v.geometryOf aRequest.K = some g ∧ v.entryAvailable 0 = true ∧
      (3 * g.K + 16 + 511) / 512 = 1 ∧ v.grants 0 1 = true ∧ (v.ctx 0).state = .free ∧
      ∀ d, d < (0 : Entry) → (v.ctx d).state ≠ .free := by
  refine ⟨selecting prof Context.free, taken prof, ⟨64, 1, 0⟩, rfl, selecting_scan _ _ (selecting_not_busy _ _ _), rfl,
    taken_unknown _ _ _, by decide +kernel, ?_, by decide, by decide +kernel, by decide +kernel,
    fun d h => absurd h (Fin.not_lt_zero d)⟩
  rw [State.entryAvailable, taken_count, taken_port]
  decide +kernel

theorem witness_AdmissionContinuesOrMerges :
    ∀ c ∈ [aContext .held, { aContext .queued with pendingDecode := some ⟨8, 2, .agree, false⟩ }],
      (selecting prof c).engine.combine = none ∧
      State.scanSlots (scanOrder (selecting prof c).engine.pointer) (selecting prof c) =
        (selecting prof c, some (0, aRequest)) ∧
      ((selecting prof c).takeSlot 0).lookup 0 aRequest.tag = some 0 ∧ ((selecting prof c).takeSlot 0).ctx 0 = c ∧
      aRequest.K = c.K ∧ c.lastAttempt < aRequest.attempt ∧ (c.state = .queued → c.pendingDecode.isSome) := by
  intro c h
  refine ⟨rfl, selecting_scan _ _ ?_, ?_, ?_, ?_, ?_, ?_⟩ <;> revert c <;> decide +kernel

/-- The slot's attempt is selected in each of the states that answer it without combining. -/
theorem witness_AttemptsAnsweredWithoutCombining :
    (∀ c ∈ [{ aContext .held with K := 72 }, aContext .solved, { aContext .held with lastAttempt := 2 },
        { aContext .queued with lastAttempt := 3 }],
      State.scanSlots (scanOrder (selecting prof c).engine.pointer) (selecting prof c) =
          (selecting prof c, some (0, aRequest)) ∧
        ((selecting prof c).takeSlot 0).lookup 0 aRequest.tag = some 0 ∧ ((selecting prof c).takeSlot 0).ctx 0 = c) ∧
    (∃ s : State, State.scanSlots (scanOrder s.engine.pointer) s = (s, some (0, aRequest)) ∧
      (s.takeSlot 0).lookup 0 aRequest.tag = none ∧ (s.takeSlot 0).geometryOf aRequest.K = none) ∧
    (∀ f, State.scanSlots (scanOrder (selecting f Context.free).engine.pointer) (selecting f Context.free) =
        (selecting f Context.free, some (0, aRequest)) ∧
      (taken f).lookup 0 aRequest.tag = none ∧ (taken f).geometryOf aRequest.K = some ⟨64, 1, 0⟩) ∧
    (∃ f, f.evictionPolicy = EvictionPolicy.refuse ∧ (taken f).entryAvailable 0 = false ∧
      ((taken f).relieveEntries 0).entryAvailable 0 = false) ∧
    ∃ f, f.evictionPolicy = EvictionPolicy.refuse ∧ (taken f).entryAvailable 0 = true ∧
      (taken f).grants 0 1 = false ∧ ((taken f).relievePages 0 1).grants 0 1 = false := by
  refine ⟨?_, ⟨{ selecting prof Context.free with geometry := [] }, scan_takes_port0 _ rfl ?_ ?_,
    selecting_unknown prof _ _, rfl⟩,
    fun f => ⟨selecting_scan _ _ (selecting_not_busy _ _ _), taken_unknown _ _ _, rfl⟩,
    ⟨{ prof with maxContexts := 0, evictionPolicy := .refuse }, rfl, ?_, ?_⟩,
    ⟨{ prof with reserve := 0, cap := 0, evictionPolicy := .refuse }, rfl, ?_, by decide +kernel, by decide +kernel⟩⟩
  · intro c h
    refine ⟨selecting_scan _ _ ?_, ?_, ?_⟩ <;> revert c <;> decide +kernel
  · show ((selecting prof Context.free).port 0).slot = _
    rw [selecting, at0c_port]
  · rw [State.keyBusy, lookup_none]
    intro e
    exact Or.inl (by
      show ((selecting prof Context.free).ctx e).state = .free
      by_cases h : e = 0
      · rw [h, selecting, at0c_ctx]; rfl
      · rw [selecting, at0c_ctx_other _ _ _ h]; rfl)
  · rw [State.entryAvailable, taken_count, taken_port]
    decide +kernel
  · rw [State.relieveEntries, taken_port]
    show (taken { prof with maxContexts := 0, evictionPolicy := .refuse }).entryAvailable 0 = false
    rw [State.entryAvailable, taken_count, taken_port]
    decide +kernel
  · rw [State.entryAvailable, taken_count, taken_port]
    decide +kernel

/-- A combine of port 0 in entry 0. -/
def combining (c : Combine) (x : Context) (q : Port) : State := { at0c q x with engine := ⟨0, some c⟩ }

theorem combining_port (c : Combine) (x : Context) (q : Port) : (combining c x q).port 0 = q := at0c_port q x

theorem combining_ctx (c : Combine) (x : Context) (q : Port) : (combining c x q).ctx 0 = x := at0c_ctx q x

/-- The boundary values of the clear index: the last page but one, and the last. -/
theorem witness_ClearPageEndZeroesThePage :
    ∀ n ∈ [0, 1], ∃ c x, (combining c x idlePort).engine.combine = some c ∧ (combining c x idlePort).ctx c.entry = x ∧
      c.phase = .clearing ∧ c.damaged = [] ∧ c.atBoundary = false ∧ c.clearIndex = n ∧ x.pages.length = 2 ∧
      (x.pages[c.clearIndex]?).isSome = true := by
  intro n h
  refine ⟨{ aCombine with phase := .clearing, clearIndex := n }, { aContext .combining with pages := [0, 1] }, rfl,
    combining_ctx _ _ _, rfl, rfl, rfl, rfl, rfl, ?_⟩
  revert n; decide

theorem witness_CombineReadsAhead :
    (∃ c x pg, (combining c x idlePort).engine.combine = some c ∧ (combining c x idlePort).ctx c.entry = x ∧
      c.openReads = [pg]) ∧
    (∃ c : Combine, c.damaged ≠ []) ∧ (∃ c : Combine, c.atBoundary = true) ∧ (∃ c : Combine, 2 ≤ c.openReads.length) ∧
    (visits 208 aCombine.start aCombine.count).length ≤ 2 ∧
    (∃ (c : Combine) (v w : Visit), (visits 208 c.start c.count)[1]? = some v ∧ ([(0 : Page)][v.position / 512]?) = some 0 ∧
      c.readsEnded + c.openReads.length = 1 ∧ c.written 208 ≤ 0 ∧ (visits 208 c.start c.count)[0]? = some w ∧
      ([(0 : Page)][w.position / 512]?) = some 0) ∧
    ∃ (c : Combine) (v : Visit), (visits 208 c.start c.count)[0]? = some v ∧ ([(0 : Page)][v.position / 512]?) = some 0 ∧
      c.readsEnded + c.openReads.length = 0 ∧ c.damaged = [] ∧ c.atBoundary = false ∧ c.openReads.length < 2 :=
  ⟨⟨{ aCombine with openReads := [0] }, aContext .combining, 0, rfl, combining_ctx _ _ _, rfl⟩,
   ⟨{ aCombine with damaged := [0] }, by decide⟩, ⟨{ aCombine with atBoundary := true }, rfl⟩,
   ⟨{ aCombine with openReads := [0, 1] }, by decide⟩, by decide,
   ⟨{ aCombine with openReads := [0] }, ⟨4, 4, 0⟩, ⟨0, 4, 204⟩, by decide⟩, ⟨aCombine, ⟨0, 4, 204⟩, by decide⟩⟩

theorem witness_VisitsPlaceEveryValue :
    207 < 208 ∧ 208 ≤ 208 ∧ visits 208 207 208 = [⟨0, 1, 207⟩, ⟨1, 207, 0⟩] ∧
      visits 1000 500 1000 = [⟨0, 12, 500⟩, ⟨12, 488, 512⟩, ⟨500, 500, 0⟩] := by decide +kernel

theorem witness_VisitWriteAddsTheValues :
    ∃ c x v pg q, (combining c x q).engine.combine = some c ∧ (combining c x q).ctx c.entry = x ∧
      (visits x.L c.start c.count)[c.written x.L]? = some v ∧ x.pages[v.position / 512]? = some pg ∧ c.phase = .adding ∧
      c.damaged = [] ∧ c.atBoundary = false ∧ c.written x.L < c.readsEnded ∧ (combining c x q).port c.port = q ∧
      (q.buf c.buffer).values[v.first + (v.length - 1)]? = some 0x80 :=
  ⟨{ aCombine with readsEnded := 1 }, aContext .combining, ⟨0, 4, 204⟩, 0,
    { idlePort with buf0 := ⟨.combining, List.replicate 8 0x80, false⟩ }, rfl, combining_ctx _ _ _, by decide +kernel, rfl,
    rfl, rfl, rfl, by decide +kernel, combining_port _ _ _, by decide⟩

/-- A combine whose values have all been added. -/
def addedAll (a : Action) : Combine := { aCombine with action := a, valueIndex := 8, readsEnded := 2 }

theorem witness_CombineCompletion :
    ∀ a ∈ [Action.decode, .holdOnly], ∀ pd ∈ [none, some ⟨9, 2, StopMode.agree, false⟩], ∀ k ∈ [none, some (7 : Cookie)],
      ∃ x, (combining (addedAll a) x idlePort).engine.combine = some (addedAll a) ∧
        (combining (addedAll a) x idlePort).ctx 0 = x ∧ (addedAll a).entry = 0 ∧ x.state = .combining ∧
        (addedAll a).port = 0 ∧ x.port = 0 ∧ (combining (addedAll a) x idlePort).port 0 = idlePort ∧
        (addedAll a).phase = .adding ∧ (addedAll a).count ≤ (addedAll a).valueIndex ∧ (addedAll a).damaged = [] ∧
        (addedAll a).abortRequested = false ∧ x.pendingDecode = pd ∧ x.releasePending = k :=
  fun _ _ pd _ k _ => ⟨{ aContext .combining with pendingDecode := pd, releasePending := k }, rfl, combining_ctx _ _ _,
    rfl, rfl, rfl, rfl, combining_port _ _ _, rfl, Nat.le_refl 8, rfl, rfl, rfl, rfl⟩

theorem witness_CombineDamageAndAbort :
    ∀ st ∈ [PortState.active, .resetting .active], ∀ c ∈ [{ aCombine with damaged := [0] }, { aCombine with atBoundary := true }],
      ∃ x q, (combining c x q).engine.combine = some c ∧ (combining c x q).ctx 0 = x ∧ x.state = .combining ∧
        x.port = 0 ∧ (combining c x q).port 0 = q ∧ q.state = st :=
  fun st _ _ _ => ⟨aContext .combining, { idlePort with state := st }, rfl, combining_ctx _ _ _, rfl, rfl,
    combining_port _ _ _, rfl⟩

/-- A QUEUED context of a block size, with a decode owed, at the head of port 0's queue. -/
def queued (K : Nat) (us : Units) (q : Port) (mode : DispatchMode) : State :=
  { at0c q { aContext .queued with K := K, pendingDecode := some ⟨9, 2, .agree, false⟩ } with
    dispatcher := ⟨mode, 0, (Vector.replicate 4 []).set 0 [0]⟩, opportunity := true, units := us }

/-- Each row of the evaluation at the boundary block sizes 4096 and 4104, and each outcome of a scan; an opportunity with scans that follow in NORMAL and after the dispatch of the held head; a head that leaves its queue and an entry that is not the head. -/
theorem witness_DispatchFollowsTheTable :
    State.reset.dispatchQueue 0 = [] ∧
    (∀ K ∈ [4096, 4104], (queued K (.apart none none) idlePort .normal).dispatchQueue 0 = [0] ∧
      ((queued K (.apart none none) idlePort .normal).ctx 0).state = .queued ∧
      ((queued K (.apart none none) idlePort .normal).ctx 0).K = K) ∧
    (∀ i, ({ idlePort with outSlots := Vector.replicate 4 OutSlot.reserved } : Port).outSlot i ≠ .free) ∧
    (∀ k, k < 3 → ({ idlePort with outSlots := (Vector.replicate 4 OutSlot.reserved).set 3 .free } : Port).outSlot k ≠ .free) ∧
    ({ idlePort with outSlots := (Vector.replicate 4 OutSlot.reserved).set 3 .free } : Port).outSlot 3 = .free ∧
    (queued 4096 (.apart none none) idlePort .normal).evaluateHead 0 =
      .dispatched 0 ⟨9, 2, .agree, false⟩ 0 (.one .du0) ∧
    (queued 4096 (.apart (some aJob) none) idlePort .normal).evaluateHead 0 =
      .dispatched 0 ⟨9, 2, .agree, false⟩ 0 (.one .du1) ∧
    (queued 4096 (.apart (some aJob) (some aJob)) idlePort .normal).evaluateHead 0 = .passedOver ∧
    (queued 4104 (.apart none none) idlePort (.pairWait 0)).evaluateHead 0 =
      .dispatched 0 ⟨9, 2, .agree, false⟩ 0 .pair ∧
    (queued 4104 (.apart none (some aJob)) idlePort .normal).evaluateHead 0 = .pairWait ∧
    4096 < ((queued 4104 (.paired aJob) idlePort (.pairWait 0)).ctx
      (((queued 4104 (.paired aJob) idlePort (.pairWait 0)).dispatchQueue 0).headD 0)).K ∧
    State.reset.opportunity = false ∧ (queued 4104 (.paired aJob) idlePort (.pairWait 0)).opportunity = true ∧
    (queued 4104 (.paired aJob) idlePort (.pairWait 0)).dispatcher.mode = .pairWait 0 ∧
    (queued 4096 (.apart none none) idlePort .normal).opportunity = true ∧
    (queued 4096 (.apart none none) idlePort .normal).dispatcher.mode = .normal ∧
    ((queued 4096 (.apart none none) idlePort .normal).dispatchQueue 0).head? ≠ some 1 := by decide +kernel

/-- Scans run to an end from every state, so the statement speaks of each of them. -/
theorem witness_scans (s : State) : ∃ t, Scans s t := ⟨_, s.scanOn_scansAtMost⟩

theorem witness_DecodeReadsThePagesItUses :
    0 < aJob.K ∧ Nat.gcd aJob.permA aJob.K = 1 ∧ aJob.readList .whole = [0] ∧
    (∃ (s : State) (u : UnitId) (j : Job), s.units.job u = some j ∧ (j.readsOf (s.units.part u)).openReads = [0] ∧
      j.damaged = []) ∧
    ∃ (s : State) (u : UnitId) (j : Job), s.units.job u = some j ∧ (j.readsOf (s.units.part u)).openReads = [0] ∧
      s.units.part u = .second ∧ j.damaged ≠ [] :=
  ⟨by decide, by decide, by decide +kernel,
   ⟨{ State.reset with units := .apart (some { aJob with reads := ⟨0, [0]⟩ }) none }, .du0, _, rfl, rfl, rfl⟩,
   ⟨{ State.reset with units := .paired { aJob with readsPartner := ⟨0, [0]⟩, damaged := [0] } }, .du1, _, rfl, rfl, rfl,
    fun h => (by cases h)⟩⟩

theorem witness_PassArithmetic :
    (∃ u s3 s4 : Bool, u = xor s3 s4) ∧ 0 < aJob.K ∧ Nat.gcd aJob.permA aJob.K = 1 ∧
    (∃ es : List Int, es.length = aJob.K ∧ aJob.extrinsic.length = aJob.K ∧ es[63]? = some (-5)) ∧
    ∃ info : List StepValues, info.length = 64 ∧ info[63]? = some ⟨1, -1, 0⟩ :=
  ⟨⟨true, true, false, rfl⟩, by decide, by decide, ⟨List.replicate 64 (-5), by decide⟩,
   ⟨List.replicate 64 ⟨1, -1, 0⟩, by decide⟩⟩

/-- A decode on DU0 in entry 0. -/
def decoding (j : Job) (x : Context) (q : Port) : State := { at0c q x with units := .apart (some j) none }

theorem decoding_port (j : Job) (x : Context) (q : Port) : (decoding j x q).port 0 = q := at0c_port q x

theorem decoding_ctx (j : Job) (x : Context) (q : Port) : (decoding j x q).ctx 0 = x := at0c_ctx q x

theorem witness_HalfIterationGoesOn :
    ∃ s, s = decoding aJob (aContext .decoding) idlePort ∧ s.units.job .du0 = some aJob ∧
      (s.ctx aJob.entry).state = .decoding ∧ aJob.halfDone s.units.isPaired = true ∧ aJob.h % 2 = 0 ∧
      aJob.stopping = false :=
  ⟨_, rfl, rfl, by decide +kernel, by decide +kernel, rfl, rfl⟩

/-- Positions at both sides of a page's end, and the last of a record. -/
theorem witness_record :
    ([(3 : Page), 7][511 / 512]?) = some 3 ∧ ([(3 : Page), 7][512 / 512]?) = some 7 ∧ 591 < 592 ∧ 592 ≤ 512 * 2 ∧
      ([(3 : Page), 7][591 / 512]?) = some 7 := by decide

/-- The last half-iteration of the first or the second of two iterations, under a stop mode. -/
def atEnd (mode : StopMode) (h : Nat) (previous : Option (List Bool)) : Job :=
  { aJob with stopMode := mode, h := h, previous := previous }

/-- The decisions of that half-iteration: they do not look at the previous ones. -/
def bitsAt (s : State) (j : Job) : List Bool :=
  j.decisions (recordValues s.store j.pages j.L).toArray
    (j.runPass s.units.isPaired (recordValues s.store j.pages j.L).toArray true).1

theorem bitsAt_previous (s : State) (mode : StopMode) (h : Nat) (a b : Option (List Bool)) :
    bitsAt s (atEnd mode h a) = bitsAt s (atEnd mode h b) := rfl

/-- No stop at the first iteration under FULL, PASS by agreement, and FAIL at the limit without agreement; each with every lifetime and attempt number that the statement tells apart. -/
theorem witness_IterationEndOutcomes :
    (∀ h ∈ [1, 3], ∀ previous, (atEnd .full h previous).halfDone false = true ∧ h % 2 = 1) ∧
    (∀ x q previous, (decoding (atEnd .full 1 previous) x q).units.job .du0 = some (atEnd .full 1 previous) ∧
      (decoding (atEnd .full 1 previous) x q).ctx 0 = x ∧ (decoding (atEnd .full 1 previous) x q).port 0 = q) ∧
    (∀ passes agrees, stopEvaluation .full false passes agrees (decide (1 / 2 + 1 = aJob.iterationLimit)) = none) ∧
    (∀ (s : State) (mode : StopMode), mode = .agree →
      ∃ previous, (atEnd mode 1 previous).previous = some (bitsAt s (atEnd mode 1 previous)) ∧
        ∀ passes atLimit, stopEvaluation mode false passes
          (decide ((atEnd mode 1 previous).previous = some (bitsAt s (atEnd mode 1 previous)))) atLimit = some .pass) ∧
    (∀ (s : State) passes, stopEvaluation .full false passes
      (decide ((atEnd .full 3 none).previous = some (bitsAt s (atEnd .full 3 none))))
      (decide (3 / 2 + 1 = aJob.iterationLimit)) = some .fail) ∧
    idlePort.profile.tombstoneLifetime ≠ 0 ∧ (aContext .decoding).lastAttempt ≠ idlePort.profile.maxAttempts := by
  refine ⟨?_, fun x q previous => ⟨rfl, decoding_ctx _ _ _, decoding_port _ _ _⟩, by decide, ?_, ?_, by decide, by decide⟩
  · intro h hh previous
    have : (atEnd .full h previous).halfDone false = (atEnd .full h none).halfDone false := rfl
    rw [this]
    clear this previous
    revert h; decide +kernel
  · intro s mode hm
    subst hm
    refine ⟨some (bitsAt s (atEnd .agree 1 none)), congrArg some (bitsAt_previous s _ _ _ _), ?_⟩
    intro passes atLimit
    have : (atEnd .agree 1 (some (bitsAt s (atEnd .agree 1 none)))).previous =
        some (bitsAt s (atEnd .agree 1 (some (bitsAt s (atEnd .agree 1 none))))) :=
      congrArg some (bitsAt_previous s _ _ _ _)
    rw [decide_eq_true this]
    revert passes atLimit; decide
  · intro s passes
    have : ¬ (atEnd .full 3 none).previous = some (bitsAt s (atEnd .full 3 none)) := fun h => nomatch h
    rw [decide_eq_false this]
    revert passes; decide

theorem witness_DecodeAbandonAndDamage :
    (∀ st ∈ [PortState.active, .resetting .off], ∀ h ∈ [0, 1], ∃ j x q, (decoding j x q).units.job .du0 = some j ∧
      (decoding j x q).ctx 0 = x ∧ x.state = .decoding ∧ x.port = 0 ∧ j.port = 0 ∧ (decoding j x q).port 0 = q ∧
      q.state = st ∧ j.halfDone (decoding j x q).units.isPaired = true ∧ j.stopping = true ∧ j.h = h) ∧
    ∃ j x, (decoding j x idlePort).units.job .du0 = some j ∧ (decoding j x idlePort).ctx 0 = x ∧ x.state = .decoding ∧
      j.damaged ≠ [] ∧ j.reads.openReads = [] ∧ j.readsPartner.openReads = [] := by
  constructor
  · intro st _ h hh
    refine ⟨{ aJob with stopping := true, h := h }, aContext .decoding, { idlePort with state := st }, rfl,
      decoding_ctx _ _ _, rfl, rfl, rfl, decoding_port _ _ _, rfl, ?_, rfl, rfl⟩
    show ({ aJob with stopping := true, h := h } : Job).halfDone false = true
    revert h; decide +kernel
  · exact ⟨{ aJob with damaged := [0] }, aContext .decoding, rfl, decoding_ctx _ _ _, rfl, fun h => (by cases h), rfl, rfl⟩

theorem witness_DecodeVerdict :
    (List.replicate 24 true).length = 24 ∧ (List.replicate 8192 true).length % 8 = 0 ∧
      (List.replicate 8192 true).length ≤ 8192 ∧ (List.replicate 64 true)[63]? = some true ∧
      (List.replicate 64 true).length / 8 ≤ 8 := by
  rw [List.length_replicate, List.length_replicate, List.length_replicate]
  decide

/-- A clock and an expiry list with entry 0. -/
def expiring (clock : Ticks) (c : Context) (q : Port) : State := { at0c q c with expiry := ⟨clock, 4, 4, 0, [0]⟩ }

theorem expiring_port (clock : Ticks) (c : Context) (q : Port) : (expiring clock c q).port 0 = q := at0c_port q c

theorem expiring_ctx (clock : Ticks) (c : Context) (q : Port) : (expiring clock c q).ctx 0 = c := at0c_ctx q c

/-- The remaining time of a deadline just ahead, half the clock's range ahead, and just reached before a wrap of the clock. -/
theorem test_remaining :
    remaining 0xFFFFFFFF 0 = 1 ∧ remaining 0 0x80000000 = 2147483648 ∧ remaining 0 0x80000001 = -2147483647 ∧
      remaining 1 0xFFFFFFFF = -2 := by decide

/-- Room for one more record, and none; a deadline just reached, and the longest reached. -/
theorem witness_ExpiryEndsTheHead :
    (∃ r : Entry → Int, [0, 1].Pairwise (fun a b => r a ≤ r b)) ∧
    (∀ n ∈ [63, 64], ∃ c q, (expiring 10 c q).ctx 0 = c ∧ c.port = 0 ∧ (expiring 10 c q).port 0 = q ∧
      deadlineReached 10 c.deadline = true ∧ c.state = .held ∧ q.answers.length + q.reservations = n) ∧
    ∃ c, (expiring 0x80000009 c idlePort).ctx 0 = c ∧ deadlineReached 0x80000009 c.deadline = true ∧ c.state = .solved :=
  ⟨⟨fun _ => 0, by decide⟩,
   fun n _ => ⟨{ aContext .held with deadline := 10 }, { idlePort with reservations := n }, expiring_ctx _ _ _, rfl,
    expiring_port _ _ _, (by decide : deadlineReached 10 10 = true), rfl, Nat.zero_add n⟩,
   ⟨{ aContext .solved with deadline := 10, pages := [] }, expiring_ctx _ _ _,
    (by decide : deadlineReached 0x80000009 10 = true), rfl⟩⟩

theorem witness_FramesAreAnswered :
    (∃ data : List Byte, data.length = 132) ∧ 1071 < 1072 ∧ (0x07 : Byte) ∉ commandCodes ∧ (0x16 : Byte) ∉ commandCodes ∧
      (∃ f : Frame, f.args.length = 24) ∧ (∃ f : Frame, f.args.length = 5) ∧ (∃ f : Frame, f.args.length = 1) ∧
      ∃ f : Frame, f.args = [] :=
  ⟨⟨List.replicate 132 0, List.length_replicate⟩, by decide, by decide, by decide, ⟨⟨List.replicate 24 0, []⟩, by decide⟩, ⟨⟨List.replicate 5 0, []⟩, by decide⟩,
    ⟨⟨[0], []⟩, rfl⟩, ⟨[], []⟩, rfl⟩

theorem witness_ManagementReads :
    65535 < 256 ^ 2 ∧ (0x7F : Byte).toNat < 128 ∧ 128 ≤ (0x80 : Byte).toNat ∧ 4 ≤ (0x04 : Byte).toNat ∧
      (0x03 : Byte).toNat = (3 : PortId).val ∧ beBytes 2 0x1234 = [0x12, 0x34] ∧ ∃ f : Frame, f.args = [0x03] :=
  ⟨by decide, by decide, by decide, by decide, rfl, by decide, ⟨[0x03], []⟩, rfl⟩

theorem witness_ContextViewFields :
    ∃ (c : Context) (d : PendingDecode) (o : OwedNotice), c.K = 65535 ∧ c.L = 24592 ∧ c.permA < 65536 ∧ c.permB < 65536 ∧
      c.pageCount = 49 ∧ c.lastAttempt = 255 ∧ c.combinedCount = 255 ∧ c.pages.length = 49 ∧ c.pendingDecode = some d ∧
      d.iterationLimit = 255 ∧ c.owedNotice = some o ∧ o.lastAttempt = 255 :=
  ⟨{ aContext .combining with
      K := 65535, L := 24592, pageCount := 49, lastAttempt := 255, combinedCount := 255, pages := List.replicate 49 2111,
      pendingDecode := some ⟨9, 255, .either, true⟩, owedNotice := some ⟨.expired, 255⟩ },
    ⟨9, 255, .either, true⟩, ⟨.expired, 255⟩, rfl, rfl, by decide, by decide, rfl, rfl, rfl, rfl, rfl, rfl, rfl, rfl⟩

theorem witness_ProfileAndPortCommands :
    4 ≤ (0x04 : Byte).toNat ∧ (0x00 : Byte).toNat = (0 : PortId).val ∧ prof.valid = true ∧
      prof.bytes = [BitVec.ofNat 8 (prof.reserve / 256), BitVec.ofNat 8 prof.reserve, BitVec.ofNat 8 (prof.cap / 256),
        BitVec.ofNat 8 prof.cap, BitVec.ofNat 8 prof.maxContexts, BitVec.ofNat 8 prof.maxAttempts,
        BitVec.ofNat 8 prof.iterationCap, BitVec.ofNat 8 (prof.holdLifetime / 256), BitVec.ofNat 8 prof.holdLifetime,
        BitVec.ofNat 8 (prof.tombstoneLifetime / 256), BitVec.ofNat 8 prof.tombstoneLifetime,
        if prof.evictionPolicy = .refuse then 0x00 else 0x01] ++ prof.damping.map (BitVec.ofNat 8) ∧
      prof.bytes.take 24 = prof.bytes ∧ 24 ≤ prof.bytes.length ∧
      (∀ x : Profile, x.valid = true → List.replicate 24 0 ≠ x.bytes) ∧ Profile.default.valid = false ∧
      ((at0 { idlePort with state := .off }).port 0).state = .off ∧ State.reset.pool.freeList.length = 2048 ∧
      ((allPorts.filter fun r => r != 0 && ((at0 idlePort).port r).state != .off).map fun r =>
        ((at0 idlePort).port r).profile.reserve - (at0 idlePort).pool.usageOf r).sum = 0 ∧
      (∃ r : Nat, 2048 < 0 + r) ∧ (∃ r : Nat, 0 + r ≤ 2048) ∧ ((at0 idlePort).port 0).state = .active := by
  refine ⟨by decide, rfl, by decide +kernel, by decide +kernel, by decide +kernel, by decide +kernel, ?_, by decide +kernel,
    by decide +kernel, by decide +kernel, by decide +kernel, ⟨2049, by decide⟩, ⟨2048, by decide⟩, by decide +kernel⟩
  intro x hx h
  have h4 : (List.replicate 24 (0 : Byte))[4]? = x.bytes[4]? := by rw [h]
  have hm : x.bytes[4]? = some (BitVec.ofNat 8 x.maxContexts) := rfl
  rw [hm] at h4
  have h5 : (0 : Byte) = BitVec.ofNat 8 x.maxContexts := by simpa using h4
  have hv : 1 ≤ x.maxContexts ∧ x.maxContexts ≤ 128 := by
    simp only [Profile.valid, inRange, Bool.and_eq_true, decide_eq_true_eq] at hx
    omega
  have h6 := congrArg BitVec.toNat h5
  have h0 : (0 : Byte).toNat = 0 := rfl
  rw [BitVec.toNat_ofNat, h0] at h6
  omega

/-- A full Geometry Table without K = 64. -/
def fullTable : List GeometryEntry := (List.range 128).map fun i => ⟨72 + 8 * i, 1, 0⟩

theorem witness_TableCommands :
    (∃ g : GeometryEntry, ¬ (64 ≤ g.K ∧ g.K ≤ 8192 ∧ g.K % 8 = 0 ∧ 1 ≤ g.permA ∧ g.permA < g.K ∧
      Nat.gcd g.permA g.K = 1 ∧ g.permB < g.K) ∧ g = ⟨64, 2, 0⟩) ∧
    (∃ g : GeometryEntry, g = ⟨beNat [0x20, 0x00], beNat [0x1F, 0xFF], beNat [0x1F, 0xFF]⟩ ∧ 64 ≤ g.K ∧ g.K = 8192 ∧
      g.K % 8 = 0 ∧ 1 ≤ g.permA ∧ g.permA < g.K ∧ Nat.gcd g.permA g.K = 1 ∧ g.permB < g.K) ∧
    fullTable.Pairwise (fun a b => a.K < b.K) ∧ (∀ x ∈ fullTable, x.K ≠ 64) ∧ 128 ≤ fullTable.length ∧
    (∃ x ∈ fullTable, x.K = 72) ∧ (at0 idlePort).geometry.length < 128 ∧ beNat [0x0F, 0xA0] = 4000 ∧
    beNat [0x0F, 0xA1] = 4001 ∧ beNat [0x00, 0x00] = 0 ∧ 4 ≤ (0x04 : Byte).toNat ∧ (0x03 : Byte).toNat = (3 : PortId).val :=
  ⟨⟨⟨64, 2, 0⟩, by decide⟩, ⟨⟨8192, 8191, 8191⟩, by decide +kernel⟩, by decide +kernel, by decide +kernel, by decide +kernel,
    by decide +kernel, by decide +kernel, by decide, by decide, by decide, by decide, rfl⟩

theorem witness_DoorsReadBackWhatTheySpell :
    (∃ bits, Instr.wf (.portReset ⟨[3], []⟩) = true ∧ frameBits (.portReset ⟨[3], []⟩) = some bits) ∧
      (∃ a, Instr.wf (.answer 3 [0xFF]) = true ∧ busAccess (.answer 3 [0xFF]) = some (3, a)) ∧
      ((0x0037 : BitVec 16).toNat / 8 * 8 = 0x0030 ∧ (0x0017 : BitVec 16).toNat / 8 * 8 = 0x0010 ∧
        (0x0038 : BitVec 16).toNat / 8 * 8 ∉ [0x0000, 0x0008, 0x0020, 0x0030]) :=
  ⟨⟨_, by decide, rfl⟩, ⟨_, by decide, rfl⟩, by decide⟩

end Sys2Proof.Tests
end

section
/-! SUPPORT. What the pool's grant test says, and the statement about it (spec/02 R35, R37, R50). -/

namespace Sys2Proof.Machine

/-- R35 and R50: a port's reserve counts in every state but OFF. -/
theorem PortState.counted_eq_ne_off (x : PortState) : x.counted = (x != .off) := by
  cases x <;> rfl

theorem State.unmetOthers_eq_sum (s : State) (c : PortId) :
    s.unmetOthers c = ((allPorts.filter fun p => p != c && (s.port p).state != .off).map fun p =>
      (s.port p).profile.reserve - s.pool.usageOf p).sum := by
  simp only [State.unmetOthers, PortState.counted_eq_ne_off]
  rfl

/-- The grant test at any free count and usage, as R37 makes it and as R44 makes it with the HELD contexts' pages given
back. The port's own term is its reserve less its usage after the grant. -/
theorem State.grantOk_iff (s : State) (c : PortId) (n free usage : Nat) :
    s.grantOk c n free usage = true ↔
      n ≤ free ∧ usage + n ≤ (s.port c).profile.cap ∧
        s.unmetOthers c + ((s.port c).profile.reserve - (usage + n)) ≤ free - n + s.pool.shortfall := by
  simp only [State.grantOk, Bool.and_eq_true, decide_eq_true_eq, and_assoc, Nat.sub_sub]

theorem State.grants_iff (s : State) (c : PortId) (n : Nat) :
    s.grants c n = true ↔
      n ≤ s.pool.freeList.length ∧ s.pool.usageOf c + n ≤ (s.port c).profile.cap ∧
        s.unmetOthers c + ((s.port c).profile.reserve - (s.pool.usageOf c + n)) ≤
          s.pool.freeList.length - n + s.pool.shortfall :=
  s.grantOk_iff c n s.pool.freeList.length (s.pool.usageOf c)

/-- Settles O32: the grant test is R37's three conditions, with the other ports' unmet reserves summed over those not in
OFF. -/
theorem grantNeedsThreeConditions : Obligations.GrantNeedsThreeConditions := by
  intro s c n
  rw [State.grants_iff, State.unmetOthers_eq_sum]

end Sys2Proof.Machine
end

section
/-! SUPPORT. What the write of a visit leaves in the soft store, and the statement about it (spec/03 R60, R63, R64, R70). -/

namespace Sys2Proof.Machine

@[simp] theorem Memory.readRange_length (m : List Host.Cell) (a n : Nat) : (Memory.readRange m a n).length = n := by
  simp [Memory.readRange]

theorem Memory.readRange_getElem? (m : List Host.Cell) (a n i : Nat) (hi : i < n) :
    (Memory.readRange m a n)[i]? = some (Memory.read m (a + i)) := by
  simp [Memory.readRange, hi]

/-- R63's sum as a signed number: the bounds of the clamp lie inside a byte, so nothing wraps. -/
theorem addSoft_toInt (stored staged : Byte) :
    (addSoft stored staged).toInt = max (-127) (min 127 (stored.toInt + stagedValue staged)) := by
  simp only [addSoft]
  exact BitVec.toInt_ofInt_eq_self (by decide) (by omega) (by omega)

/-- Inside the visit: the cell of value v.first + i holds its old value plus the staged one. -/
theorem Memory.read_addVisit (m : List Host.Cell) (pg : Page) (v : Visit) (staged : List Byte) (i : Nat) (value : Byte)
    (hi : i < v.length) (hv : staged[v.first + i]? = some value) :
    Memory.read (Memory.addVisit m pg v staged) (pageBase pg + v.position % Config.pageValues + i) =
      addSoft (Memory.read m (pageBase pg + v.position % Config.pageValues + i)) value := by
  have taken : ((staged.drop v.first).take v.length)[i]? = some value := by
    rw [List.getElem?_take_of_lt hi, List.getElem?_drop, hv]
  have sum : (List.zipWith addSoft
      (Memory.readRange m (pageBase pg + v.position % Config.pageValues) v.length)
      ((staged.drop v.first).take v.length))[i]? =
      some (addSoft (Memory.read m (pageBase pg + v.position % Config.pageValues + i)) value) := by
    rw [List.getElem?_zipWith, Memory.readRange_getElem? _ _ _ _ hi, taken]
  obtain ⟨inside, -⟩ := List.getElem?_eq_some_iff.1 sum
  simp only [Memory.addVisit]
  rw [Memory.read_written _ _ _ _ (by omega) (by omega), Nat.add_sub_cancel_left, List.getD_eq_getElem?_getD, sum,
    Option.getD_some]

/-- Outside the visit the store reads as before, also where the staged values run short. -/
theorem Memory.read_addVisit_outside (m : List Host.Cell) (pg : Page) (v : Visit) (staged : List Byte) (a : Nat)
    (h : a < pageBase pg + v.position % Config.pageValues ∨
      pageBase pg + v.position % Config.pageValues + v.length ≤ a) :
    Memory.read (Memory.addVisit m pg v staged) a = Memory.read m a := by
  refine Memory.read_unwritten _ _ _ _ ?_
  simp only [List.length_zipWith, Memory.readRange_length]
  omega

/-- R69 and R70: the engine works while no page has been found damaged and no abort has reached its boundary. -/
theorem Combine.working_iff (c : Combine) : c.working = true ↔ c.damaged = [] ∧ c.atBoundary = false := by
  simp [Combine.working]

/-- VISIT_WRITE_END when the first unwritten visit has its page read and checked: the store and the combine record
change, each by its own function. -/
theorem execVisitWriteEnd_of_checked {s : State} {c : Combine} {v : Visit} {pg : Page}
    (hc : s.engine.combine = some c)
    (hv : (c.visits (s.ctx c.entry).L)[c.written (s.ctx c.entry).L]? = some v)
    (hpg : v.page? (s.ctx c.entry).pages = some pg) (adding : c.phase = .adding) (working : c.working = true)
    (checked : c.written (s.ctx c.entry).L < c.readsEnded) :
    execVisitWriteEnd s =
      .next ((s.setStore (Memory.addVisit s.store pg v ((s.port c.port).buf c.buffer).values)).setCombine
        (some (c.visited (s.ctx c.entry).L (s.ctx c.entry).pages v))) := by
  simp only [execVisitWriteEnd, hc, hv, hpg]
  exact if_pos ⟨adding, working, checked⟩

/-- Settles O42: the step is the visit's addition in the store with the page boundary in the combine record, and the
addition is read back byte by byte, inside the visit and outside it. -/
theorem visitWriteAddsTheValues : Obligations.VisitWriteAddsTheValues := by
  intro s c x v pg staged base hc hx hv hpg adding undamaged going checked hstaged hbase
  subst hx hstaged hbase
  have working : c.working = true := c.working_iff.2 ⟨undamaged, going⟩
  refine ⟨_, execVisitWriteEnd_of_checked hc hv hpg adding working checked, ?_, ?_, rfl⟩
  · intro i value hi hvalue
    exact (congrArg BitVec.toInt (Memory.read_addVisit s.store pg v _ i value hi hvalue)).trans (addSoft_toInt _ value)
  · exact fun a ha => Memory.read_addVisit_outside s.store pg v _ a ha

end Sys2Proof.Machine
end

section
/-! SUPPORT. What a tick does to each field of the Expiry Unit, and the statement about it (spec/06 R116). -/

namespace Sys2Proof.Machine

/-- R116: the clock counts mod 2^32, so that it passes from 2^32 - 1 to 0 like any other step. -/
@[simp] theorem ExpiryUnit.ticked_clock_toNat (x : ExpiryUnit) :
    x.ticked.clock.toNat = (x.clock.toNat + 1) % 2 ^ 32 :=
  BitVec.toNat_add x.clock 1

@[simp] theorem ExpiryUnit.ticked_elapsed (x : ExpiryUnit) : x.ticked.elapsed = 0 := rfl

@[simp] theorem ExpiryUnit.ticked_period (x : ExpiryUnit) : x.ticked.period = x.timebase := rfl

@[simp] theorem ExpiryUnit.ticked_timebase (x : ExpiryUnit) : x.ticked.timebase = x.timebase := rfl

@[simp] theorem ExpiryUnit.ticked_list (x : ExpiryUnit) : x.ticked.list = x.list := rfl

/-- TICK reaches the Expiry Unit alone, whatever the elapsed count stands at (log entry 5). -/
theorem exec_tick (s : State) : exec .tick s = .next (s.setExpiry s.expiry.ticked) := rfl

/-- Settles O52: the Expiry Unit after the tick is `ExpiryUnit.ticked` of the one before it, read field by field. -/
theorem tickAdvancesTheClock : Obligations.TickAdvancesTheClock := by
  intro s
  exact ⟨s.expiry.ticked, exec_tick s, s.expiry.ticked_clock_toNat, s.expiry.ticked_elapsed, s.expiry.ticked_period,
    s.expiry.ticked_timebase, s.expiry.ticked_list⟩

end Sys2Proof.Machine
end

section
/-! SUPPORT. Which slot a write at RETURN_SLOT returns and what the write leaves, and the statement about it (spec/08
R167). -/

namespace Sys2Proof.Machine

theorem isFull_iff (w : WriteBurst) : isFull w = true ↔ FullWrite w := by
  simp only [isFull, FullWrite, allLanes, Bool.and_eq_true, beq_iff_eq]

theorem State.busAnswer_eq (s : State) (p : PortId) (data : List Word64) :
    s.busAnswer p data = s.setPort p (Port.okay data (s.port p)) := rfl

/-- The bus answers a freed slot's port in the port's own record, beside the dispatch opportunity. -/
theorem State.busAnswer_setOutSlot_setOpportunity (s : State) (p : PortId) (i : SlotId) (x : OutSlot) (b : Bool)
    (data : List Word64) :
    ((s.setOutSlot p i x).setOpportunity b).busAnswer p data =
      (s.setPort p (Port.okay data ((s.port p).setOutSlot i x))).setOpportunity b := by
  simp only [State.busAnswer_eq, State.setOutSlot, State.onPort_eq, State.setOpportunity_port, State.setPort_port_same,
    State.setOpportunity_setPort, State.setPort_setPort]

/-- R167: a number above 3 names no slot, and a FREE or RESERVED slot is not returned. -/
theorem Port.heldSlot?_eq_some_iff (q : Port) (v : Nat) (i : SlotId) :
    q.heldSlot? v = some i ↔ v = i.val ∧ ∃ payload, q.outSlot i = .held payload := by
  unfold Port.heldSlot?
  constructor
  · intro h
    split at h
    next hv =>
      split at h
      next payload held =>
        obtain rfl := Option.some.inj h
        exact ⟨rfl, payload, held⟩
      next => exact nomatch h
      next => exact nomatch h
    next => exact nomatch h
  · rintro ⟨rfl, payload, held⟩
    simp only [i.isLt, dif_pos, held]

/-- R167: the port's state and the write's form decide whether the write is taken, and then the named slot must be
HELD. -/
theorem Port.returned?_eq_some_iff (q : Port) (w : WriteBurst) (i : SlotId) :
    q.returned? w = some i ↔
      (q.state = .active ∨ q.state = .draining) ∧ FullWrite w ∧ w.data.toNat = i.val ∧
        ∃ payload, q.outSlot i = .held payload := by
  rw [← isFull_iff, ← Port.heldSlot?_eq_some_iff]
  unfold Port.returned?
  cases q.state with
  | off => simp
  | active => simp
  | draining => simp
  | resetting target => simp

theorem exec_returnSlot (p : PortId) (w : WriteBurst) (s : State) :
    exec (.returnSlot p w) s = execReturnSlot p w s := rfl

theorem exec_returnSlot_of_returned {s : State} {p : PortId} {w : WriteBurst} {i : SlotId}
    (h : (s.port p).returned? w = some i) :
    exec (.returnSlot p w) s =
      .next ((s.setPort p (Port.okay [] ((s.port p).setOutSlot i .free))).setOpportunity true) := by
  simp only [exec_returnSlot, execReturnSlot, h, State.busAnswer_setOutSlot_setOpportunity]

theorem exec_returnSlot_of_not_returned {s : State} {p : PortId} {w : WriteBurst}
    (h : (s.port p).returned? w = none) :
    exec (.returnSlot p w) s = .next (s.setPort p (Port.okay [] (s.port p))) := by
  simp only [exec_returnSlot, execReturnSlot, h, State.busAnswer_eq]

/-- Settles O20: a write either returns the HELD slot it names, or returns no slot, by `Port.returned?_eq_some_iff`. -/
theorem returnSlotFreesAHeldSlot : Obligations.ReturnSlotFreesAHeldSlot := by
  rintro p w s q rfl
  refine ⟨fun i payload taking full names held => ?_, fun ignored => ?_⟩
  · exact exec_returnSlot_of_returned
      ((Port.returned?_eq_some_iff _ w i).2 ⟨taking, full, names, payload, held⟩)
  · refine exec_returnSlot_of_not_returned (Option.eq_none_iff_forall_ne_some.2 fun i returned => ?_)
    obtain ⟨taking, full, names, payload, held⟩ := (Port.returned?_eq_some_iff _ w i).1 returned
    exact ignored i payload taking full names held

end Sys2Proof.Machine
end

section
/-! SUPPORT. What almost every operation leaves as it was: the soft store, the Geometry Table, the queue of waiting
commands, the profiles, and what a decode computes on. The laws about the first four and about extrinsic values rest on it. -/

namespace Sys2Proof.Machine

/-! ### The profile of a port under the operations on ports -/

@[simp] theorem Port.refill_profile (q : Port) : q.refill.profile = q.profile := by
  unfold Port.refill
  split
  · rfl
  · split_ifs <;> rfl

@[simp] theorem Port.setBuf_profile (b : BufId) (x : Buffer) (q : Port) : (q.setBuf b x).profile = q.profile := by
  cases b <;> rfl

@[simp] theorem Port.freeBuffer_profile (b : BufId) (q : Port) : (q.freeBuffer b).profile = q.profile := by
  simp [Port.freeBuffer]

@[simp] theorem Port.cleared_profile (v : ResetTarget) (q : Port) : (q.cleared v).profile = q.profile := by
  simp [Port.cleared, Port.resetBuffers]

@[simp] theorem Port.appendDescriptor_profile (d : Descriptor) (q : Port) :
    (q.appendDescriptor d).profile = q.profile := by
  unfold Port.appendDescriptor
  split_ifs
  · rfl
  · split <;> simp

@[simp] theorem Port.writeSubmit_profile (w : WriteBurst) (q : Port) : (q.writeSubmit w).profile = q.profile := by
  unfold Port.writeSubmit
  split
  · rfl
  · split_ifs
    · unfold Port.takeWord; split_ifs <;> simp
    · rfl
  · rfl
  · rfl

@[simp] theorem Port.writeSoft_profile (w : WriteBurst) (q : Port) : (q.writeSoft w).profile = q.profile := by
  unfold Port.writeSoft
  split
  · rfl
  · split_ifs
    · unfold Port.takeSoft
      split
      · rfl
      · split_ifs <;> simp
    · rfl
  · rfl
  · rfl

/-! ### The frame -/

/-- Two records of a decode compute on the same values with the same weights. -/
structure Job.SameValues (j k : Job) : Prop where
  size : k.K = j.K
  extrinsic : k.extrinsic = j.extrinsic
  damping : k.damping = j.damping

/-- Every decode of the second is one of the first, with its values. -/
def Units.KeepValues (us vs : Units) : Prop := ∀ u k, vs.job u = some k → ∃ j, us.job u = some j ∧ j.SameValues k

theorem Units.KeepValues.refl (us : Units) : us.KeepValues us := fun _ k h => ⟨k, h, rfl, rfl, rfl⟩

theorem Units.KeepValues.trans {us vs ws : Units} (h : us.KeepValues vs) (g : vs.KeepValues ws) : us.KeepValues ws := by
  intro u l hl
  obtain ⟨k, hk, kK, kx, kd⟩ := g u l hl
  obtain ⟨j, hj, jK, jx, jd⟩ := h u k hk
  exact ⟨j, hj, kK.trans jK, kx.trans jx, kd.trans jd⟩

theorem Units.job_map (us : Units) (f : Job → Job) (u : UnitId) : (us.map f).job u = (us.job u).map f := by
  cases us <;> cases u <;> rfl

theorem Units.isPaired_map (us : Units) (f : Job → Job) : (us.map f).isPaired = us.isPaired := by
  cases us <;> rfl

/-- The decode on a unit ends for that unit, or for both of a pair. -/
theorem Units.job_clear (us : Units) (u v : UnitId) :
    (us.clear u).job v = if us.isPaired = true ∨ v = u then none else us.job v := by
  cases us <;> cases u <;> cases v <;> rfl

theorem Units.job_setJob (us : Units) (u v : UnitId) (j : Job) :
    (us.setJob u j).job v = if us.isPaired = true ∨ v = u then some j else us.job v := by
  cases us <;> cases u <;> cases v <;> rfl

/-- For a pair both units show the one decode. -/
theorem Units.job_of_paired {us : Units} (h : us.isPaired = true) (u v : UnitId) : us.job u = us.job v := by
  cases us with
  | apart a b => exact nomatch h
  | paired j => cases u <;> cases v <;> rfl

theorem Units.keepValues_map (us : Units) (f : Job → Job) (h : ∀ j : Job, j.SameValues (f j)) : us.KeepValues (us.map f) := by
  intro u k hk
  rw [Units.job_map, Option.map_eq_some_iff] at hk
  obtain ⟨j, hj, rfl⟩ := hk
  exact ⟨j, hj, h j⟩

theorem Units.keepValues_clear (us : Units) (u : UnitId) : us.KeepValues (us.clear u) := by
  intro v k hk
  rw [Units.job_clear] at hk
  split_ifs at hk
  exact ⟨k, hk, rfl, rfl, rfl⟩

theorem Units.keepValues_setJob {us : Units} {u : UnitId} {j k : Job} (hj : us.job u = some j) (h : j.SameValues k) :
    us.KeepValues (us.setJob u k) := by
  intro v l hl
  rw [Units.job_setJob] at hl
  split_ifs at hl with same
  · cases hl
    refine ⟨j, ?_, h⟩
    rcases same with paired | rfl
    · rw [Units.job_of_paired paired v u, hj]
    · exact hj
  · exact ⟨l, hl, rfl, rfl, rfl⟩

/-- The soft store, the Geometry Table, the waiting commands and every profile are the same, and no decode has begun or
computed. -/
structure State.SameBase (s t : State) : Prop where
  store : t.store = s.store
  geometry : t.geometry = s.geometry
  pending : t.pending = s.pending
  profile : ∀ p, (t.port p).profile = (s.port p).profile
  units : s.units.KeepValues t.units

namespace State.SameBase

variable {s t : State}

theorem refl (s : State) : s.SameBase s := ⟨rfl, rfl, rfl, fun _ => rfl, .refl _⟩

/-! Each update after a frame. -/

theorem setCtx (h : s.SameBase t) (e : Entry) (c : Context) : s.SameBase (t.setCtx e c) := ⟨h.1, h.2, h.3, h.4, h.5⟩

theorem setPool (h : s.SameBase t) (pl : Pool) : s.SameBase (t.setPool pl) := ⟨h.1, h.2, h.3, h.4, h.5⟩

theorem setEngine (h : s.SameBase t) (en : Engine) : s.SameBase (t.setEngine en) := ⟨h.1, h.2, h.3, h.4, h.5⟩

theorem setDispatcher (h : s.SameBase t) (d : Dispatcher) : s.SameBase (t.setDispatcher d) := ⟨h.1, h.2, h.3, h.4, h.5⟩

theorem setOpportunity (h : s.SameBase t) (b : Bool) : s.SameBase (t.setOpportunity b) := ⟨h.1, h.2, h.3, h.4, h.5⟩

theorem setExpiry (h : s.SameBase t) (x : ExpiryUnit) : s.SameBase (t.setExpiry x) := ⟨h.1, h.2, h.3, h.4, h.5⟩

theorem setLink (h : s.SameBase t) (l : Link) : s.SameBase (t.setLink l) := ⟨h.1, h.2, h.3, h.4, h.5⟩

theorem setUnits (h : s.SameBase t) {us : Units} (keep : t.units.KeepValues us) : s.SameBase (t.setUnits us) :=
  ⟨h.1, h.2, h.3, h.4, h.units.trans keep⟩

theorem onPort (h : s.SameBase t) (p : PortId) {f : Port → Port} (keep : ∀ q, (f q).profile = q.profile := by intro; rfl) :
    s.SameBase (t.onPort p f) := by
  refine ⟨h.1, h.2, h.3, fun r => ?_, h.5⟩
  rw [State.onPort_port]
  split_ifs with same
  · exact same ▸ (keep _).trans (h.profile p)
  · exact h.profile r

theorem setCounters (h : s.SameBase t) (p : PortId) (k : Counters) : s.SameBase (t.setCounters p k) := h.setLink _

theorem setCauses (h : s.SameBase t) (p : PortId) (k : Causes) : s.SameBase (t.setCauses p k) := h.setLink _

/-! Each shared operation after a frame. -/

theorem giveBack (h : s.SameBase t) (p : PortId) (l : List Page) (n : Nat) : s.SameBase (t.giveBack p l n) := h.setPool _

theorem signal (h : s.SameBase t) (p : PortId) (tag : Tag) : s.SameBase (t.signal p tag) := h.onPort p

theorem freeContext (h : s.SameBase t) (e : Entry) : s.SameBase (t.freeContext e) := (h.setCtx e _).signal _ _

theorem releasePages (h : s.SameBase t) (e : Entry) : s.SameBase (t.releasePages e) := (h.giveBack _ _ _).freeContext e

theorem closeDamaged (h : s.SameBase t) (e : Entry) (report : List Page) : s.SameBase (t.closeDamaged e report) :=
  ((h.setPool _).giveBack _ _ _).freeContext e

theorem post (h : s.SameBase t) (p : PortId) (a : Answer) : s.SameBase (t.post p a) := h.onPort p

theorem postReserved (h : s.SameBase t) (p : PortId) (a : Answer) : s.SameBase (t.postReserved p a) := h.onPort p

theorem reserve (h : s.SameBase t) (p : PortId) : s.SameBase (t.reserve p) := h.onPort p

theorem expiryInsert (h : s.SameBase t) (e : Entry) : s.SameBase (t.expiryInsert e) := h.setExpiry _

theorem expiryRemove (h : s.SameBase t) (e : Entry) : s.SameBase (t.expiryRemove e) := h.setExpiry _

theorem enterHeld (h : s.SameBase t) (e : Entry) : s.SameBase (t.enterHeld e) := (h.setCtx e _).expiryInsert e

theorem enterSolved (h : s.SameBase t) (e : Entry) : s.SameBase (t.enterSolved e) := (h.setCtx e _).expiryInsert e

theorem endHeld (h : s.SameBase t) (k : NoticeKind) (e : Entry) : s.SameBase (t.endHeld k e) := by
  simp only [State.endHeld]
  have back := (h.expiryRemove e).giveBack (t.ctx e).port (t.ctx e).pages (t.ctx e).pageCount
  split_ifs
  · exact (back.post _ _).freeContext e
  · exact (back.setCtx e _).onPort _
  · exact h

theorem endTombstone (h : s.SameBase t) (e : Entry) : s.SameBase (t.endTombstone e) := by
  unfold State.endTombstone
  split_ifs
  · exact (h.expiryRemove e).freeContext e
  · exact h

theorem freeBuffer (h : s.SameBase t) (p : PortId) (b : BufId) : s.SameBase (t.freeBuffer p b) := h.onPort p (by simp)

theorem setOutSlot (h : s.SameBase t) (p : PortId) (i : SlotId) (x : OutSlot) : s.SameBase (t.setOutSlot p i x) :=
  h.onPort p

theorem dispatchAppend (h : s.SameBase t) (p : PortId) (e : Entry) : s.SameBase (t.dispatchAppend p e) :=
  (h.setDispatcher _).setOpportunity _

theorem dispatchRemove (h : s.SameBase t) (p : PortId) (e : Entry) : s.SameBase (t.dispatchRemove p e) := by
  unfold State.dispatchRemove
  have gone := h.setDispatcher { t.dispatcher with
    queues := t.dispatcher.queues.set p.val ((t.dispatchQueue p).erase e) p.isLt }
  split_ifs
  · exact (gone.setDispatcher _).setOpportunity _
  · exact gone

theorem abandonEntry (h : s.SameBase t) (e : Entry) : s.SameBase (t.abandonEntry e) :=
  h.setUnits (Units.keepValues_map _ _ fun j => by split_ifs <;> exact ⟨rfl, rfl, rfl⟩)

theorem abandonPort (h : s.SameBase t) (p : PortId) : s.SameBase (t.abandonPort p) :=
  h.setUnits (Units.keepValues_map _ _ fun j => by split_ifs <;> exact ⟨rfl, rfl, rfl⟩)

theorem endContexts (h : s.SameBase t) (p : PortId) (k : CtxState → Bool) : s.SameBase (t.endContexts p k) := by
  have ended : s.SameBase { t with
      contexts := t.contexts.map fun c => if c.port = p ∧ c.state ≠ .free ∧ k c.state then Context.free else c } :=
    ⟨h.1, h.2, h.3, h.4, h.5⟩
  simp only [State.endContexts]
  exact ((ended.giveBack p _ _).setExpiry _).onPort p

theorem closeDrain (h : s.SameBase t) (p : PortId) : s.SameBase (t.closeDrain p) :=
  (((h.endContexts p _).onPort p).setCauses p _).setOpportunity _

theorem endReset (h : s.SameBase t) (p : PortId) (v : ResetTarget) : s.SameBase (t.endReset p v) := by
  cases v with
  | active => exact ((h.onPort p).setCauses p _).setOpportunity _
  | off => exact ((h.onPort p).setCauses p _).setOpportunity _

theorem settle (h : s.SameBase t) (p : PortId) : s.SameBase (t.settle p) := by
  unfold State.settle
  split
  · exact h
  · exact h
  · split_ifs
    · exact h.closeDrain p
    · exact h
  · split_ifs
    · exact h
    · exact h.endReset p _

theorem startReset (h : s.SameBase t) (p : PortId) (v : ResetTarget) : s.SameBase (t.startReset p v) :=
  (((((((h.endContexts p _).onPort p (Port.cleared_profile v)).setDispatcher _).setDispatcher _).setOpportunity
    _).setEngine _).abandonPort p).settle p

theorem portReset (h : s.SameBase t) {p : PortId} {u : State} (start : t.portReset p = some u) : s.SameBase u := by
  unfold State.portReset at start
  split at start
  · cases start; exact h.startReset p _
  · cases start; exact h.startReset p _
  · cases start
  · cases start

theorem busAnswer (h : s.SameBase t) (p : PortId) (data : List Word64) : s.SameBase (t.busAnswer p data) :=
  h.onPort p

theorem popAnswer (h : s.SameBase t) (p : PortId) : s.SameBase (t.popAnswer p) := by
  unfold State.popAnswer
  have popped := h.onPort p (f := fun q => { q with answers := q.answers.tail })
  split
  · exact popped.onPort p
  · next rest _ =>
    have granted := popped.onPort p (f := fun q => { q with closing := rest })
    split_ifs
    · split
      · exact granted.freeContext _
      · exact (granted.post p _).freeContext _
    · exact granted

theorem answerFrame (h : s.SameBase t) (n : Nat) (code : Byte) (r : ResultCode) (data : List Byte) :
    s.SameBase (t.answerFrame n code r data) := h.setLink _

/-! The intake. -/

theorem disposeHead (h : s.SameBase t) (p : PortId) : s.SameBase (t.disposeHead p) := h.onPort p

theorem stall (h : s.SameBase t) (p : PortId) (i : IntakeState) : s.SameBase (t.stall p i) := h.onPort p

theorem countRefusal (h : s.SameBase t) (p : PortId) : s.SameBase (t.countRefusal p) := h.setCounters p _

theorem refuseHead (h : s.SameBase t) (p : PortId) (x : QueueEntry) (r : RefusalReason) : s.SameBase (t.refuseHead p x r) := by
  unfold State.refuseHead
  have refused := ((h.post p ⟨x.descriptor.tag, x.descriptor.cookie, .refused r⟩).disposeHead p).countRefusal p
  split
  · exact refused
  · exact refused.freeBuffer p _

theorem placeHead (h : s.SameBase t) (p : PortId) (r : Request) : s.SameBase (t.placeHead p r) :=
  ((h.reserve p).disposeHead p).onPort p

theorem tryAttempt (h : s.SameBase t) (p : PortId) (x : QueueEntry) : s.SameBase (t.tryAttempt p x) := by
  unfold State.tryAttempt
  split
  · exact h.refuseHead p x _
  · split_ifs
    · exact h.placeHead p _
    · exact h.stall p _

theorem withdraw (h : s.SameBase t) (p : PortId) (c : Context) : s.SameBase (t.withdraw p c) := by
  unfold State.withdraw
  split
  · exact h
  · exact h.postReserved p _

theorem release? (h : s.SameBase t) {p : PortId} {d : Descriptor} {u : State} (taken : t.release? p d = some u) :
    s.SameBase u := by
  unfold State.release? at taken
  split at taken
  · cases taken; exact h.postReserved p _
  · next e _ =>
    dsimp only at taken
    split at taken
    · cases taken; exact ((h.expiryRemove e).releasePages e).postReserved p _
    · cases taken; exact ((h.expiryRemove e).freeContext e).postReserved p _
    · cases taken; exact (((h.dispatchRemove p e).withdraw p _).releasePages e).postReserved p _
    · split at taken
      · cases taken; exact h.setCtx e _
      · cases taken
    · split at taken
      · cases taken; exact (h.setCtx e _).abandonEntry e
      · cases taken
    · cases taken
    · cases taken

theorem handRelease (h : s.SameBase t) (p : PortId) (d : Descriptor) : s.SameBase (t.handRelease p d) := by
  unfold State.handRelease
  have reserved : s.SameBase (if (t.port p).headReserved then t else t.reserve p) := by
    split_ifs
    · exact h
    · exact h.reserve p
  dsimp only
  split
  · next u taken => exact (reserved.release? taken).disposeHead p
  · exact (reserved.onPort p).stall p _

theorem handQuery (h : s.SameBase t) (p : PortId) (d : Descriptor) : s.SameBase (t.handQuery p d) :=
  ((h.reserve p).postReserved p _).disposeHead p

theorem tryHead (h : s.SameBase t) (p : PortId) (x : QueueEntry) : s.SameBase (t.tryHead p x) := by
  unfold State.tryHead
  split
  · exact h.stall p _
  · split
    · exact h.tryAttempt p x
    · exact h.tryAttempt p x
    · split
      · exact h.stall p _
      · exact h.handRelease p _
    · split
      · exact h.stall p _
      · exact h.handQuery p _

/-! Selection and admission. -/

theorem answerUncombined (h : s.SameBase t) (p : PortId) (r : Request) (body : AnswerBody) :
    s.SameBase (t.answerUncombined p r body) := (h.postReserved p _).freeBuffer p _

theorem refuseUncombined (h : s.SameBase t) (p : PortId) (r : Request) (why : RefusalReason) :
    s.SameBase (t.refuseUncombined p r why) := (h.answerUncombined p r _).countRefusal p

theorem beginCombine (h : s.SameBase t) (p : PortId) (e : Entry) (r : Request) (fresh : Bool) :
    s.SameBase (t.beginCombine p e r fresh) :=
  ((h.setEngine _).onPort p (Port.setBuf_profile _ _)).setCounters p _

theorem evictTombstones (p : PortId) (es : List Entry) (h : s.SameBase t) : s.SameBase (t.evictTombstones p es) := by
  induction es generalizing t with
  | nil => exact h
  | cons e es ih =>
    unfold State.evictTombstones
    split_ifs
    · exact h
    · exact ih (h.endTombstone e)

theorem evictForEntry (p : PortId) (es : List Entry) (h : s.SameBase t) : s.SameBase (t.evictForEntry p es) := by
  induction es generalizing t with
  | nil => exact h
  | cons e es ih =>
    unfold State.evictForEntry
    split_ifs
    · exact h
    · exact ih ((h.endHeld .evicted e).setCounters p _)

theorem evictForPages (p : PortId) (n : Nat) (es : List Entry) (h : s.SameBase t) : s.SameBase (t.evictForPages p n es) := by
  induction es generalizing t with
  | nil => exact h
  | cons e es ih =>
    unfold State.evictForPages
    split_ifs
    · exact h
    · exact ih ((h.endHeld .evicted e).setCounters p _)

theorem relieveEntries (h : s.SameBase t) (p : PortId) : s.SameBase (t.relieveEntries p) := by
  unfold State.relieveEntries
  split
  · exact h
  · exact evictForEntry p _ (evictTombstones p _ h)

theorem relievePages (h : s.SameBase t) (p : PortId) (n : Nat) : s.SameBase (t.relievePages p n) := by
  unfold State.relievePages
  split
  · exact h
  · split_ifs
    · exact evictForPages p n _ h
    · exact h

theorem openWithPages (h : s.SameBase t) (p : PortId) (r : Request) (g : GeometryEntry) :
    s.SameBase (t.openWithPages p r g) := by
  simp only [State.openWithPages]
  generalize pagesFor (recordLength g.K) = n
  have relieved : s.SameBase (if t.grants p n then t else t.relievePages p n) := by
    split_ifs
    · exact h
    · exact h.relievePages p _
  generalize (if t.grants p n then t else t.relievePages p n) = u at relieved ⊢
  split_ifs
  · split
    · exact relieved.refuseUncombined p r _
    · exact ((relieved.setPool _).setCtx _ _).beginCombine p _ r _
  · exact relieved.refuseUncombined p r _

theorem openNew (h : s.SameBase t) (p : PortId) (r : Request) : s.SameBase (t.openNew p r) := by
  unfold State.openNew
  split
  · exact h.refuseUncombined p r _
  · have relieved : s.SameBase (if t.entryAvailable p then t else t.relieveEntries p) := by
      split_ifs
      · exact h
      · exact h.relieveEntries p
    simp only
    generalize (if t.entryAvailable p then t else t.relieveEntries p) = u at relieved ⊢
    split_ifs
    · exact relieved.openWithPages p r _
    · exact relieved.refuseUncombined p r _

theorem continueHeld (h : s.SameBase t) (p : PortId) (e : Entry) (r : Request) : s.SameBase (t.continueHeld p e r) :=
  ((h.expiryRemove e).setCtx e _).beginCombine p e r _

theorem supersede (h : s.SameBase t) (p : PortId) (c : Context) (r : Request) : s.SameBase (t.supersede p c r) := by
  unfold State.supersede
  split
  · exact h.postReserved p _
  · exact h
  · exact h

theorem mergeQueued (h : s.SameBase t) (p : PortId) (e : Entry) (r : Request) : s.SameBase (t.mergeQueued p e r) :=
  (((h.dispatchRemove p e).supersede p _ r).setCtx e _).beginCombine p e r _

theorem admitAttempt (h : s.SameBase t) (p : PortId) (r : Request) : s.SameBase (t.admitAttempt p r) := by
  unfold State.admitAttempt
  split
  · exact h.openNew p r
  · dsimp only
    split
    · exact h.refuseUncombined p r _
    · split
      · exact h.answerUncombined p r _
      · split
        · exact h.answerUncombined p r _
        · exact h.continueHeld p _ r
      · split
        · exact h.answerUncombined p r _
        · exact h.mergeQueued p _ r
      all_goals exact h

theorem scanSlots (ps : List PortId) (h : s.SameBase t) : s.SameBase (State.scanSlots ps t).1 := by
  induction ps generalizing t with
  | nil => exact h
  | cons p ps ih =>
    unfold State.scanSlots
    split
    · exact ih h
    · exact ih h
    · split_ifs
      · exact ih (h.onPort p)
      · exact h

theorem takeSlot (h : s.SameBase t) (p : PortId) : s.SameBase (t.takeSlot p) := (h.onPort p).setEngine _

/-! Ends of a combine and of a decode. -/

theorem endCombine (h : s.SameBase t) (c : Combine) : s.SameBase (t.endCombine c) := (h.setEngine _).freeBuffer _ _

theorem answerStored (h : s.SameBase t) (c : Combine) (x : Context) : s.SameBase (t.answerStored c x) := by
  unfold State.answerStored
  split
  · exact h.postReserved _ _
  · exact h

theorem answerRelease (h : s.SameBase t) (x : Context) (st : CtxState) : s.SameBase (t.answerRelease x st) := by
  unfold State.answerRelease
  split
  · exact h
  · exact h.postReserved _ _

theorem answerCombineDamage (h : s.SameBase t) (c : Combine) (x : Context) : s.SameBase (t.answerCombineDamage c x) := by
  unfold State.answerCombineDamage
  have first := h.postReserved x.port ⟨x.tag, c.cookie, .damaged⟩
  split
  · exact first.postReserved _ _
  · exact first
  · exact first

theorem leaveCombining (h : s.SameBase t) (c : Combine) (x : Context) : s.SameBase (t.leaveCombining c x) := by
  unfold State.leaveCombining
  split
  · exact (((h.withdraw _ _).answerStored c x).answerRelease x _).releasePages _
  · exact (((h.answerStored c x).setCtx _ _).dispatchAppend _ _).signal _ _
  · exact ((h.answerStored c x).enterHeld _).signal _ _

theorem freeDecode (h : s.SameBase t) (u : UnitId) (j : Job) (slot : OutSlot) : s.SameBase (t.freeDecode u j slot) :=
  ((h.setUnits (Units.keepValues_clear _ u)).setOutSlot _ _ _).setOpportunity _

theorem completeAbandoned (h : s.SameBase t) (u : UnitId) (j : Job) : s.SameBase (t.completeAbandoned u j) := by
  unfold State.completeAbandoned
  dsimp only
  split_ifs
  · exact ((h.freeDecode u j .free).releasePages _).settle _
  · exact ((((h.freeDecode u j .free).postReserved _ _).answerRelease _ _).releasePages _).settle _

theorem completePass (h : s.SameBase t) (u : UnitId) (j : Job) (bits : List Bool) (m z : Nat) :
    s.SameBase (t.completePass u j bits m z) := by
  unfold State.completePass
  dsimp only
  have passed := ((h.freeDecode u j (.held (payloadOf bits))).postReserved (t.ctx j.entry).port
    (decodedAnswer (t.ctx j.entry) j.cookie (.decoded .pass j.iteration (t.ctx j.entry).gap false j.slot.val (j.K / 8)
      m z))).setCounters (t.ctx j.entry).port
  split_ifs
  · exact ((passed _).releasePages _).settle _
  · exact ((((passed _).giveBack _ _ _).enterSolved _).signal _ _).settle _

theorem completeFail (h : s.SameBase t) (u : UnitId) (j : Job) (m z : Nat) : s.SameBase (t.completeFail u j m z) := by
  unfold State.completeFail
  dsimp only
  have failed := fun a => ((h.freeDecode u j .free).postReserved (t.ctx j.entry).port a).setCounters (t.ctx j.entry).port
  split_ifs
  · exact ((failed _ _).releasePages _).settle _
  · exact (((failed _ _).enterHeld _).signal _ _).settle _

end State.SameBase

end Sys2Proof.Machine
end

section
/-! SUPPORT. What each command leaves alone, and the statements that rest on it: every command answers a next state, and
every step keeps the form of the soft store and the range of the extrinsic values. -/

namespace Sys2Proof.Machine

/-- What holds of a state and is kept by a dispatch and by the entry into PAIR_WAIT holds after the scans of an
opportunity. -/
theorem State.scanOn_induction {P : State → Prop}
    (dispatch : ∀ s p e d slot a, s.evaluateHead p = .dispatched e d slot a → P s → P (s.dispatchHead p e d slot a))
    (wait : ∀ s p, s.evaluateHead p = .pairWait → P s → P (s.setDispatcher { s.dispatcher with mode := .pairWait p }))
    (fuel : Nat) (s : State) (h : P s) : P (s.scanOn fuel) := by
  induction fuel generalizing s with
  | zero => exact h
  | succ n ih =>
    rw [State.scanOn]
    rcases s.scanQueues_spec with ⟨-, hs⟩ | ⟨i, -, ⟨hv, hs⟩ | ⟨e, d, slot, a, hv, hs⟩⟩
    · rw [hs]; exact h
    · rw [hs]; exact wait s _ hv h
    · rw [hs]; exact ih _ (dispatch s _ e d slot a hv h)

/-- The same for all that the dispatcher does at an opportunity. -/
theorem State.handleOpportunity_induction {P : State → Prop}
    (dispatch : ∀ s p e d slot a, s.evaluateHead p = .dispatched e d slot a → P s → P (s.dispatchHead p e d slot a))
    (wait : ∀ s p, s.evaluateHead p = .pairWait → P s → P (s.setDispatcher { s.dispatcher with mode := .pairWait p }))
    (s : State) (h : P s) : P s.handleOpportunity := by
  unfold State.handleOpportunity
  split
  · exact State.scanOn_induction dispatch wait _ s h
  · unfold State.tryHeld
    split
    · next hv => exact State.scanOn_induction dispatch wait _ _ (dispatch s _ _ _ _ _ hv h)
    · exact h
    · exact h
    · exact h

/-- What holds of a state and is kept by each eviction holds after the relief of a shortage. -/
theorem State.evictForEntry_induction {P : State → Prop} (p : PortId)
    (held : ∀ s e, P s → P ((s.endHeld .evicted e).countEviction p)) (es : List Entry) (s : State) (h : P s) :
    P (s.evictForEntry p es) := by
  induction es generalizing s with
  | nil => exact h
  | cons e es ih =>
    unfold State.evictForEntry
    split_ifs
    · exact h
    · exact ih _ (held s e h)

/-! ### Commands -/

namespace State.SameBase

variable {s t : State}

theorem decideFrame (code : Byte) (f : Frame) (need : Nat) (owner : ResultCode × List Byte × State)
    (h : s.SameBase owner.2.2) : s.SameBase (s.decideFrame code f need owner) := by
  unfold State.decideFrame
  split_ifs
  · exact (refl s).answerFrame _ _ _ _
  · exact h.answerFrame _ _ _ _

theorem onPortArgument (f : Frame) (k : PortId → ResultCode × List Byte × State)
    (h : ∀ p, s.SameBase (k p).2.2) : s.SameBase (s.onPortArgument f k).2.2 := by
  unfold State.onPortArgument
  split
  · exact refl s
  · exact h _

theorem enablePort (p : PortId) : s.SameBase (s.enablePort p).2.2 := by
  unfold State.enablePort
  split_ifs
  · exact refl s
  · exact refl s
  · exact refl s
  · exact ((refl s).onPort p).setOpportunity _

theorem disablePort (p : PortId) : s.SameBase (s.disablePort p).2.2 := by
  unfold State.disablePort
  split_ifs
  · exact refl s
  · exact (((refl s).onPort p).setOpportunity _).settle p

theorem resetPort (p : PortId) : s.SameBase (s.resetPort p).2.2 := by
  unfold State.resetPort
  split
  · exact refl s
  · next start => exact (refl s).portReset start

theorem writeTimebase (n : Nat) : s.SameBase (s.writeTimebase n).2.2 := by
  unfold State.writeTimebase
  split_ifs
  · exact (refl s).setExpiry _
  · exact refl s

theorem deviceReset : s.SameBase s.deviceReset := by
  refine ⟨rfl, rfl, rfl, fun p => ?_, fun u k hk => ?_⟩
  · simp [State.deviceReset, State.port, Vector.get_eq_getElem, Port.offWith]
  · cases u <;> cases hk

theorem selfReset (w : WriteBurst) (p : PortId) :
    s.SameBase (if isFull w && w.data == 1 then (s.portReset p).getD s else s) := by
  split_ifs
  · cases start : s.portReset p with
    | none => exact refl s
    | some u => exact (refl s).portReset start
  · exact refl s

end State.SameBase

/-- The commands outside this frame: those that write the soft store, the Geometry Table or a profile, or that begin or
advance a decode, and power. -/
def computes : Instr → Bool
  | .clearPageEnd | .visitWriteEnd | .geometryWrite _ | .geometryDelete _ | .profileWrite _ | .dispatch
  | .halfIterationEnd _ | .iterationEnd _ | .powerOnReset => true
  | _ => false

theorem execReturnSlot_sameBase (p : PortId) (w : WriteBurst) (s : State) :
    ∃ t, execReturnSlot p w s = .next t ∧ s.SameBase t := by
  unfold execReturnSlot
  split
  · exact ⟨_, rfl, (State.SameBase.refl s).busAnswer p _⟩
  · exact ⟨_, rfl, (((State.SameBase.refl s).setOutSlot p _ _).setOpportunity _).busAnswer p _⟩

theorem execAnswer_sameBase (p : PortId) (beats : List Lanes) (s : State) :
    ∃ t, execAnswer p beats s = .next t ∧ s.SameBase t := by
  refine ⟨_, rfl, State.SameBase.busAnswer ?_ p _⟩
  split_ifs
  · exact (State.SameBase.refl s).popAnswer p
  · exact State.SameBase.refl s

theorem execIntakeTry_sameBase (p : PortId) (s : State) : ∃ t, execIntakeTry p s = .next t ∧ s.SameBase t := by
  unfold execIntakeTry
  split
  · exact ⟨_, rfl, .refl s⟩
  · split_ifs
    · exact ⟨_, rfl, ((State.SameBase.refl s).tryHead p _).settle p⟩
    · exact ⟨_, rfl, .refl s⟩

theorem execCombineSelection_sameBase (s : State) : ∃ t, execCombineSelection s = .next t ∧ s.SameBase t := by
  unfold execCombineSelection
  split
  · exact ⟨_, rfl, .refl s⟩
  · have scanned := State.SameBase.scanSlots (scanOrder s.engine.pointer) (.refl s)
    split
    · next t h => exact ⟨_, rfl, by rw [h] at scanned; exact scanned⟩
    · next t p r h => exact ⟨_, rfl, by rw [h] at scanned; exact ((scanned.takeSlot p).admitAttempt p r).settle p⟩

theorem execCombinePageReadEnd_sameBase (passed : Bool) (s : State) :
    ∃ t, execCombinePageReadEnd passed s = .next t ∧ s.SameBase t := by
  unfold execCombinePageReadEnd
  split
  · exact ⟨_, rfl, .refl s⟩
  · split
    · exact ⟨_, rfl, .refl s⟩
    · exact ⟨_, rfl, (State.SameBase.refl s).setEngine _⟩

theorem execCombineCompletion_sameBase (s : State) : ∃ t, execCombineCompletion s = .next t ∧ s.SameBase t := by
  unfold execCombineCompletion
  split
  · exact ⟨_, rfl, .refl s⟩
  · split_ifs
    · exact ⟨_, rfl, (((State.SameBase.refl s).leaveCombining _ _).endCombine _).settle _⟩
    · exact ⟨_, rfl, .refl s⟩

theorem execCombineDamage_sameBase (s : State) : ∃ t, execCombineDamage s = .next t ∧ s.SameBase t := by
  unfold execCombineDamage
  split
  · exact ⟨_, rfl, .refl s⟩
  · dsimp only
    split_ifs
    · exact ⟨_, rfl, (((State.SameBase.refl s).closeDamaged _ _).endCombine _).settle _⟩
    · exact ⟨_, rfl, (((((State.SameBase.refl s).answerCombineDamage _ _).answerRelease _ _).closeDamaged _ _).endCombine
        _).settle _⟩
    · exact ⟨_, rfl, .refl s⟩

theorem execCombineAbort_sameBase (s : State) : ∃ t, execCombineAbort s = .next t ∧ s.SameBase t := by
  unfold execCombineAbort
  split
  · exact ⟨_, rfl, .refl s⟩
  · split_ifs
    · exact ⟨_, rfl, (((State.SameBase.refl s).releasePages _).endCombine _).settle _⟩
    · exact ⟨_, rfl, .refl s⟩

theorem execDecodePageReadEnd_sameBase (u : UnitId) (passed : Bool) (s : State) :
    ∃ t, execDecodePageReadEnd u passed s = .next t ∧ s.SameBase t := by
  unfold execDecodePageReadEnd
  split
  · exact ⟨_, rfl, .refl s⟩
  · next j hj =>
    split
    · exact ⟨_, rfl, .refl s⟩
    · refine ⟨_, rfl, (State.SameBase.refl s).setUnits (Units.keepValues_setJob hj ?_)⟩
      cases s.units.part u <;> exact ⟨rfl, rfl, rfl⟩

theorem execDecodeDamage_sameBase (u : UnitId) (s : State) : ∃ t, execDecodeDamage u s = .next t ∧ s.SameBase t := by
  unfold execDecodeDamage
  split
  · exact ⟨_, rfl, .refl s⟩
  · next j hj =>
    dsimp only
    split_ifs
    · exact ⟨_, rfl, (((State.SameBase.refl s).freeDecode u j .free).closeDamaged _ _).settle _⟩
    · exact ⟨_, rfl, (((((State.SameBase.refl s).freeDecode u j .free).postReserved _ _).answerRelease _ _).closeDamaged
        _ _).settle _⟩
    · exact ⟨_, rfl, .refl s⟩

theorem execExpiryHeld_sameBase (s : State) : ∃ t, execExpiryHeld s = .next t ∧ s.SameBase t := by
  unfold execExpiryHeld
  split
  · exact ⟨_, rfl, .refl s⟩
  · split_ifs
    · exact ⟨_, rfl, ((State.SameBase.refl s).endHeld _ _).setCounters _ _⟩
    · exact ⟨_, rfl, .refl s⟩

theorem execExpiryTombstone_sameBase (s : State) : ∃ t, execExpiryTombstone s = .next t ∧ s.SameBase t := by
  unfold execExpiryTombstone
  split
  · exact ⟨_, rfl, .refl s⟩
  · split_ifs
    · exact ⟨_, rfl, (State.SameBase.refl s).endTombstone _⟩
    · exact ⟨_, rfl, .refl s⟩

theorem execGeometryRead_sameBase (f : Frame) (s : State) : ∃ t, execGeometryRead f s = .next t ∧ s.SameBase t := by
  refine ⟨_, rfl, .decideFrame _ _ _ _ ?_⟩
  split_ifs <;> exact .refl s

theorem execFrameRefused_sameBase (code : Option Byte) (f : Frame) (s : State) :
    ∃ t, execFrameRefused code f s = .next t ∧ s.SameBase t := by
  unfold execFrameRefused
  split
  · exact ⟨_, rfl, (State.SameBase.refl s).answerFrame _ _ _ _⟩
  · split
    · exact ⟨_, rfl, (State.SameBase.refl s).answerFrame _ _ _ _⟩
    · exact ⟨_, rfl, .refl s⟩

/-- What every other command leaves as it was. -/
theorem exec_sameBase (c : Instr) (s : State) (h : computes c = false) : ∃ t, exec c s = .next t ∧ s.SameBase t := by
  have same := State.SameBase.refl s
  cases c with
  | submit p w => exact ⟨_, rfl, (same.onPort p (Port.writeSubmit_profile w)).busAnswer p _⟩
  | softData p w => exact ⟨_, rfl, (same.onPort p (Port.writeSoft_profile w)).busAnswer p _⟩
  | returnSlot p w => exact execReturnSlot_sameBase p w s
  | selfReset p w => exact ⟨_, rfl, (State.SameBase.selfReset w p).busAnswer p _⟩
  | answer p beats => exact execAnswer_sameBase p beats s
  | status p lanes later => exact ⟨_, rfl, (same.onPort p).busAnswer p _⟩
  | unmappedWrite p a => exact ⟨_, rfl, same.busAnswer p _⟩
  | intakeTry p => exact execIntakeTry_sameBase p s
  | combineSelection => exact execCombineSelection_sameBase s
  | combinePageReadEnd passed => exact execCombinePageReadEnd_sameBase passed s
  | combineCompletion => exact execCombineCompletion_sameBase s
  | combineDamage => exact execCombineDamage_sameBase s
  | combineAbort => exact execCombineAbort_sameBase s
  | decodePageReadEnd u passed => exact execDecodePageReadEnd_sameBase u passed s
  | decodeDamage u => exact execDecodeDamage_sameBase u s
  | tick => exact ⟨_, rfl, same.setExpiry _⟩
  | expiryHeld => exact execExpiryHeld_sameBase s
  | expiryTombstone => exact execExpiryTombstone_sameBase s
  | statusRead f => exact ⟨_, rfl, .decideFrame _ _ _ _ (same.setLink _)⟩
  | profileRead f => exact ⟨_, rfl, .decideFrame _ _ _ _ (.onPortArgument _ _ fun _ => same)⟩
  | geometryRead f => exact execGeometryRead_sameBase f s
  | portEnable f => exact ⟨_, rfl, .decideFrame _ _ _ _ (.onPortArgument _ _ .enablePort)⟩
  | portDisable f => exact ⟨_, rfl, .decideFrame _ _ _ _ (.onPortArgument _ _ .disablePort)⟩
  | portReset f => exact ⟨_, rfl, .decideFrame _ _ _ _ (.onPortArgument _ _ .resetPort)⟩
  | deviceReset f => exact ⟨_, rfl, .decideFrame _ _ _ _ .deviceReset⟩
  | timebaseWrite f => exact ⟨_, rfl, .decideFrame _ _ _ _ (.writeTimebase _)⟩
  | poolRead f => exact ⟨_, rfl, .decideFrame _ _ _ _ same⟩
  | contextRead f => exact ⟨_, rfl, .decideFrame _ _ _ _ same⟩
  | countersRead f => exact ⟨_, rfl, .decideFrame _ _ _ _ (.onPortArgument _ _ fun _ => same)⟩
  | countersClear f => exact ⟨_, rfl, .decideFrame _ _ _ _ (.onPortArgument _ _ fun _ => same.setCounters _ _)⟩
  | clockRead f => exact ⟨_, rfl, .decideFrame _ _ _ _ same⟩
  | frameRefused code f => exact execFrameRefused_sameBase code f s
  | clearPageEnd | visitWriteEnd | geometryWrite f | geometryDelete f | profileWrite f | dispatch | halfIterationEnd u
  | iterationEnd u | powerOnReset => exact nomatch h

end Sys2Proof.Machine
end

section
/-! SUPPORT. One step as a command or a clock unit, and the statements about the queue of commands and about the soft
store (spec/95, spec/03 R61, R63, spec/06 R115). -/

namespace Sys2Proof.Machine

/-- What a step can do: let a clock unit pass on an empty queue, or run the front command on the rest. -/
theorem step_cases {s t : State} (h : step s = .next t) :
    (s.pending = [] ∧ t = s.unitPasses) ∨
      ∃ c rest, s.pending = c :: rest ∧ exec c { s with pending := rest } = .next t := by
  unfold step at h
  split at h
  · next empty => cases h; exact .inl ⟨empty, rfl⟩
  · next c rest front => exact .inr ⟨c, rest, front, h⟩

/-- A law is established by every step from where a second holds, if clock units and commands establish it there and the
second does not speak of the waiting commands. -/
theorem step_establishes {P Q : State → Prop} (queue : ∀ s rest, P s → P { s with pending := rest })
    (unit : ∀ s, P s → Q s.unitPasses) (command : ∀ c s t, P s → exec c s = .next t → Q t) {s t : State} (hs : P s)
    (h : step s = .next t) : Q t := by
  rcases step_cases h with ⟨-, rfl⟩ | ⟨c, rest, -, run⟩
  · exact unit s hs
  · exact command c _ t (queue s rest hs) run

/-- Settles O1. -/
theorem stepTakesTheFrontCommand : Obligations.StepTakesTheFrontCommand := fun _ _ _ => rfl

/-- Settles O2: `State.unitPasses` compares the elapsed count, one more, with the period. -/
theorem emptyQueueLetsOneUnitPass : Obligations.EmptyQueueLetsOneUnitPass := by
  intro s empty
  have passes : step s = .next s.unitPasses := by simp only [step, empty]
  rw [passes]
  refine ⟨fun before => ?_, fun reached => ?_⟩
  · rw [State.unitPasses, if_pos before]
  · rw [State.unitPasses, if_neg (Nat.not_lt.2 reached)]
    rfl

/-! ### No command stops the device -/

@[simp] theorem State.handleOpportunity_pending (s : State) : s.handleOpportunity.pending = s.pending :=
  State.handleOpportunity_induction (P := fun t => t.pending = s.pending) (fun _ _ _ _ _ _ _ h => h)
    (fun _ _ _ h => h) s rfl

@[simp] theorem State.handleOpportunity_store (s : State) : s.handleOpportunity.store = s.store :=
  State.handleOpportunity_induction (P := fun t => t.store = s.store) (fun _ _ _ _ _ _ _ h => h)
    (fun _ _ _ h => h) s rfl

@[simp] theorem State.handleOpportunity_geometry (s : State) : s.handleOpportunity.geometry = s.geometry :=
  State.handleOpportunity_induction (P := fun t => t.geometry = s.geometry) (fun _ _ _ _ _ _ _ h => h)
    (fun _ _ _ h => h) s rfl

/-- The last state of the frame's answer is the owner's, or the state before it for a short frame, with another link. -/
theorem State.decideFrame_eq (s : State) (code : Byte) (f : Frame) (need : Nat)
    (owner : ResultCode × List Byte × State) :
    ∃ l, s.decideFrame code f need owner = s.setLink l ∨ s.decideFrame code f need owner = owner.2.2.setLink l := by
  unfold State.decideFrame
  split_ifs
  · exact ⟨_, .inl rfl⟩
  · exact ⟨_, .inr rfl⟩

/-- PROFILE_WRITE changes at most the profile of a port in OFF, to a valid one. -/
theorem State.writeProfile_cases (s : State) (bs : List Byte) (p : PortId) :
    (s.writeProfile bs p).2.2 = s ∨ ∃ x, (s.port p).state = .off ∧ x.valid = true ∧
      (s.writeProfile bs p).2.2 = s.onPort p fun q => { q with profile := x } := by
  unfold State.writeProfile
  split_ifs with off
  · exact .inl rfl
  · split
    · exact .inl rfl
    · split_ifs with valid
      · exact .inr ⟨_, not_not.1 off, valid, rfl⟩
      · exact .inl rfl

theorem State.onPortArgument_cases (s : State) (f : Frame) (k : PortId → ResultCode × List Byte × State) :
    (s.onPortArgument f k).2.2 = s ∨ ∃ p, (s.onPortArgument f k).2.2 = (k p).2.2 := by
  unfold State.onPortArgument
  split
  · exact .inl rfl
  · exact .inr ⟨_, rfl⟩

/-- What PROFILE_WRITE does to the device less the link. -/
theorem execProfileWrite_cases {f : Frame} {s t : State} (h : execProfileWrite f s = .next t) :
    ∃ l, t = s.setLink l ∨ ∃ p x, (s.port p).state = .off ∧ x.valid = true ∧
      t = (s.onPort p fun q => { q with profile := x }).setLink l := by
  cases h
  obtain ⟨l, same | owner⟩ := s.decideFrame_eq 0x02 f 25 (s.onPortArgument f (s.writeProfile (field f.args 1 24)))
  · exact ⟨l, .inl same⟩
  · rcases s.onPortArgument_cases f (s.writeProfile (field f.args 1 24)) with none | ⟨p, named⟩
    · exact ⟨l, .inl (by rw [owner, none])⟩
    · rcases s.writeProfile_cases (field f.args 1 24) p with refused | ⟨x, off, valid, taken⟩
      · exact ⟨l, .inl (by rw [owner, named, refused])⟩
      · exact ⟨l, .inr ⟨p, x, off, valid, by rw [owner, named, taken]⟩⟩

/-- GEOMETRY_WRITE puts a valid entry into a table with room for it, or changes nothing. -/
theorem State.writeGeometry_cases (s : State) (g : GeometryEntry) :
    (s.writeGeometry g).2.2 = s ∨ g.valid = true ∧ (s.geometryOf g.K = none → s.geometry.length < 128) ∧
      (s.writeGeometry g).2.2 = s.setGeometry (insertGeometry g s.geometry) := by
  unfold State.writeGeometry
  split
  · exact .inl rfl
  · next invalid =>
    have valid : g.valid = true := by simpa using invalid
    split
    · next found => exact .inr ⟨valid, by simp [found], rfl⟩
    · split_ifs with room
      · exact .inr ⟨valid, fun _ => room, rfl⟩
      · exact .inl rfl

theorem State.deleteGeometry_cases (s : State) (K : Nat) :
    (s.deleteGeometry K).2.2 = s ∨
      (s.deleteGeometry K).2.2 = s.setGeometry (s.geometry.filter fun g => g.K != K) := by
  unfold State.deleteGeometry
  split
  · exact .inl rfl
  · exact .inr rfl

/-- What GEOMETRY_WRITE does to the device less the link. -/
theorem execGeometryWrite_cases {f : Frame} {s t : State} (h : execGeometryWrite f s = .next t) :
    ∃ l, t = s.setLink l ∨ ∃ g, g.valid = true ∧ (s.geometryOf g.K = none → s.geometry.length < 128) ∧
      t = (s.setGeometry (insertGeometry g s.geometry)).setLink l := by
  cases h
  obtain ⟨l, same | owner⟩ := s.decideFrame_eq 0x04 f 6 (s.writeGeometry (geometryArgument f.args))
  · exact ⟨l, .inl same⟩
  · rcases s.writeGeometry_cases (geometryArgument f.args) with refused | ⟨valid, room, taken⟩
    · exact ⟨l, .inl (by rw [owner, refused])⟩
    · exact ⟨l, .inr ⟨_, valid, room, by rw [owner, taken]⟩⟩

/-- What GEOMETRY_DELETE does to the device less the link. -/
theorem execGeometryDelete_cases {f : Frame} {s t : State} (h : execGeometryDelete f s = .next t) :
    ∃ l, t = s.setLink l ∨ ∃ K, t = (s.setGeometry (s.geometry.filter fun g => g.K != K)).setLink l := by
  cases h
  obtain ⟨l, same | owner⟩ := s.decideFrame_eq 0x06 f 2 (s.deleteGeometry (beNat (field f.args 0 2)))
  · exact ⟨l, .inl same⟩
  · rcases s.deleteGeometry_cases (beNat (field f.args 0 2)) with refused | taken
    · exact ⟨l, .inl (by rw [owner, refused])⟩
    · exact ⟨l, .inr ⟨_, by rw [owner, taken]⟩⟩

/-- What CLEAR_PAGE_END does: nothing, or a page is cleared and the combine record goes on. -/
theorem execClearPageEnd_cases {s t : State} (h : execClearPageEnd s = .next t) :
    t = s ∨ ∃ c pg, s.engine.combine = some c ∧
      t = (s.clearPage pg).setCombine (some (c.cleared (s.ctx c.entry).L (s.ctx c.entry).pages)) := by
  unfold execClearPageEnd at h
  split at h
  · cases h; exact .inl rfl
  · split at h
    · split_ifs at h
      · cases h; exact .inr ⟨_, _, ‹_›, rfl⟩
      · cases h; exact .inl rfl
    · cases h; exact .inl rfl
    · cases h; exact .inl rfl

/-- What VISIT_WRITE_END does: nothing, or the first unwritten visit is added and the combine record goes on. -/
theorem execVisitWriteEnd_cases {s t : State} (h : execVisitWriteEnd s = .next t) :
    t = s ∨ ∃ c v pg, s.engine.combine = some c ∧ v ∈ c.visits (s.ctx c.entry).L ∧
      t = (s.setStore (Memory.addVisit s.store pg v ((s.port c.port).buf c.buffer).values)).setCombine
        (some (c.visited (s.ctx c.entry).L (s.ctx c.entry).pages v)) := by
  unfold execVisitWriteEnd at h
  split at h
  · cases h; exact .inl rfl
  · dsimp only at h
    split at h
    · cases h; exact .inl rfl
    · next hv =>
      split at h
      · cases h; exact .inl rfl
      · split_ifs at h
        · cases h; exact .inr ⟨_, _, _, ‹_›, List.mem_of_getElem? hv, rfl⟩
        · cases h; exact .inl rfl

theorem execHalfIterationEnd_cases {u : UnitId} {s t : State} (h : execHalfIterationEnd u s = .next t) :
    t = s ∨ ∃ j, s.units.job u = some j ∧ j.halfDone s.units.isPaired = true ∧ (s.ctx j.entry).state = .decoding ∧
      (j.stopping = true ∧ t = s.completeAbandoned u j ∨
        ∃ pass, j.stopping = false ∧
          pass = j.runPass s.units.isPaired (recordValues s.store j.pages j.L).toArray false ∧
          t = s.setUnits (s.units.setJob u (Job.beginReads s.units.isPaired
            { j with h := j.h + 1, extrinsic := j.storeExtrinsic false pass.1, pairMetrics1 := pass.2 }))) := by
  unfold execHalfIterationEnd at h
  split at h
  · cases h; exact .inl rfl
  · next j hj =>
    split_ifs at h with can stop
    · cases h; exact .inr ⟨j, hj, can.1, can.2.2, .inl ⟨stop, rfl⟩⟩
    · cases h; exact .inr ⟨j, hj, can.1, can.2.2, .inr ⟨_, by simpa using stop, rfl, rfl⟩⟩
    · cases h; exact .inl rfl

/-- R102 stops a decode with PASS or FAIL only; ABANDONED is R109's. -/
theorem stopEvaluation_ne_abandoned (mode : StopMode) (present passes agrees atLimit : Bool) :
    stopEvaluation mode present passes agrees atLimit ≠ some .abandoned := by
  unfold stopEvaluation
  split_ifs <;> simp

/-- The iteration end of a RUNNING decode, by what stop evaluation says. -/
theorem State.endIteration_cases (s : State) (u : UnitId) (j : Job) :
    (∃ bits m z, s.endIteration u j = s.completePass u j bits m z) ∨
    (∃ m z, s.endIteration u j = s.completeFail u j m z) ∨
    ∃ pass bits, pass = j.runPass s.units.isPaired (recordValues s.store j.pages j.L).toArray true ∧
      s.endIteration u j = s.setUnits (s.units.setJob u (Job.beginReads s.units.isPaired
        { j with
          h := j.h + 1, extrinsic := j.storeExtrinsic true pass.1, previous := some bits,
          pairMetrics2 := pass.2 })) := by
  unfold State.endIteration
  dsimp only
  split
  · exact .inl ⟨_, _, _, rfl⟩
  · exact .inr (.inl ⟨_, _, rfl⟩)
  · next stop => exact absurd stop (stopEvaluation_ne_abandoned _ _ _ _ _)
  · exact .inr (.inr ⟨_, _, rfl, rfl⟩)

theorem execIterationEnd_cases {u : UnitId} {s t : State} (h : execIterationEnd u s = .next t) :
    t = s ∨ ∃ j, s.units.job u = some j ∧ j.halfDone s.units.isPaired = true ∧ (s.ctx j.entry).state = .decoding ∧
      (j.stopping = true ∧ t = s.completeAbandoned u j ∨ j.stopping = false ∧ t = s.endIteration u j) := by
  unfold execIterationEnd at h
  split at h
  · cases h; exact .inl rfl
  · next j hj =>
    split_ifs at h with can stop
    · cases h; exact .inr ⟨j, hj, can.1, can.2.2, .inl ⟨stop, rfl⟩⟩
    · cases h; exact .inr ⟨j, hj, can.1, can.2.2, .inr ⟨by simpa using stop, rfl⟩⟩
    · cases h; exact .inl rfl

/-- No arm of `exec` ends in a fault or a refusal. -/
theorem exec_runs (c : Instr) (s : State) : Runs (exec c s) := by
  by_cases h : computes c = true
  · cases c with
    | clearPageEnd =>
      show Runs (execClearPageEnd s)
      unfold execClearPageEnd
      repeat' split
      all_goals exact ⟨_, rfl⟩
    | visitWriteEnd =>
      show Runs (execVisitWriteEnd s)
      unfold execVisitWriteEnd
      dsimp only
      repeat' split
      all_goals exact ⟨_, rfl⟩
    | halfIterationEnd u =>
      show Runs (execHalfIterationEnd u s)
      unfold execHalfIterationEnd
      repeat' split
      all_goals exact ⟨_, rfl⟩
    | iterationEnd u =>
      show Runs (execIterationEnd u s)
      unfold execIterationEnd
      repeat' split
      all_goals exact ⟨_, rfl⟩
    | dispatch =>
      show Runs (execDispatch s)
      unfold execDispatch
      split <;> exact ⟨_, rfl⟩
    | geometryWrite f | geometryDelete f | profileWrite f | powerOnReset => exact ⟨_, rfl⟩
    | _ => exact nomatch h
  · obtain ⟨t, run, -⟩ := exec_sameBase c s (by simpa using h)
    exact ⟨t, run⟩

theorem execDispatch_cases {s t : State} (h : execDispatch s = .next t) :
    t = s ∨ t = s.handleOpportunity.setOpportunity false := by
  unfold execDispatch at h
  split_ifs at h
  · cases h; exact .inr rfl
  · cases h; exact .inl rfl

theorem State.endIteration_pending (s : State) (u : UnitId) (j : Job) : (s.endIteration u j).pending = s.pending := by
  rcases s.endIteration_cases u j with ⟨bits, m, z, h⟩ | ⟨m, z, h⟩ | ⟨pass, bits, -, h⟩
  · rw [h, State.completePass_pending]
  · rw [h, State.completeFail_pending]
  · rw [h, State.setUnits_pending]

/-- No command touches the queue of waiting commands. -/
theorem exec_pending {c : Instr} {s t : State} (run : exec c s = .next t) : t.pending = s.pending := by
  by_cases h : computes c = true
  · cases c with
    | clearPageEnd => obtain rfl | ⟨c, pg, -, rfl⟩ := execClearPageEnd_cases run <;> rfl
    | visitWriteEnd => obtain rfl | ⟨c, v, pg, -, -, rfl⟩ := execVisitWriteEnd_cases run <;> rfl
    | geometryWrite f => obtain ⟨l, rfl | ⟨g, -, -, rfl⟩⟩ := execGeometryWrite_cases run <;> rfl
    | geometryDelete f => obtain ⟨l, rfl | ⟨K, rfl⟩⟩ := execGeometryDelete_cases run <;> rfl
    | profileWrite f => obtain ⟨l, rfl | ⟨p, x, -, -, rfl⟩⟩ := execProfileWrite_cases run <;> rfl
    | dispatch =>
      obtain rfl | rfl := execDispatch_cases run
      · rfl
      · exact s.handleOpportunity_pending
    | halfIterationEnd u =>
      obtain rfl | ⟨j, -, -, -, ⟨-, rfl⟩ | ⟨pass, -, -, rfl⟩⟩ := execHalfIterationEnd_cases run
      · rfl
      · exact s.completeAbandoned_pending u j
      · rfl
    | iterationEnd u =>
      obtain rfl | ⟨j, -, -, -, ⟨-, rfl⟩ | ⟨-, rfl⟩⟩ := execIterationEnd_cases run
      · rfl
      · exact s.completeAbandoned_pending u j
      · exact s.endIteration_pending u j
    | powerOnReset => cases run; rfl
    | _ => exact nomatch h
  · obtain ⟨u, next, same⟩ := exec_sameBase c s (by simpa using h)
    cases next.symm.trans run
    exact same.pending

/-- Settles O3. -/
theorem everyCommandAnswersANextState : Obligations.EveryCommandAnswersANextState := by
  intro c s
  obtain ⟨t, run⟩ := exec_runs c s
  exact ⟨t, run, exec_pending run⟩

/-! ### The soft store -/

/-- Each visit lies in one page (R62). -/
theorem visitsFrom_in_page {L fuel j position left : Nat} {v : Visit} (h : v ∈ visitsFrom L fuel j position left) :
    v.position % Config.pageValues + v.length ≤ Config.pageValues := by
  induction fuel generalizing j position left with
  | zero => exact nomatch h
  | succ fuel ih =>
    unfold visitsFrom at h
    dsimp only at h
    split_ifs at h
    · exact nomatch h
    · rcases List.mem_cons.1 h with rfl | h
      · have : position % Config.pageValues < Config.pageValues := Nat.mod_lt _ (by decide)
        dsimp only
        omega
      · exact ih h

theorem State.endIteration_store (s : State) (u : UnitId) (j : Job) : (s.endIteration u j).store = s.store := by
  rcases s.endIteration_cases u j with ⟨bits, m, z, h⟩ | ⟨m, z, h⟩ | ⟨pass, bits, -, h⟩
  · rw [h, State.completePass_store]
  · rw [h, State.completeFail_store]
  · rw [h, State.setUnits_store]

/-- CLEAR_PAGE_END and VISIT_WRITE_END write inside a page; no other command but power writes the store at all. -/
theorem exec_keeps_storeLaw {c : Instr} {s t : State} (law : StoreLaw s) (run : exec c s = .next t) : StoreLaw t := by
  have same : ∀ u : State, u.store = s.store → StoreLaw u := fun u hu => by rwa [StoreLaw, hu]
  by_cases h : computes c = true
  · cases c with
    | clearPageEnd =>
      obtain rfl | ⟨c, pg, -, rfl⟩ := execClearPageEnd_cases run
      · exact law
      · exact s.clearPage_wf pg law
    | visitWriteEnd =>
      obtain rfl | ⟨c, v, pg, -, hv, rfl⟩ := execVisitWriteEnd_cases run
      · exact law
      · exact Memory.addVisit_wf _ pg v _ law (visitsFrom_in_page hv)
    | geometryWrite f => obtain ⟨l, rfl | ⟨g, -, -, rfl⟩⟩ := execGeometryWrite_cases run <;> exact same _ rfl
    | geometryDelete f => obtain ⟨l, rfl | ⟨K, rfl⟩⟩ := execGeometryDelete_cases run <;> exact same _ rfl
    | profileWrite f => obtain ⟨l, rfl | ⟨p, x, -, -, rfl⟩⟩ := execProfileWrite_cases run <;> exact same _ rfl
    | dispatch =>
      obtain rfl | rfl := execDispatch_cases run
      · exact law
      · exact same _ s.handleOpportunity_store
    | halfIterationEnd u =>
      obtain rfl | ⟨j, -, -, -, ⟨-, rfl⟩ | ⟨pass, -, -, rfl⟩⟩ := execHalfIterationEnd_cases run
      · exact law
      · exact same _ (s.completeAbandoned_store u j)
      · exact same _ rfl
    | iterationEnd u =>
      obtain rfl | ⟨j, -, -, -, ⟨-, rfl⟩ | ⟨-, rfl⟩⟩ := execIterationEnd_cases run
      · exact law
      · exact same _ (s.completeAbandoned_store u j)
      · exact same _ (s.endIteration_store u j)
    | powerOnReset => cases run; exact State.reset_store_wf
    | _ => exact nomatch h
  · obtain ⟨u, next, base⟩ := exec_sameBase c s (by simpa using h)
    cases next.symm.trans run
    exact same _ base.store

/-- Settles O5. -/
theorem stepKeepsStoreForm : Obligations.StepKeepsStoreForm := fun _ _ =>
  step_establishes (fun _ _ h => h) (fun s h => by rwa [StoreLaw, State.unitPasses_store])
    fun _ _ _ h run => exec_keeps_storeLaw h run

end Sys2Proof.Machine
end

section
/-! SUPPORT. The values that a pass writes into the extrinsic store, and the statement about their range (spec/05 R94,
R96). -/

namespace Sys2Proof.Machine

/-! ### Writing values at positions -/

@[simp] theorem scatter_size {α : Type} (start : Array α) (places : List (Nat × α)) :
    (scatter start places).size = start.size := by
  induction places generalizing start with
  | nil => rfl
  | cons x xs ih => exact (ih _).trans (Array.size_setIfInBounds ..)

/-- Every value after the writes was there before or is one of those written. -/
theorem forall_mem_scatter {α : Type} {P : α → Prop} (start : Array α) (places : List (Nat × α))
    (old : ∀ v ∈ start, P v) (new : ∀ x ∈ places, P x.2) : ∀ v ∈ scatter start places, P v := by
  induction places generalizing start with
  | nil => exact old
  | cons x xs ih =>
    refine ih _ (fun v hv => ?_) fun y hy => new y (List.mem_cons_of_mem _ hy)
    rcases Array.mem_or_eq_of_mem_setIfInBounds hv with hv | rfl
    · exact old v hv
    · exact new x List.mem_cons_self

/-! ### The range of extrinsic values -/

/-- R94's range. -/
def InRange (e : Int) : Prop := -1023 ≤ e ∧ e ≤ 1023

theorem inRange_saturate (v : Int) : InRange (saturate v) := by
  unfold InRange saturate
  omega

theorem inRange_of_mem_extrinsics {vs : List StepValues} {a b : List (List Int)} {e : Int}
    (h : e ∈ extrinsics vs a b) : InRange e := by
  induction vs generalizing a b with
  | nil => exact nomatch h
  | cons v vs ih =>
    match a, b with
    | [], _ => exact nomatch h
    | _ :: _, [] => exact nomatch h
    | x :: a, y :: b =>
      rcases List.mem_cons.1 h with rfl | h
      · exact inRange_saturate _
      · exact ih h

theorem inRange_of_mem_runPass {j : Job} {paired : Bool} {record : Array Int} {second : Bool} {e : Int}
    (h : e ∈ (j.runPass paired record second).1) : InRange e := by
  unfold Job.runPass at h
  dsimp only at h
  split_ifs at h
  all_goals
    first
      | exact inRange_of_mem_extrinsics h
      | rcases List.mem_append.1 h with h | h <;> exact inRange_of_mem_extrinsics h

/-- R96: a weight of at most 32 thirty-seconds does not lead out of the range. -/
theorem Job.inRange_damp (j : Job) (weights : ∀ w ∈ j.damping, w ≤ 32) {e : Int} (h : InRange e) :
    InRange (j.damp e) := by
  have hw : j.damping.getD (min j.h 11) 0 ≤ 32 := by
    rw [List.getD_eq_getElem?_getD]
    cases hg : j.damping[min j.h 11]? with
    | none => exact Nat.zero_le _
    | some w => exact weights w (List.mem_of_getElem? hg)
  obtain ⟨low, high⟩ := h
  have size : (j.damp e).natAbs ≤ 1023 := by
    unfold Job.damp
    rw [Int.natAbs_tdiv, Int.natAbs_mul, Int.natAbs_natCast]
    calc e.natAbs * j.damping.getD (min j.h 11) 0 / 32
        ≤ 1023 * 32 / 32 := Nat.div_le_div_right (Nat.mul_le_mul (by omega) hw)
      _ = 1023 := rfl
  unfold InRange
  omega

/-- One value per position, each in range, stays so after a pass. -/
theorem Job.storeExtrinsic_inRange (j : Job) (second : Bool) (es : List Int) (weights : ∀ w ∈ j.damping, w ≤ 32)
    (old : ∀ e ∈ j.extrinsic, InRange e) (new : ∀ e ∈ es, InRange e) :
    (j.storeExtrinsic second es).length = j.extrinsic.length ∧ ∀ e ∈ j.storeExtrinsic second es, InRange e := by
  unfold Job.storeExtrinsic
  refine ⟨by simp, fun e he => ?_⟩
  refine forall_mem_scatter (P := InRange) j.extrinsic.toArray _ (fun v hv => old v (by simpa using hv)) (fun x hx => ?_) e (by simpa using he)
  obtain ⟨y, hy, rfl⟩ := List.mem_map.1 hx
  obtain ⟨-, -, at_⟩ := List.mem_zipIdx hy
  exact j.inRange_damp weights (new _ (at_ ▸ List.getElem_mem _))

/-! ### The law -/

/-- The law for one decode. -/
def Job.Lawful (j : Job) : Prop :=
  (j.extrinsic.length = j.K ∧ ∀ e ∈ j.extrinsic, InRange e) ∧ ∀ w ∈ j.damping, w ≤ 32

theorem Job.Lawful.of_sameValues {j k : Job} (h : j.Lawful) (same : j.SameValues k) : k.Lawful := by
  obtain ⟨size, extrinsic, damping⟩ := same
  unfold Job.Lawful
  rw [size, extrinsic, damping]
  exact h

theorem decodeLaw_iff (s : State) :
    DecodeLaw s ↔
      (∀ u j, s.units.job u = some j → j.Lawful) ∧ ∀ p, ∀ w ∈ (s.port p).profile.damping, w ≤ 32 :=
  ⟨fun h => ⟨fun u j hj => ⟨h.values u j hj, h.weights u j hj⟩, h.profiles⟩,
    fun h => ⟨fun u j hj => (h.1 u j hj).1, fun u j hj => (h.1 u j hj).2, h.2⟩⟩

theorem DecodeLaw.job {s : State} (h : DecodeLaw s) {u : UnitId} {j : Job} (hj : s.units.job u = some j) : j.Lawful :=
  ((decodeLaw_iff s).1 h).1 u j hj

/-- Decodes that keep their values and profiles that stay keep the law. -/
theorem DecodeLaw.of_keepValues {s t : State} (h : DecodeLaw s) (units : s.units.KeepValues t.units)
    (profile : ∀ p, (t.port p).profile = (s.port p).profile) : DecodeLaw t := by
  refine (decodeLaw_iff t).2 ⟨fun u k hk => ?_, fun p w hw => h.profiles p w (profile p ▸ hw)⟩
  obtain ⟨j, hj, same⟩ := units u k hk
  exact (h.job hj).of_sameValues same

theorem DecodeLaw.setJob {s : State} (h : DecodeLaw s) (u : UnitId) {j : Job} (hj : j.Lawful) :
    DecodeLaw (s.setUnits (s.units.setJob u j)) := by
  refine (decodeLaw_iff _).2 ⟨fun v k hk => ?_, h.profiles⟩
  rw [State.setUnits_units, Units.job_setJob] at hk
  split_ifs at hk
  · cases hk; exact hj
  · exact h.job hk

theorem Job.Lawful.beginReads {j : Job} (h : j.Lawful) (paired : Bool) : (Job.beginReads paired j).Lawful := by
  cases paired <;> exact h

theorem Units.job_assign_pair (us : Units) (j : Job) (u : UnitId) : (us.assign .pair j).job u = some j := by
  cases u <;> rfl

/-- After a dispatch a unit has the new decode or the one it had. -/
theorem Units.job_assign (us : Units) (a : Assignment) (j : Job) (u : UnitId) :
    (us.assign a j).job u = some j ∨ (us.assign a j).job u = us.job u := by
  cases a with
  | pair => exact .inl (us.job_assign_pair j u)
  | one v =>
    rw [Units.assign, Units.job_setJob]
    split_ifs
    · exact .inl rfl
    · exact .inr rfl

theorem DecodeLaw.dispatchHead {s : State} (h : DecodeLaw s) (p : PortId) (e : Entry) (d : PendingDecode)
    (slot : SlotId) (a : Assignment) : DecodeLaw (s.dispatchHead p e d slot a) := by
  have fresh : (Job.dispatched e (s.ctx e) d (s.port p).profile.damping slot a.isPair).Lawful := by
    refine Job.Lawful.beginReads ⟨⟨List.length_replicate, fun v hv => ?_⟩, h.profiles p⟩ _
    obtain rfl := List.eq_of_mem_replicate hv
    exact ⟨by decide, by decide⟩
  refine (decodeLaw_iff _).2 ⟨fun u k hk => ?_, fun r w hw => h.profiles r w ?_⟩
  · have assigned : (s.units.assign a (Job.dispatched e (s.ctx e) d (s.port p).profile.damping slot a.isPair)).job u =
        some k := hk
    rcases s.units.job_assign a _ u with new | same
    · rw [new] at assigned
      cases assigned
      exact fresh
    · exact h.job (same ▸ assigned)
  · have keep : ((s.setOutSlot p slot .reserved).port r).profile = (s.port r).profile :=
      ((State.SameBase.refl s).setOutSlot p slot .reserved).profile r
    exact keep ▸ hw

theorem DecodeLaw.handleOpportunity {s : State} (h : DecodeLaw s) : DecodeLaw s.handleOpportunity :=
  State.handleOpportunity_induction (fun _ p e d slot a _ h => h.dispatchHead p e d slot a)
    (fun _ _ _ h => h.of_keepValues (.refl _) fun _ => rfl) s h

theorem DecodeLaw.of_sameBase {s t : State} (h : DecodeLaw s) (same : s.SameBase t) : DecodeLaw t :=
  h.of_keepValues same.units same.profile

/-- The record of a decode after a pass: the values stored, whatever else the pass leaves. -/
theorem Job.Lawful.passed {j k : Job} (h : j.Lawful) {paired second : Bool} {record : Array Int}
    (size : k.K = j.K) (damping : k.damping = j.damping)
    (stored : k.extrinsic = j.storeExtrinsic second (j.runPass paired record second).1) : k.Lawful := by
  obtain ⟨⟨length, values⟩, weights⟩ := h
  have pass := j.storeExtrinsic_inRange second (j.runPass paired record second).1 weights values
    fun _ => inRange_of_mem_runPass
  unfold Job.Lawful
  rw [size, damping, stored]
  exact ⟨⟨pass.1.trans length, pass.2⟩, weights⟩

theorem DecodeLaw.endIteration {s : State} (h : DecodeLaw s) {u : UnitId} {j : Job} (hj : s.units.job u = some j) :
    DecodeLaw (s.endIteration u j) := by
  have same := State.SameBase.refl s
  rcases s.endIteration_cases u j with ⟨bits, m, z, ends⟩ | ⟨m, z, ends⟩ | ⟨pass, bits, rfl, goesOn⟩
  · rw [ends]; exact h.of_sameBase (same.completePass u j bits m z)
  · rw [ends]; exact h.of_sameBase (same.completeFail u j m z)
  · rw [goesOn]
    refine h.setJob u (Job.Lawful.beginReads ?_ _)
    exact (h.job hj).passed (second := true) rfl rfl rfl

theorem Profile.damping_le_of_valid {x : Profile} (h : x.valid = true) : ∀ w ∈ x.damping, w ≤ 32 := by
  simp only [Profile.valid, Bool.and_eq_true, List.all_eq_true, inRange, decide_eq_true_eq] at h
  exact fun w hw => (h.2 w hw).2

theorem DecodeLaw.setProfile {s : State} (h : DecodeLaw s) (p : PortId) {x : Profile} (valid : x.valid = true) :
    DecodeLaw (s.onPort p fun q => { q with profile := x }) := by
  refine (decodeLaw_iff _).2 ⟨fun u j hj => h.job hj, fun r w hw => ?_⟩
  rw [State.onPort_port] at hw
  split_ifs at hw
  · exact Profile.damping_le_of_valid valid w hw
  · exact h.profiles r w hw

theorem State.reset_port (p : PortId) : State.reset.port p = Port.offWith Profile.default ⟨none, []⟩ := by
  simp [State.reset, State.port, Vector.get_eq_getElem]

theorem DecodeLaw.reset : DecodeLaw State.reset := by
  refine (decodeLaw_iff _).2 ⟨fun u j hj => ?_, fun p w hw => ?_⟩
  · cases u <;> cases hj
  · rw [State.reset_port] at hw
    obtain rfl := List.eq_of_mem_replicate hw
    decide

theorem exec_keeps_decodeLaw {c : Instr} {s t : State} (h : DecodeLaw s) (run : exec c s = .next t) : DecodeLaw t := by
  by_cases special : computes c = true
  · cases c with
    | clearPageEnd =>
      obtain rfl | ⟨c, pg, -, rfl⟩ := execClearPageEnd_cases run
      · exact h
      · exact h.of_keepValues (.refl _) fun _ => rfl
    | visitWriteEnd =>
      obtain rfl | ⟨c, v, pg, -, -, rfl⟩ := execVisitWriteEnd_cases run
      · exact h
      · exact h.of_keepValues (.refl _) fun _ => rfl
    | geometryWrite f =>
      obtain ⟨l, rfl | ⟨g, -, -, rfl⟩⟩ := execGeometryWrite_cases run <;>
        exact h.of_keepValues (.refl _) fun _ => rfl
    | geometryDelete f =>
      obtain ⟨l, rfl | ⟨K, rfl⟩⟩ := execGeometryDelete_cases run <;> exact h.of_keepValues (.refl _) fun _ => rfl
    | profileWrite f =>
      obtain ⟨l, rfl | ⟨p, x, -, valid, rfl⟩⟩ := execProfileWrite_cases run
      · exact h.of_keepValues (.refl _) fun _ => rfl
      · exact (h.setProfile p valid).of_keepValues (.refl _) fun _ => rfl
    | dispatch =>
      obtain rfl | rfl := execDispatch_cases run
      · exact h
      · exact h.handleOpportunity.of_keepValues (.refl _) fun _ => rfl
    | halfIterationEnd u =>
      obtain rfl | ⟨j, hj, -, -, ⟨-, rfl⟩ | ⟨pass, -, rfl, rfl⟩⟩ := execHalfIterationEnd_cases run
      · exact h
      · exact h.of_sameBase ((State.SameBase.refl s).completeAbandoned u j)
      · refine h.setJob u (Job.Lawful.beginReads ?_ _)
        exact (h.job hj).passed (second := false) rfl rfl rfl
    | iterationEnd u =>
      obtain rfl | ⟨j, hj, -, -, ⟨-, rfl⟩ | ⟨-, rfl⟩⟩ := execIterationEnd_cases run
      · exact h
      · exact h.of_sameBase ((State.SameBase.refl s).completeAbandoned u j)
      · exact h.endIteration hj
    | powerOnReset => cases run; exact DecodeLaw.reset.of_keepValues (.refl _) fun _ => rfl
    | _ => exact nomatch special
  · obtain ⟨u, next, same⟩ := exec_sameBase c s (by simpa using special)
    cases next.symm.trans run
    exact h.of_sameBase same

/-- Settles O14. -/
theorem stepKeepsExtrinsicRange : Obligations.StepKeepsExtrinsicRange := fun _ _ =>
  step_establishes (fun _ _ h => h.of_keepValues (.refl _) fun _ => rfl)
    (fun s h => h.of_keepValues (by rw [State.unitPasses_units]; exact .refl _) fun p => by rw [State.unitPasses_port])
    fun _ _ _ h run => exec_keeps_decodeLaw h run

end Sys2Proof.Machine
end

section
/-! SUPPORT. The writes at SUBMIT and SOFT_DATA: what each leaves in its port, and the statements about them (spec/07 R128
to R135). -/

namespace Sys2Proof.Machine

theorem exec_submit (p : PortId) (w : WriteBurst) (s : State) :
    exec (.submit p w) s = .next (s.setPort p (Port.okay [] ((s.port p).writeSubmit w))) := by
  simp [exec, execSubmit, State.busAnswer_eq, State.onPort_eq]

theorem exec_softData (p : PortId) (w : WriteBurst) (s : State) :
    exec (.softData p w) s = .next (s.setPort p (Port.okay [] ((s.port p).writeSoft w))) := by
  simp [exec, execSoftData, State.busAnswer_eq, State.onPort_eq]

/-! ### The FILLING buffer -/

theorem Port.filling?_eq_s0 (q : Port) : q.filling? = some .s0 ↔ q.buf0.state = .filling := by
  unfold Port.filling?
  split_ifs <;> simp_all

theorem Port.filling?_eq_s1 (q : Port) :
    q.filling? = some .s1 ↔ q.buf0.state ≠ .filling ∧ q.buf1.state = .filling := by
  unfold Port.filling?
  split_ifs <;> simp_all

theorem Port.filling?_eq_none (q : Port) :
    q.filling? = none ↔ q.buf0.state ≠ .filling ∧ q.buf1.state ≠ .filling := by
  unfold Port.filling?
  split_ifs <;> simp_all

/-! ### SUBMIT -/

theorem Port.writeSubmit_taken {q : Port} {w : WriteBurst} (active : q.state = .active) (full : FullWrite w) :
    q.writeSubmit w = q.takeWord w.data := by
  simp only [Port.writeSubmit, active, if_pos ((isFull_iff w).2 full)]

theorem Port.writeSubmit_off {q : Port} {w : WriteBurst} (off : q.state = .off) : q.writeSubmit w = q := by
  simp only [Port.writeSubmit, off]

theorem Port.writeSubmit_dropped {q : Port} {w : WriteBurst} (on : q.state ≠ .off)
    (partialWrite : q.state = .active → ¬ FullWrite w) : q.writeSubmit w = q.dropSubmit := by
  unfold Port.writeSubmit
  split
  · next off => exact absurd off on
  · next active => rw [if_neg fun full => partialWrite active ((isFull_iff w).1 full)]
  · rfl
  · rfl

theorem Port.takeWord_of_room {q : Port} (w : Word64) (room : q.assembly.length < 3) :
    q.takeWord w = { q with assembly := q.assembly ++ [w] } := if_pos room

theorem Port.takeWord_of_three {q : Port} (w : Word64) (three : q.assembly.length = 3) :
    q.takeWord w = Port.appendDescriptor (descriptorOfWords (q.assembly ++ [w])) { q with assembly := [] } :=
  if_neg (by omega)

theorem Port.appendDescriptor_full {q : Port} (d : Descriptor) (full : 32 ≤ q.queue.length) :
    q.appendDescriptor d = { q with submitDropped := true } := if_pos full

/-- A descriptor that is no ATTEMPT, or finds no FILLING buffer, is appended without one. -/
theorem Port.appendDescriptor_alone {q : Port} {d : Descriptor} (room : q.queue.length < 32)
    (alone : d.kind ≠ .attempt ∨ (q.buf0.state ≠ .filling ∧ q.buf1.state ≠ .filling)) :
    q.appendDescriptor d = { q with queue := q.queue ++ [⟨d, none, 0, false⟩] } := by
  unfold Port.appendDescriptor
  rw [if_neg (show ¬ Config.queueDepth ≤ q.queue.length from Nat.not_le.2 room)]
  rw [← Port.filling?_eq_none] at alone
  split <;> simp_all

theorem Port.appendDescriptor_seals {q : Port} {d : Descriptor} {b : BufId} (room : q.queue.length < 32)
    (attempt : d.kind = .attempt) (filling : q.filling? = some b) :
    q.appendDescriptor d = Port.refill { q.setBuf b { q.buf b with state := .sealed } with
      queue := q.queue ++ [⟨d, some b, (q.buf b).values.length, (q.buf b).overrun⟩] } := by
  unfold Port.appendDescriptor
  rw [if_neg (show ¬ Config.queueDepth ≤ q.queue.length from Nat.not_le.2 room), attempt, filling]

theorem Port.appendDescriptor_seals_s0 {q : Port} {d : Descriptor} (room : q.queue.length < 32)
    (attempt : d.kind = .attempt) (filling : q.buf0.state = .filling) :
    q.appendDescriptor d = { q with
      queue := q.queue ++ [⟨d, some .s0, q.buf0.values.length, q.buf0.overrun⟩]
      buf0 := { q.buf0 with state := .sealed }
      buf1 := if q.buf1.state = .free then Buffer.filling else q.buf1 } := by
  rw [Port.appendDescriptor_seals room attempt ((Port.filling?_eq_s0 q).2 filling)]
  by_cases free : q.buf1.state = .free <;> by_cases both : q.buf1.state = .filling <;>
    simp_all [Port.setBuf, Port.buf, Port.refill, Port.filling?]

theorem Port.appendDescriptor_seals_s1 {q : Port} {d : Descriptor} (room : q.queue.length < 32)
    (attempt : d.kind = .attempt) (other : q.buf0.state ≠ .filling) (filling : q.buf1.state = .filling) :
    q.appendDescriptor d = { q with
      queue := q.queue ++ [⟨d, some .s1, q.buf1.values.length, q.buf1.overrun⟩]
      buf1 := { q.buf1 with state := .sealed }
      buf0 := if q.buf0.state = .free then Buffer.filling else q.buf0 } := by
  rw [Port.appendDescriptor_seals room attempt ((Port.filling?_eq_s1 q).2 ⟨other, filling⟩)]
  by_cases free : q.buf0.state = .free <;> simp_all [Port.setBuf, Port.buf, Port.refill, Port.filling?]

/-- Settles O16. -/
theorem submitTakesAWord : Obligations.SubmitTakesAWord := by
  rintro p w s q rfl active full
  rw [exec_submit, Port.writeSubmit_taken active full]
  refine ⟨fun room => ?_, fun three queued => ?_, ?_⟩
  · rw [Port.takeWord_of_room _ room]
  · rw [Port.takeWord_of_three _ three, Port.appendDescriptor_full _ (by exact queued)]
  · rintro d rfl three queued
    rw [Port.takeWord_of_three _ three]
    refine ⟨fun alone => ?_, fun attempt filling => ?_, fun attempt other filling => ?_⟩
    · rw [Port.appendDescriptor_alone (by exact queued) (by exact alone)]
    · rw [Port.appendDescriptor_seals_s0 (by exact queued) attempt (by exact filling)]
    · rw [Port.appendDescriptor_seals_s1 (by exact queued) attempt (by exact other) (by exact filling)]

/-! ### SOFT_DATA -/

theorem Port.writeSoft_taken {q : Port} {w : WriteBurst} (active : q.state = .active) (full : FullWrite w) :
    q.writeSoft w = q.takeSoft w.data := by
  simp only [Port.writeSoft, active, if_pos ((isFull_iff w).2 full)]

theorem Port.writeSoft_off {q : Port} {w : WriteBurst} (off : q.state = .off) : q.writeSoft w = q := by
  simp only [Port.writeSoft, off]

theorem Port.writeSoft_dropped {q : Port} {w : WriteBurst} (on : q.state ≠ .off)
    (partialWrite : q.state = .active → ¬ FullWrite w) : q.writeSoft w = { q with softDropped := true } := by
  unfold Port.writeSoft
  split
  · next off => exact absurd off on
  · next active => rw [if_neg fun full => partialWrite active ((isFull_iff w).1 full)]
  · rfl
  · rfl

/-- Byte i of n bytes of a number. -/
theorem leBytes_getElem? (n v i : Nat) (hi : i < n) : (leBytes n v)[i]? = some (BitVec.ofNat 8 (v / 256 ^ i)) := by
  induction n generalizing v i with
  | zero => omega
  | succ n ih =>
    cases i with
    | zero => simp [leBytes]
    | succ i =>
      rw [leBytes, List.getElem?_cons_succ, ih _ _ (by omega), Nat.div_div_eq_div_mul, Nat.pow_succ, Nat.mul_comm]

@[simp] theorem leBytes_length (n v : Nat) : (leBytes n v).length = n := by
  induction n generalizing v with
  | zero => rfl
  | succ n ih => simp [leBytes, ih]

/-- Byte i of a number of w bits is its bits from 8i on. -/
theorem ofNat_div_eq_extractLsb' {w : Nat} (v : BitVec w) (i : Nat) :
    BitVec.ofNat 8 (v.toNat / 256 ^ i) = v.extractLsb' (8 * i) 8 := by
  apply BitVec.eq_of_toNat_eq
  rw [BitVec.extractLsb'_toNat, BitVec.toNat_ofNat, Nat.shiftRight_eq_div_pow, Nat.pow_mul]

theorem wordBytes_eq (w : Word64) :
    wordBytes w = [w.extractLsb' 0 8, w.extractLsb' 8 8, w.extractLsb' 16 8, w.extractLsb' 24 8, w.extractLsb' 32 8,
      w.extractLsb' 40 8, w.extractLsb' 48 8, w.extractLsb' 56 8] := by
  refine List.ext_getElem? fun i => ?_
  by_cases hi : i < 8
  · rw [wordBytes, leBytes_getElem? _ _ _ hi, ofNat_div_eq_extractLsb']
    interval_cases i <;> rfl
  · rw [List.getElem?_eq_none (by simpa [wordBytes] using hi), List.getElem?_eq_none (by simpa using hi)]

/-- Settles O18. -/
theorem softDataFillsTheBuffer : Obligations.SoftDataFillsTheBuffer := by
  refine ⟨fun q => ⟨q.filling?_eq_s0, q.filling?_eq_s1⟩, ?_⟩
  rintro p w s q rfl active full
  rw [exec_softData, Port.writeSoft_taken active full]
  refine ⟨fun none => ?_, fun b filling => ⟨fun room => ?_, fun long => ?_⟩⟩
  · simp only [Port.takeSoft, none]
  · simp only [Port.takeSoft, filling]
    rw [if_pos (by simpa [Config.bufferValues] using room), wordBytes_eq]
  · simp only [Port.takeSoft, filling]
    rw [if_neg (by simpa [Config.bufferValues] using long)]

/-- Settles O19. -/
theorem writesNotTaken : Obligations.WritesNotTaken := by
  rintro p w s q rfl
  rw [exec_submit, exec_softData]
  refine ⟨fun off => ?_, fun on partialWrite => ?_⟩
  · rw [Port.writeSubmit_off off, Port.writeSoft_off off]
    exact ⟨rfl, rfl⟩
  · rw [Port.writeSubmit_dropped on partialWrite, Port.writeSoft_dropped on partialWrite]
    exact ⟨rfl, rfl⟩

end Sys2Proof.Machine
end

section
/-! SUPPORT. Numbers as bytes, least significant first, and the statements about descriptors and answer records (spec/11
R202 to R205, Tables 11-2 to 11-7). -/

namespace Sys2Proof.Machine

/-! ### Bytes of a record -/

theorem field_getD (bs : List Byte) (first n k : Nat) (hk : k < n) :
    (field bs first n).getD k 0 = bs.getD (first + k) 0 := by
  simp only [field, List.getD_eq_getElem?_getD, List.getElem?_take, hk, if_true, List.getElem?_drop]

theorem field_eq_nil {bs : List Byte} {first : Nat} (n : Nat) (h : bs.length ≤ first) : field bs first n = [] := by
  simp [field, List.drop_eq_nil_of_le h]

/-- A field as its bytes. -/
theorem leNat_field (bs : List Byte) (first n : Nat) :
    leNat (field bs first (n + 1)) = byteAt bs first + 256 * leNat (field bs (first + 1) n) := by
  unfold field byteAt
  by_cases h : first < bs.length
  · rw [List.drop_eq_getElem_cons h, List.take_succ_cons, leNat, List.getD_eq_getElem _ _ h]
  · rw [List.drop_eq_nil_of_le (by omega), List.drop_eq_nil_of_le (by omega),
      List.getD_eq_default _ _ (by omega)]
    simp [leNat]

theorem leNat_field_two (bs : List Byte) (i : Nat) :
    leNat (field bs i 2) = byteAt bs i + 256 * byteAt bs (i + 1) := by
  rw [leNat_field, leNat_field]
  simp [field, leNat]

theorem leNat_field_four (bs : List Byte) (i : Nat) :
    leNat (field bs i 4) = byteAt bs i + 256 * byteAt bs (i + 1) + 65536 * byteAt bs (i + 2) +
      16777216 * byteAt bs (i + 3) := by
  rw [leNat_field, leNat_field, leNat_field_two]
  ring

theorem byteAt_lt (bs : List Byte) (i : Nat) : byteAt bs i < 256 := (bs.getD i 0).isLt

/-- Byte k of the number that bytes give is byte k of the bytes. -/
theorem ofNat_leNat_div (bs : List Byte) (k : Nat) : BitVec.ofNat 8 (leNat bs / 256 ^ k) = bs.getD k 0 := by
  induction bs generalizing k with
  | nil => simp [leNat]
  | cons b bs ih =>
    have hb := b.isLt
    cases k with
    | zero =>
      apply BitVec.eq_of_toNat_eq
      simp only [leNat, BitVec.toNat_ofNat, List.getD_cons_zero, pow_zero, Nat.div_one]
      omega
    | succ k =>
      rw [List.getD_cons_succ, ← ih k, leNat, Nat.pow_succ', ← Nat.div_div_eq_div_mul]
      congr 2
      omega

theorem leNat_lt (bs : List Byte) : leNat bs < 256 ^ bs.length := by
  induction bs with
  | nil => simp [leNat]
  | cons b bs ih =>
    have hb := b.isLt
    rw [leNat, List.length_cons, Nat.pow_succ]
    omega

/-! ### Bus words -/

/-- Lane k of a bus word. -/
theorem bytesWord_extractLsb' (bs : List Byte) (k : Nat) (hk : k < 8) :
    (bytesWord bs).extractLsb' (8 * k) 8 = bs.getD k 0 := by
  have small : leNat (bs.take 8) < 2 ^ 64 := by
    calc leNat (bs.take 8) < 256 ^ (bs.take 8).length := leNat_lt _
      _ ≤ 256 ^ 8 := Nat.pow_le_pow_right (by decide) (List.length_take_le ..)
      _ = 2 ^ 64 := by decide
  rw [← ofNat_div_eq_extractLsb', bytesWord, BitVec.toNat_ofNat, Nat.mod_eq_of_lt small, ofNat_leNat_div]
  simp only [List.getD_eq_getElem?_getD, List.getElem?_take, hk, if_true]

theorem bytesWord_field_extractLsb' (bs : List Byte) (i k : Nat) (hk : k < 8) :
    (bytesWord (field bs i 8)).extractLsb' (8 * k) 8 = bs.getD (i + k) 0 := by
  rw [bytesWord_extractLsb' _ _ hk, field_getD _ _ _ _ hk]

theorem wordBytes_getD (w : Word64) (k : Nat) (hk : k < 8) :
    (wordBytes w).getD k 0 = w.extractLsb' (8 * k) 8 := by
  rw [List.getD_eq_getElem?_getD, wordBytes, leBytes_getElem? _ _ _ hk, Option.getD_some, ofNat_div_eq_extractLsb']

theorem wordBytes_length (w : Word64) : (wordBytes w).length = 8 := leBytes_length ..

theorem maskLanes_extractLsb' (lanes : Lanes) (w : Word64) (i : Nat) (hi : i < 8) :
    (maskLanes lanes w).extractLsb' (8 * i) 8 = if lanes.getLsbD i then w.extractLsb' (8 * i) 8 else 0 := by
  rw [maskLanes, bytesWord_extractLsb' _ _ hi, ← wordBytes_getD w i hi]
  simp [List.getD_eq_getElem?_getD, wordBytes_length, hi]

@[simp] theorem maskLanes_zero (lanes : Lanes) : maskLanes lanes 0 = 0 := by
  revert lanes; decide

theorem recordWord_eq_zero {bs : List Byte} {i : Nat} (h : bs.length ≤ 8 * i) : recordWord bs i = 0 := by
  rw [recordWord, field_eq_nil _ h]; rfl

/-! ### Answer records -/

theorem leBytes_two (v : Nat) : leBytes 2 v = [BitVec.ofNat 8 v, BitVec.ofNat 8 (v / 256)] := rfl

theorem leBytes_four {w : Nat} (v : BitVec w) :
    leBytes 4 v.toNat = [v.extractLsb' 0 8, v.extractLsb' 8 8, v.extractLsb' 16 8, v.extractLsb' 24 8] := by
  have h := fun i => ofNat_div_eq_extractLsb' v i
  simp only [leBytes, ← h 0, ← h 1, ← h 2, ← h 3, Nat.div_div_eq_div_mul, pow_zero, Nat.div_one, pow_succ, one_mul,
    Nat.reduceMul]

/-- A record's common part, and its body with zeros after it. -/
theorem Answer.bytes_eq (tag : Tag) (cookie : Cookie) (body : AnswerBody) :
    Answer.bytes ⟨tag, cookie, body⟩ =
      [body.kindCode, body.flags, BitVec.ofNat 8 tag.toNat, BitVec.ofNat 8 (tag.toNat / 256), cookie.extractLsb' 0 8,
        cookie.extractLsb' 8 8, cookie.extractLsb' 16 8, cookie.extractLsb' 24 8] ++
      (body.bytes ++ List.replicate (24 - body.bytes.length) 0) := by
  simp [Answer.bytes, padTo, leBytes_two, leBytes_four, Nat.add_comm _ 8, Nat.sub_add_eq]

theorem AnswerBody.bytes_length_le (body : AnswerBody) : body.bytes.length ≤ 12 := by
  cases body <;> simp [AnswerBody.bytes]

theorem Answer.bytes_length (a : Answer) : a.bytes.length = 32 := by
  obtain ⟨tag, cookie, body⟩ := a
  have := body.bytes_length_le
  rw [Answer.bytes_eq]
  simp only [List.length_append, List.length_cons, List.length_nil, List.length_replicate]
  omega

theorem Answer.bytes_drop (tag : Tag) (cookie : Cookie) (body : AnswerBody) :
    (Answer.bytes ⟨tag, cookie, body⟩).drop 8 = body.bytes ++ List.replicate (24 - body.bytes.length) 0 := by
  rw [Answer.bytes_eq]; rfl

/-- Settles O23. -/
theorem answerRecordLayout : Obligations.AnswerRecordLayout := by
  refine ⟨maskLanes_extractLsb', fun bs i k hk => bytesWord_field_extractLsb' bs _ k hk, fun tag cookie body => ?_⟩
  refine ⟨fun i hi => recordWord_eq_zero (by rw [Answer.bytes_length]; omega), Answer.bytes_length _,
    by rw [Answer.bytes_eq]; rfl, ?_⟩
  simp only [Answer.bytes_drop]
  refine ⟨?_, ?_, ?_, ?_, ?_, ?_, ?_, ?_, ?_, ?_⟩
  · rintro gap n rfl
    cases gap <;> exact ⟨rfl, rfl, rfl⟩
  · rintro outcome i gap final slot len mism zeros rfl
    cases gap <;> cases final <;> exact ⟨rfl, rfl, rfl⟩
  · refine fun n => ⟨?_, ?_, ?_, ?_, ?_, ?_⟩
    · rintro rfl; rfl
    · rintro rfl; rfl
    · rintro rfl; rfl
    · rintro rfl; rfl
    · rintro rfl; rfl
    · rintro (rfl | rfl | rfl | rfl | rfl) <;> exact ⟨rfl, rfl⟩
  · rintro rfl; rfl
  · rintro rfl; rfl
  · rintro (rfl | rfl) <;> exact ⟨rfl, rfl⟩
  · rintro r rfl; exact ⟨rfl, rfl, rfl⟩
  · rintro previous rfl; exact ⟨rfl, rfl, rfl⟩
  · rintro state K last combined pages ticks rfl
    refine ⟨rfl, rfl, ?_⟩
    simp [AnswerBody.bytes, leBytes_two, leBytes_four]
  · exact ⟨rfl, rfl, rfl, rfl, rfl, rfl, rfl, rfl, rfl, rfl, rfl, rfl, rfl, rfl, rfl, rfl, rfl, rfl, rfl, rfl⟩

/-! ### Descriptors -/

/-- Byte k of word i of some words. -/
theorem flatMap_wordBytes_getD (ws : List Word64) (i k : Nat) (hk : k < 8) :
    (ws.flatMap wordBytes).getD (8 * i + k) 0 = (ws.getD i 0).extractLsb' (8 * k) 8 := by
  induction ws generalizing i with
  | nil => simp
  | cons w ws ih =>
    rw [List.flatMap_cons]
    cases i with
    | zero =>
      rw [List.getD_append _ _ _ _ (by rw [wordBytes_length]; omega), List.getD_cons_zero, ← wordBytes_getD w k hk,
        Nat.mul_zero, Nat.zero_add]
    | succ i =>
      rw [List.getD_append_right _ _ _ _ (by rw [wordBytes_length]; omega), List.getD_cons_succ, ← ih i,
        wordBytes_length]
      congr 1
      omega

theorem actionOfByte_eq_some (b : Byte) (a : Action) :
    actionOfByte b = some a ↔ (b = 0x01 ∧ a = .decode) ∨ (b = 0x02 ∧ a = .holdOnly) := by
  unfold actionOfByte
  split_ifs with decode hold
  · subst decode; cases a <;> simp
  · subst hold; cases a <;> simp
  · simp only [decode, hold, false_and, or_self]

theorem stopModeOfByte_eq_some (b : Byte) (m : StopMode) :
    stopModeOfByte b = some m ↔
      (b = 0x01 ∧ m = .full) ∨ (b = 0x02 ∧ m = .check) ∨ (b = 0x03 ∧ m = .agree) ∨ (b = 0x04 ∧ m = .either) := by
  unfold stopModeOfByte
  split_ifs with full check agree either
  · subst full; cases m <;> simp
  · subst check; cases m <;> simp
  · subst agree; cases m <;> simp
  · subst either; cases m <;> simp
  · simp only [full, check, agree, either, false_and, or_self]

theorem kindOfByte_byte (b : Byte) : (kindOfByte b).byte = b := by
  unfold kindOfByte
  split_ifs with attempt release query
  · exact attempt.symm
  · exact release.symm
  · exact query.symm
  · rfl

theorem leBytes_leNat (bs : List Byte) : leBytes bs.length (leNat bs) = bs := by
  induction bs with
  | nil => rfl
  | cons b bs ih =>
    have hb := b.isLt
    have low : BitVec.ofNat 8 (b.toNat + 256 * leNat bs) = b := by
      apply BitVec.eq_of_toNat_eq
      rw [BitVec.toNat_ofNat]
      omega
    have high : (b.toNat + 256 * leNat bs) / 256 = leNat bs := by omega
    rw [List.length_cons, leBytes, leNat, low, high, ih]

/-- A field that lies in the record, byte by byte. -/
theorem field_eq_map (bs : List Byte) (first n : Nat) (h : first + n ≤ bs.length) :
    field bs first n = (List.range n).map fun k => bs.getD (first + k) 0 := by
  refine List.ext_getElem? fun k => ?_
  by_cases hk : k < n
  · simp [field, hk, (by omega : first + k < bs.length)]
  · simp [field, hk]

theorem field_length (bs : List Byte) (first n : Nat) (h : first + n ≤ bs.length) : (field bs first n).length = n := by
  simp [field_eq_map bs first n h]

theorem leBytes_leNat_field (bs : List Byte) (first n : Nat) (h : first + n ≤ bs.length) :
    leBytes n (leNat (field bs first n)) = field bs first n := by
  have := leBytes_leNat (field bs first n)
  rwa [field_length bs first n h] at this

theorem descriptorOfBytes_tag_toNat (bs : List Byte) :
    (descriptorOfBytes bs).tag.toNat = byteAt bs 2 + 256 * (byteAt bs 3 % 16) := by
  have low := byteAt_lt bs 2
  have high := byteAt_lt bs 3
  show (BitVec.ofNat 12 (leNat (field bs 2 2))).toNat = _
  rw [BitVec.toNat_ofNat, leNat_field_two]
  simp only [Nat.reduceAdd]
  omega

theorem descriptorOfBytes_cookie_toNat (bs : List Byte) :
    (descriptorOfBytes bs).cookie.toNat = leNat (field bs 24 4) := by
  have b0 := byteAt_lt bs 24
  have b1 := byteAt_lt bs 25
  have b2 := byteAt_lt bs 26
  have b3 := byteAt_lt bs 27
  show (BitVec.ofNat 32 (leNat (field bs 24 4))).toNat = _
  rw [BitVec.toNat_ofNat, leNat_field_four]
  simp only [Nat.reduceAdd]
  omega

/-- The tag's two bytes in a queue entry: the upper four bits of the second are not copied (R204). -/
theorem leBytes_tag (bs : List Byte) :
    leBytes 2 (descriptorOfBytes bs).tag.toNat = [bs.getD 2 0, bs.getD 3 0 &&& 0x0F] := by
  have low := (bs.getD 2 0).isLt
  have masked : (bs.getD 3 0 &&& 0x0F).toNat = byteAt bs 3 % 16 := by
    rw [BitVec.toNat_and]
    exact Nat.and_two_pow_sub_one_eq_mod (byteAt bs 3) 4
  rw [descriptorOfBytes_tag_toNat, leBytes_two]
  congr 1
  · apply BitVec.eq_of_toNat_eq
    rw [BitVec.toNat_ofNat, byteAt]
    omega
  · congr 1
    apply BitVec.eq_of_toNat_eq
    rw [masked, BitVec.toNat_ofNat, byteAt]
    omega

theorem leBytes_cookie (bs : List Byte) (long : 28 ≤ bs.length) :
    leBytes 4 (descriptorOfBytes bs).cookie.toNat = (bs.drop 24).take 4 := by
  rw [descriptorOfBytes_cookie_toNat, leBytes_leNat_field bs 24 4 long, field]

/-- R204: everything but kind, tag and cookie of a RELEASE or QUERY is handled as 0. -/
theorem descriptorOfBytes_of_bodyless {bs : List Byte} (h : bs.getD 0 0 = 0x02 ∨ bs.getD 0 0 = 0x03) :
    descriptorOfBytes bs =
      { kind := if bs.getD 0 0 = 0x02 then .release else .query, tag := (descriptorOfBytes bs).tag,
        cookie := (descriptorOfBytes bs).cookie, checksumPresent := false, K := 0, attempt := 0, action := 0,
        start := 0, count := 0, iterationLimit := 0, stopMode := 0 } := by
  rcases h with h | h
  · have kind : kindOfByte (bs.getD 0 0) = .release := by rw [h]; rfl
    rw [if_pos h, descriptorOfBytes, kind]
    simp [field, leNat, byteAt]
  · have kind : kindOfByte (bs.getD 0 0) = .query := by rw [h]; rfl
    rw [if_neg (by rw [h]; decide), descriptorOfBytes, kind]
    simp [field, leNat, byteAt]

/-- The kind byte of a descriptor with a body. -/
theorem kindOfByte_of_body {b : Byte} (release : b ≠ 0x02) (query : b ≠ 0x03) :
    kindOfByte b = if b = 0x01 then .attempt else .unnamed b := by
  simp only [kindOfByte, release, query, if_false]

theorem descriptorOfBytes_of_body {bs : List Byte} (release : bs.getD 0 0 ≠ 0x02) (query : bs.getD 0 0 ≠ 0x03) :
    descriptorOfBytes bs =
      { kind := kindOfByte (bs.getD 0 0), tag := (descriptorOfBytes bs).tag, cookie := (descriptorOfBytes bs).cookie,
        checksumPresent := (bs.getD 1 0).getLsbD 0, K := leNat (field bs 4 2), attempt := byteAt bs 6,
        action := bs.getD 7 0, start := leNat (field bs 8 4), count := leNat (field bs 12 4),
        iterationLimit := byteAt bs 16, stopMode := bs.getD 17 0 } := by
  rw [descriptorOfBytes, kindOfByte_of_body release query]
  split_ifs <;> rfl

theorem ofNat_getLsbD_zero (b : Byte) : BitVec.ofNat 8 (b.getLsbD 0).toNat = b &&& 0x01 := by
  revert b; decide

theorem ofNat_byteAt (bs : List Byte) (i : Nat) : BitVec.ofNat 8 (byteAt bs i) = bs.getD i 0 := by
  simp [byteAt]

theorem descriptorOfBytes_bytes_of_body {bs : List Byte} (long : bs.length = 32) (release : bs.getD 0 0 ≠ 0x02)
    (query : bs.getD 0 0 ≠ 0x03) :
    (descriptorOfBytes bs).bytes =
      [bs.getD 0 0, bs.getD 1 0 &&& 0x01, bs.getD 2 0, bs.getD 3 0 &&& 0x0F] ++ (bs.drop 4).take 14 ++
        List.replicate 6 0 ++ (bs.drop 24).take 4 ++ List.replicate 4 0 := by
  have body : field bs 4 14 = field bs 4 2 ++ [bs.getD 6 0, bs.getD 7 0] ++ field bs 8 4 ++ field bs 12 4 ++
      [bs.getD 16 0, bs.getD 17 0] := by
    rw [field_eq_map bs 4 14 (by omega), field_eq_map bs 4 2 (by omega), field_eq_map bs 8 4 (by omega),
      field_eq_map bs 12 4 (by omega)]
    rfl
  rw [descriptorOfBytes_of_body release query]
  simp only [Descriptor.bytes, kindOfByte_byte, ofNat_getLsbD_zero, leBytes_tag, leBytes_cookie bs (by omega),
    leBytes_leNat_field bs 4 2 (by omega), leBytes_leNat_field bs 8 4 (by omega),
    leBytes_leNat_field bs 12 4 (by omega), ofNat_byteAt]
  rw [show (bs.drop 4).take 14 = field bs 4 14 from rfl, body]
  simp only [List.append_assoc, List.cons_append, List.nil_append]

/-- Settles O17. -/
theorem descriptorFields : Obligations.DescriptorFields := by
  refine ⟨fun ws four => ⟨ws.flatMap wordBytes, ?_, fun i k _ hk => flatMap_wordBytes_getD ws i k hk, rfl⟩,
    actionOfByte_eq_some, stopModeOfByte_eq_some, fun bs long => ⟨descriptorOfBytes_tag_toNat bs, ?_,
    descriptorOfBytes_of_bodyless, fun release query => ⟨?_, descriptorOfBytes_bytes_of_body long release query⟩, ?_⟩⟩
  · simp [List.length_flatMap, wordBytes_length, four]
  · rw [descriptorOfBytes_cookie_toNat, leNat_field_four]
  · rw [descriptorOfBytes_of_body release query, kindOfByte_of_body release query, leNat_field_two, leNat_field_four,
      leNat_field_four]
  · intro bodyless
    have kind : (if bs.getD 0 0 = 0x02 then DescriptorKind.release else .query).byte = bs.getD 0 0 := by
      rcases bodyless with h | h <;> rw [h] <;> rfl
    rw [descriptorOfBytes_of_bodyless bodyless]
    simp only [Descriptor.bytes, kind, leBytes_tag, leBytes_cookie bs (by omega)]
    rfl

end Sys2Proof.Machine
end

section
/-! SUPPORT. The reads of a client port, the STATUS word, and R9's signal and the freeing of a buffer, with the statements
about them (spec/07 R136, R142, R144, R149, spec/08 R157 to R166, spec/11 R203, Table 11-8). -/

namespace Sys2Proof.Machine

/-! ### ANSWER -/

theorem leNat_leBytes (n v : Nat) : leNat (leBytes n v) = v % 256 ^ n := by
  induction n generalizing v with
  | zero => simp [leBytes, leNat, Nat.mod_one]
  | succ n ih =>
    show v % 256 + 256 * leNat (leBytes n (v / 256)) = _
    rw [ih, Nat.pow_succ', Nat.mod_mul]

theorem bytesWord_wordBytes (w : Word64) : bytesWord (wordBytes w) = w := by
  apply BitVec.eq_of_toNat_eq
  rw [bytesWord, List.take_of_length_le (by rw [wordBytes_length]), wordBytes, leNat_leBytes, BitVec.toNat_ofNat,
    Nat.mod_eq_of_lt (a := w.toNat) (by exact w.isLt), Nat.mod_eq_of_lt w.isLt]

/-- A beat with every lane enabled returns the whole word. -/
theorem maskLanes_all (w : Word64) : maskLanes 0xFF w = w := by
  have kept : ((wordBytes w).zipIdx.map fun x => if (0xFF : Lanes).getLsbD x.2 then x.1 else 0) = wordBytes w := by
    simp [wordBytes_eq]
  rw [maskLanes, kept, bytesWord_wordBytes]

theorem leNat_replicate_zero (n : Nat) : leNat (List.replicate n 0) = 0 := by
  induction n with
  | zero => rfl
  | succ n ih => rw [List.replicate_succ, leNat, ih]; rfl

theorem recordWord_emptyRecord (i : Nat) : recordWord emptyRecord i = 0 := by
  simp only [recordWord, emptyRecord, field, bytesWord, List.drop_replicate, List.take_replicate,
    leNat_replicate_zero]
  rfl

theorem State.ansN_eq_false (s : State) (p : PortId) : s.ansN p = false ↔ (s.port p).answers ≠ [] := by
  simp [State.ansN]

theorem Port.headRecord_of_cons {q : Port} {a : Answer} {rest : List Answer} (h : q.answers = a :: rest) :
    q.headRecord = a.bytes := by
  simp only [Port.headRecord, h]

theorem Port.answerData_four (q : Port) :
    q.answerData (List.replicate 4 0xFF) = (List.range 4).map (recordWord q.headRecord) := by
  show [_, _, _, _] = [_, _, _, _]
  simp only [maskLanes_all]

theorem Port.answerData_of_empty {q : Port} (empty : q.answers = []) (beats : List Lanes) :
    q.answerData beats = beats.map fun _ => 0 := by
  have head : q.headRecord = emptyRecord := by simp only [Port.headRecord, empty]
  have zero (lanes : Lanes) : maskLanes lanes (0#64) = 0#64 := maskLanes_zero lanes
  simp [Port.answerData, head, recordWord_emptyRecord, zero]

theorem Port.pops_four {q : Port} (some : q.answers ≠ []) : q.pops (List.replicate 4 0xFF) = true := by
  simp [Port.pops, allLanes, some]

theorem exec_answer_peek {p : PortId} {s : State} {beats : List Lanes} (peek : (s.port p).pops beats = false) :
    exec (.answer p beats) s = .next (s.setPort p (Port.okay ((s.port p).answerData beats) (s.port p))) := by
  simp [exec, execAnswer, peek, State.busAnswer_eq]

theorem exec_answer_pop {p : PortId} {s : State} {beats : List Lanes} (pop : (s.port p).pops beats = true) :
    exec (.answer p beats) s = .next ((s.popAnswer p).setPort p
      (Port.okay ((s.port p).answerData beats) ((s.popAnswer p).port p))) := by
  simp [exec, execAnswer, pop, State.busAnswer_eq]

/-- A pop with no context CLOSING clears a NO_ANSWER_SPACE stall. -/
theorem State.popAnswer_of_no_closing {s : State} {p : PortId} (none : (s.port p).closing = []) :
    s.popAnswer p = s.setPort p { s.port p with
      answers := (s.port p).answers.tail
      intake := if (s.port p).intake = .noAnswerSpace then .running else (s.port p).intake } := by
  simp [State.popAnswer, none, State.onPort_eq]

/-- A pop grants the freed entry to the oldest CLOSING context. -/
theorem State.popAnswer_of_closing {s : State} {p : PortId} {e : Entry} {more : List Entry} {n : OwedNotice}
    (oldest : (s.port p).closing = e :: more) (state : (s.ctx e).state = .closing) (port : (s.ctx e).port = p)
    (owed : (s.ctx e).owedNotice = some n) :
    s.popAnswer p = (s.setCtx e Context.free).setPort p (Port.signalled
      { s.port p with
        answers := (s.port p).answers.tail ++ [⟨(s.ctx e).tag, 0, .notice n.kind n.lastAttempt⟩], closing := more }
      (s.ctx e).tag) := by
  simp [State.popAnswer, oldest, state, owed, State.freeContext, State.signal, State.post, noticeAnswer, port,
    State.onPort_eq]

/-- Settles O22. -/
theorem answerPopsOrPeeks : Obligations.AnswerPopsOrPeeks := by
  rintro p s q rfl
  refine ⟨s.ansN_eq_false p, ?_, fun empty beats => ?_⟩
  · rintro a rest data records rfl
    have some : (s.port p).answers ≠ [] := by simp [records]
    have words : (s.port p).answerData (List.replicate 4 0xFF) = (List.range 4).map (recordWord a.bytes) := by
      rw [Port.answerData_four, Port.headRecord_of_cons records]
    refine ⟨fun none => ?_, fun e more n oldest state port owed => ?_, fun beats other => ?_⟩
    · rw [exec_answer_pop (Port.pops_four some), words, State.popAnswer_of_no_closing none]
      simp [records, State.ansN, Port.okay]
    · rw [exec_answer_pop (Port.pops_four some), words, State.popAnswer_of_closing oldest state port owed]
      simp [records, State.ansN, Port.okay, Port.signalled]
    · rw [exec_answer_peek (by simpa [Port.pops, allLanes] using fun four => absurd four other), Port.answerData,
        Port.headRecord_of_cons records]
  · rw [exec_answer_peek (by simp [Port.pops, empty]), Port.answerData_of_empty empty]

/-! ### STATUS and the other accesses -/

theorem exec_status (p : PortId) (lanes : Lanes) (later : List ReadBeat) (s : State) :
    exec (.status p lanes later) s = .next (s.setPort p (Port.okay
      (maskLanes lanes (s.port p).statusWord :: later.map (s.port p).beatWord)
      { s.port p with submitDropped := false, softDropped := false })) := by
  simp [exec, execStatus, State.busAnswer_eq, State.onPort_eq]

theorem exec_unmappedWrite (p : PortId) (a : OtherAccess) (s : State) :
    exec (.unmappedWrite p a) s = .next (s.setPort p (Port.okay ((s.port p).otherData a) (s.port p))) := rfl

/-- Outside the slot window a beat reads 0. -/
theorem Port.beatWord_outside {q : Port} {b : ReadBeat} (outside : b.addr.toNat < 0x4000 ∨ 0x5000 ≤ b.addr.toNat) :
    q.beatWord b = 0 := by
  rw [Port.beatWord, if_neg]
  simp only [wordOffset, Config.offSlots, Config.offSlotsEnd]
  omega

/-- Inside slot i's part of the window a beat reads a word of that slot. -/
theorem Port.beatWord_inside {q : Port} {b : ReadBeat} {i : SlotId} (low : 0x4000 + 0x400 * i.val ≤ b.addr.toNat)
    (high : b.addr.toNat < 0x4400 + 0x400 * i.val) :
    q.beatWord b = maskLanes b.lanes (match q.outSlot i with
      | .held payload => bytesWord (field payload (b.addr.toNat / 8 * 8 - (0x4000 + 0x400 * i.val)) 8)
      | .free => 0
      | .reserved => 0) := by
  have hi := i.isLt
  have named : Fin.ofNat 4 ((b.addr.toNat / 8 * 8 - 0x4000) / 0x400) = i := by
    apply Fin.ext
    simp only [Fin.ofNat]
    omega
  have offset : (b.addr.toNat / 8 * 8 - 0x4000) % 0x400 = b.addr.toNat / 8 * 8 - (0x4000 + 0x400 * i.val) := by omega
  have inside : 0x4000 ≤ b.addr.toNat / 8 * 8 ∧ b.addr.toNat / 8 * 8 < 0x5000 := by omega
  simp only [Port.beatWord, Port.slotWord, wordOffset, Config.offSlots, Config.offSlotsEnd, Config.slotBytes, named,
    offset, inside, and_self, if_true] <;> rfl

/-- Settles O24. -/
theorem statusAndOtherAccesses : Obligations.StatusAndOtherAccesses := by
  refine ⟨bytesWord_field_extractLsb', ?_⟩
  rintro p s q rfl
  refine ⟨fun lanes later => exec_status p lanes later s, fun beats => exec_unmappedWrite p _ s,
    fun addr w => exec_unmappedWrite p _ s, fun b => ⟨Port.beatWord_outside, fun i low high => ?_⟩⟩
  rw [Port.beatWord_inside low high]
  refine ⟨fun payload held => by rw [held], fun other => ?_⟩
  cases slot : (s.port p).outSlot i with
  | held payload => exact absurd slot (other payload)
  | free => exact maskLanes_zero _
  | reserved => exact maskLanes_zero _

/-! ### R9's signal and the freeing of a buffer -/

/-- Settles O31. -/
theorem signalsAndFreedBuffers : Obligations.SignalsAndFreedBuffers := by
  refine fun q tag => ⟨fun r waits => ?_, fun others => ?_, fun x rest order reserved front named => ?_, fun quiet => ?_,
    rfl, rfl, rfl, fun filling => ?_, fun other => ?_, fun filling => ?_, fun free => ?_, fun other bound => ?_⟩
  · simp only [Port.signalled, waits]
  · cases slot : q.slot with
    | empty => simp only [Port.signalled, slot]
    | ready r => simp only [Port.signalled, slot]
    | keyWait r => exact absurd slot (others r)
  · exact ⟨reserved, order, by simp [Port.signalled, order, reserved, front, named]⟩
  · rcases quiet with other | running | unreserved
    · cases front : q.queue with
      | nil => simp [Port.signalled, front]
      | cons x rest => simp [Port.signalled, front, other x rest front]
    · simp [Port.signalled, running]
    · simp [Port.signalled, unreserved]
  all_goals simp_all [Port.freeBuffer, Port.setBuf, Port.refill, Port.filling?, Buffer.free]

/-! ### The STATUS word -/

theorem PortState.code_le (x : PortState) : x.code ≤ 3 := by
  cases x <;> simp [PortState.code]

theorem IntakeState.code_le (x : IntakeState) : x.code ≤ 3 := by
  cases x <;> decide

theorem RequestSlot.code_le (x : RequestSlot) : x.code ≤ 2 := by
  cases x <;> simp [RequestSlot.code]

theorem Port.fillingCode_le (q : Port) : q.fillingCode ≤ 2 := by
  unfold Port.fillingCode
  split <;> decide

theorem Port.outSlots_toList (q : Port) : q.outSlots.toList = (List.finRange 4).map q.outSlot := by
  refine List.ext_getElem (by simp) fun i h _ => ?_
  simp [Port.outSlot, Vector.get_eq_getElem]

theorem Port.slotsHeld_eq (q : Port) :
    q.slotsHeld =
      ((List.finRange 4).filter fun i => decide (q.outSlot i ≠ .free ∧ q.outSlot i ≠ .reserved)).length := by
  rw [Port.slotsHeld, Port.outSlots_toList, List.filter_map, List.length_map]
  congr 2
  funext i
  cases h : q.outSlot i <;> simp [h]

theorem Port.slotsHeld_le (q : Port) : q.slotsHeld ≤ 4 := by
  rw [Port.slotsHeld_eq]
  exact List.length_filter_le _ _

theorem Bool.toNat_lt_two (b : Bool) : b.toNat < 2 := by
  cases b <;> decide

/-- The STATUS word is the sum of its fields: they fit side by side. -/
theorem Port.statusWord_toNat {q : Port} (assembly : q.assembly.length ≤ 3) (queue : q.queue.length ≤ 32)
    (values : q.fillingBuffer.values.length ≤ 24592) (answers : q.answers.length ≤ 64)
    (reservations : q.reservations ≤ 64) :
    q.statusWord.toNat = q.state.code + 2 ^ 2 * q.intake.code + 2 ^ 4 * q.submitDropped.toNat +
      2 ^ 5 * q.softDropped.toNat + 2 ^ 6 * q.assembly.length + 2 ^ 8 * q.queue.length + 2 ^ 14 * q.fillingCode +
      2 ^ 16 * q.fillingBuffer.values.length + 2 ^ 31 * q.fillingBuffer.overrun.toNat + 2 ^ 32 * q.slot.code +
      2 ^ 34 * q.answers.length + 2 ^ 41 * q.reservations + 2 ^ 48 * q.slotsHeld := by
  have state := q.state.code_le
  have intake := q.intake.code_le
  have submit := Bool.toNat_lt_two q.submitDropped
  have soft := Bool.toNat_lt_two q.softDropped
  have filling := q.fillingCode_le
  have overrun := Bool.toNat_lt_two q.fillingBuffer.overrun
  have slot := q.slot.code_le
  have held := q.slotsHeld_le
  rw [Port.statusWord, BitVec.toNat_ofNat]
  exact Nat.mod_eq_of_lt (by omega)

/-- Settles O25. -/
theorem statusWordFields : Obligations.StatusWordFields := by
  intro q v assembly queue values answers reservations word
  have state := q.state.code_le
  have intake := q.intake.code_le
  have submit := Bool.toNat_lt_two q.submitDropped
  have soft := Bool.toNat_lt_two q.softDropped
  have filling := q.fillingCode_le
  have overrun := Bool.toNat_lt_two q.fillingBuffer.overrun
  have slot := q.slot.code_le
  have held := q.slotsHeld_le
  rw [Port.statusWord_toNat assembly queue values answers reservations] at word
  refine ⟨by omega, by omega, by omega, by omega, by omega, by omega, by omega, by omega, by omega, by omega, by omega,
    by omega, by omega, by omega, ?_, ?_, ?_, fun lower => ?_, fun other upper => ?_, fun other none => ?_,
    q.slotsHeld_eq⟩
  · cases q.state <;> rfl
  · cases q.intake <;> rfl
  · cases q.slot <;> rfl
  · have filling := (q.filling?_eq_s0).2 lower
    simp only [Port.fillingCode, Port.fillingBuffer, filling, Port.buf, and_self]
  · have filling := (q.filling?_eq_s1).2 ⟨other, upper⟩
    simp only [Port.fillingCode, Port.fillingBuffer, filling, Port.buf, and_self]
  · have filling := (q.filling?_eq_none).2 ⟨other, none⟩
    simp only [Port.fillingCode, Port.fillingBuffer, filling, Buffer.free, and_self]

end Sys2Proof.Machine
end

section
/-! SUPPORT. What a lookup finds, and one try of the intake by the kind of its head, with the statements about it (spec/07
R137 to R144, spec/01 R4, R9, R25 to R28). -/

namespace Sys2Proof.Machine

/-! ### Lookups -/

theorem State.geometryOf_eq_some {s : State} {K : Nat} {g : GeometryEntry} (h : s.geometryOf K = some g) :
    g ∈ s.geometry ∧ g.K = K :=
  ⟨List.mem_of_find?_eq_some h, by simpa using List.find?_some h⟩

theorem State.geometryOf_eq_none (s : State) (K : Nat) : s.geometryOf K = none ↔ ∀ g ∈ s.geometry, g.K ≠ K := by
  simp [State.geometryOf]

theorem State.hasKey_of_lookup {s : State} {p : PortId} {tag : Tag} {e : Entry} (h : s.lookup p tag = some e) :
    s.hasKey e p tag := by
  have found := List.find?_some h
  simp only [Bool.and_eq_true, bne_iff_ne, beq_iff_eq] at found
  exact ⟨found.1.1, found.1.2, found.2⟩

theorem State.lookup_eq_none (s : State) (p : PortId) (tag : Tag) :
    s.lookup p tag = none ↔ ∀ e, ¬ s.hasKey e p tag := by
  simp only [State.lookup, List.find?_eq_none, mem_allEntries, true_imp_iff, State.hasKey, Bool.and_eq_true,
    bne_iff_ne, beq_iff_eq, and_assoc]

theorem State.lookup_eq_some_iff {s : State} (keys : KeyLaw s) (p : PortId) (tag : Tag) (e : Entry) :
    s.lookup p tag = some e ↔ s.hasKey e p tag := by
  refine ⟨State.hasKey_of_lookup, fun h => ?_⟩
  cases found : s.lookup p tag with
  | none => exact absurd h ((s.lookup_eq_none p tag).1 found e)
  | some d =>
    obtain ⟨on, port, key⟩ := State.hasKey_of_lookup found
    obtain ⟨on', port', key'⟩ := h
    rw [keys d e on on' (port.trans port'.symm) (key.trans key'.symm)]

theorem CtxState.busy_iff (x : CtxState) : x.busy = true ↔ x = .combining ∨ x = .decoding ∨ x = .closing := by
  cases x <;> simp [CtxState.busy]

theorem State.keyBusy_iff (s : State) (p : PortId) (tag : Tag) :
    s.keyBusy p tag = true ↔ ∃ e, s.lookup p tag = some e ∧
      ((s.ctx e).state = .combining ∨ (s.ctx e).state = .decoding ∨ (s.ctx e).state = .closing) := by
  unfold State.keyBusy
  cases found : s.lookup p tag <;> simp [CtxState.busy_iff]

/-! ### The checks of an ATTEMPT -/

theorem inRange_iff (lo hi n : Nat) : inRange lo hi n = true ↔ lo ≤ n ∧ n ≤ hi := by
  simp [inRange]

/-- The checks of an ATTEMPT that names an action and a size of the Geometry Table, one after the other. -/
theorem State.checkAttempt_of_size {s : State} {p : PortId} {x : QueueEntry} {a : Action} {g : GeometryEntry}
    (attempt : x.descriptor.kind = .attempt) (action : actionOfByte x.descriptor.action = some a)
    (size : s.geometryOf x.descriptor.K = some g) :
    s.checkAttempt p x =
      if ¬ (1 ≤ x.descriptor.attempt ∧ x.descriptor.attempt ≤ (s.port p).profile.maxAttempts) then .error .badAttempt
      else if ¬ (x.descriptor.start < 3 * x.descriptor.K + 16 ∧ 1 ≤ x.descriptor.count ∧
          x.descriptor.count ≤ 3 * x.descriptor.K + 16) then .error .badRange
      else if ¬ (1 ≤ x.descriptor.iterationLimit ∧ x.descriptor.iterationLimit ≤ (s.port p).profile.iterationCap) ∨
          (x.descriptor.iterationLimit = 1 ∧ x.descriptor.checksumPresent = false) ∧ a = .decode then .error .badLimit
      else
        match stopModeOfByte x.descriptor.stopMode with
        | none => .error .badStop
        | some m =>
          if (m = .check ∨ m = .either) ∧ x.descriptor.checksumPresent = false then .error .badStop
          else
            match x.buffer with
            | none => .error .lengthMismatch
            | some b =>
              if x.valuesReceived ≠ (x.descriptor.count + 7) / 8 * 8 ∨ x.overrun = true then .error .lengthMismatch
              else .ok { tag := x.descriptor.tag, K := x.descriptor.K, attempt := x.descriptor.attempt,
                         start := x.descriptor.start, count := x.descriptor.count,
                         checksumPresent := x.descriptor.checksumPresent, action := a,
                         iterationLimit := x.descriptor.iterationLimit, stopMode := m, cookie := x.descriptor.cookie,
                         buffer := b, valuesReceived := x.valuesReceived } := by
  simp only [State.checkAttempt, attempt, action, size, Bool.not_eq_true', ← Bool.not_eq_true, inRange_iff,
    Bool.and_eq_true, decide_eq_true_eq, Bool.or_eq_true, beq_iff_eq, bne_iff_ne]
  simp only [Bool.not_eq_true]
  rfl

/-- Settles O26. -/
theorem intakeChecksInOrder : Obligations.IntakeChecksInOrder := by
  refine ⟨fun s K => ⟨fun g => State.geometryOf_eq_some, s.geometryOf_eq_none K⟩, ?_⟩
  rintro s p x d f rfl rfl
  refine ⟨fun bad => ?_, fun a attempt action => ⟨fun noSize => ?_, fun g size => ?_⟩⟩
  · unfold State.checkAttempt
    dsimp only
    split
    · next kind action => rcases bad with h | h <;> simp_all
    · rfl
  · simp only [State.checkAttempt, attempt, action, noSize]
  · rw [State.checkAttempt_of_size attempt action size]
    refine ⟨fun number => if_pos (by omega), fun one most => ?_⟩
    rw [if_neg (by omega)]
    refine ⟨fun range => if_pos (by omega), fun start nonzero count => ?_⟩
    rw [if_neg (by omega)]
    refine ⟨fun limit => if_pos ?_, fun once cap single => ?_⟩
    · rcases limit with zero | above | ⟨single, bare, decode⟩
      · exact .inl (by omega)
      · exact .inl (by omega)
      · exact .inr ⟨⟨single, bare⟩, decode⟩
    rw [if_neg (by
      rintro (out | ⟨⟨h, bare⟩, rfl⟩)
      · omega
      · rcases single h with present | hold
        · rw [bare] at present; cases present
        · cases hold)]
    refine ⟨fun noMode => by rw [noMode], fun m mode => ?_⟩
    rw [mode]
    refine ⟨fun checks bare => if_pos ⟨checks, bare⟩, fun present => ?_⟩
    dsimp only
    rw [if_neg (by rintro ⟨checks, bare⟩; rw [present checks] at bare; cases bare)]
    refine ⟨fun mismatch => ?_, fun b buffer values overrun => ?_⟩
    · cases buffer : x.buffer with
      | none => rfl
      | some b => exact if_pos (mismatch.resolve_left (by simp [buffer]))
    · rw [buffer]
      exact if_neg (by simp [values, overrun])

/-! ### A try of the intake -/

theorem exec_intakeTry_of_due {p : PortId} {s : State} {x : QueueEntry} {rest : List QueueEntry}
    (front : (s.port p).queue = x :: rest) (due : (s.port p).tryDue = true) :
    exec (.intakeTry p) s = .next ((s.tryHead p x).settle p) := by
  simp only [exec, execIntakeTry, front, due, if_true]

theorem Port.triesFresh.due {q : Port} (h : q.triesFresh) (queued : q.queue ≠ []) : q.tryDue = true := by
  obtain ⟨unreserved, running | ⟨busy | order, empty⟩⟩ := h
  · simp [Port.tryDue, running, queued]
  · simp [Port.tryDue, busy, empty]
  · simp [Port.tryDue, order, unreserved, empty]

theorem Port.triesAgain.due {q : Port} (h : q.triesAgain) : q.tryDue = true := by
  obtain ⟨reserved, order, signalled⟩ := h
  simp [Port.tryDue, order, reserved, signalled]

theorem Port.room_iff (q : Port) : q.room = true ↔ q.answers.length + q.reservations < 64 := by
  rw [Port.room, decide_eq_true_eq]
  rfl

/-- The intake has answer space for its head: a reservation made before, or a free entry (R138). -/
def Port.hasSpace (q : Port) : Prop := q.headReserved = true ∨ q.answers.length + q.reservations < 64

theorem Port.hasSpace_iff (q : Port) : q.hasSpace ↔ (!q.headReserved && !q.room) = false := by
  rw [Port.hasSpace, ← Port.room_iff]
  cases q.headReserved <;> cases q.room <;> decide

theorem State.stall_eq (s : State) (p : PortId) (i : IntakeState) :
    s.stall p i = s.setPort p { s.port p with intake := i, stallSignalled := false } := rfl

theorem State.tryHead_of_full {s : State} {p : PortId} {x : QueueEntry} (fresh : (s.port p).headReserved = false)
    (full : 64 ≤ (s.port p).answers.length + (s.port p).reservations) :
    s.tryHead p x = s.stall p .noAnswerSpace := by
  have noRoom : (s.port p).room = false := by
    rw [← Bool.not_eq_true, Port.room_iff]
    omega
  simp [State.tryHead, fresh, noRoom]

theorem State.tryHead_of_attempt {s : State} {p : PortId} {x : QueueEntry} (space : (s.port p).hasSpace)
    (kind : x.descriptor.kind = .attempt ∨ ∃ code, x.descriptor.kind = .unnamed code) :
    s.tryHead p x = s.tryAttempt p x := by
  rw [State.tryHead, (Port.hasSpace_iff _).1 space]
  rcases kind with kind | ⟨code, kind⟩ <;> simp only [kind] <;> rfl

/-- A failed check is answered into the space found, the head disposed of. -/
theorem State.refuseHead_eq {s : State} {p : PortId} {x : QueueEntry} {rest : List QueueEntry}
    (front : (s.port p).queue = x :: rest) (fresh : (s.port p).headReserved = false) (r : RefusalReason) :
    s.refuseHead p x r =
      (s.setPort p (x.buffer.elim id Port.freeBuffer
        ((s.port p).disposed ⟨x.descriptor.tag, x.descriptor.cookie, .refused r⟩ rest))).countRefusal p := by
  cases buffer : x.buffer <;>
    simp [State.refuseHead, buffer, State.post, State.disposeHead, State.freeBuffer, State.countRefusal,
      State.setCounters, State.counters, State.onPort_eq, Port.disposed, front, fresh]

theorem State.placeHead_eq {s : State} {p : PortId} {x : QueueEntry} {rest : List QueueEntry} {r : Request}
    (front : (s.port p).queue = x :: rest) :
    s.placeHead p r = s.setPort p { s.port p with
      queue := rest, intake := .running, headReserved := false, stallSignalled := false,
      reservations := (s.port p).reservations + 1,
      slot := if s.keyBusy p r.tag then .keyWait r else .ready r } := by
  simp [State.placeHead, State.reserve, State.disposeHead, State.onPort_eq, front]

/-- Settles O27. -/
theorem intakeTriesAnAttempt : Obligations.IntakeTriesAnAttempt := by
  refine ⟨?_, ?_⟩
  · rintro s p tag busy rfl
    refine ⟨fun e => State.hasKey_of_lookup, s.lookup_eq_none p tag, s.keyBusy_iff p tag, fun keys =>
      ⟨s.lookup_eq_some_iff keys p tag, ?_⟩⟩
    simp only [s.keyBusy_iff, State.lookup_eq_some_iff keys]
  · rintro p s q x rest rfl front fresh
    have unreserved := fresh.1
    rw [exec_intakeTry_of_due front (fresh.due (by simp [front]))]
    refine ⟨fun full => ?_, fun room kind => ?_⟩
    · rw [State.tryHead_of_full unreserved full, State.stall_eq]
    · rw [State.tryHead_of_attempt (.inr room) kind, State.tryAttempt]
      refine ⟨fun r error => ?_, fun r ok => ?_⟩
      · simp only [error, State.refuseHead_eq front unreserved]
        exact ⟨fun none => by rw [none]; rfl, fun b bound => by rw [bound]; rfl⟩
      · simp only [ok]
        refine ⟨fun empty => ?_, fun taken => ?_⟩
        · rw [if_pos empty, State.placeHead_eq front]
        · rw [if_neg taken, State.stall_eq]

/-! ### Queries -/

theorem RequestSlot.tag?_eq_some (slot : RequestSlot) (tag : Tag) :
    slot.tag? = some tag ↔ ∃ r, (slot = .ready r ∨ slot = .keyWait r) ∧ r.tag = tag := by
  cases slot <;> simp [RequestSlot.tag?]

theorem State.tryHead_of_order {s : State} {p : PortId} {x : QueueEntry} (space : (s.port p).hasSpace)
    (kind : x.descriptor.kind = .query ∨ x.descriptor.kind = .release)
    (behind : (s.port p).slot.tag? = some x.descriptor.tag) : s.tryHead p x = s.stall p .keyOrder := by
  rw [State.tryHead, (Port.hasSpace_iff _).1 space]
  rcases kind with kind | kind <;> simp only [kind, behind, if_true] <;> rfl

theorem State.tryHead_of_query {s : State} {p : PortId} {x : QueueEntry} (space : (s.port p).hasSpace)
    (kind : x.descriptor.kind = .query) (alone : (s.port p).slot.tag? ≠ some x.descriptor.tag) :
    s.tryHead p x = s.handQuery p x.descriptor := by
  rw [State.tryHead, (Port.hasSpace_iff _).1 space]
  simp only [kind, alone, if_false]
  rfl

theorem State.tryHead_of_release {s : State} {p : PortId} {x : QueueEntry} (space : (s.port p).hasSpace)
    (kind : x.descriptor.kind = .release) (alone : (s.port p).slot.tag? ≠ some x.descriptor.tag) :
    s.tryHead p x = s.handRelease p x.descriptor := by
  rw [State.tryHead, (Port.hasSpace_iff _).1 space]
  simp only [kind, alone, if_false]
  rfl

theorem State.handQuery_eq {s : State} {p : PortId} {x : QueueEntry} {rest : List QueueEntry}
    (front : (s.port p).queue = x :: rest) (fresh : (s.port p).headReserved = false) (d : Descriptor) :
    s.handQuery p d = s.setPort p ((s.port p).disposed ⟨d.tag, d.cookie, s.queryBody p d.tag⟩ rest) := by
  simp [State.handQuery, State.reserve, State.postReserved, State.disposeHead, State.onPort_eq, Port.disposed, front,
    fresh]

theorem State.queryBody_of_found {s : State} {p : PortId} {tag : Tag} {e : Entry} (found : s.lookup p tag = some e) :
    s.queryBody p tag = .status (s.ctx e).state (s.ctx e).K (s.ctx e).lastAttempt (s.ctx e).combinedCount
      (s.ctx e).pageCount
      (if (s.ctx e).state = .held ∨ (s.ctx e).state = .solved then
        (if (s.expiry.clock - (s.ctx e).deadline).toNat < 2 ^ 31 then 0 else (s.ctx e).deadline - s.expiry.clock)
      else 0) := by
  simp only [State.queryBody, found, deadlineReached, decide_eq_true_eq]
  cases (s.ctx e).state <;> rfl

/-- Settles O28. -/
theorem intakeAnswersAQuery : Obligations.IntakeAnswersAQuery := by
  refine ⟨RequestSlot.tag?_eq_some, ?_⟩
  rintro p s q x rest d rfl front rfl fresh room
  rw [exec_intakeTry_of_due front (fresh.due (by simp [front]))]
  refine ⟨fun kind behind => ?_, fun kind alone => ⟨fun unknown => ?_, ?_⟩⟩
  · rw [State.tryHead_of_order (.inr room) kind behind, State.stall_eq]
  · rw [State.tryHead_of_query (.inr room) kind alone, State.handQuery_eq front fresh.1]
    simp only [State.queryBody, unknown]
  · rintro e c ticks found rfl rfl
    rw [State.tryHead_of_query (.inr room) kind alone, State.handQuery_eq front fresh.1,
      State.queryBody_of_found found]

/-! ### Releases -/

theorem State.setPort_expiryRemove (s : State) (p : PortId) (q : Port) (e : Entry) :
    (s.setPort p q).expiryRemove e = (s.expiryRemove e).setPort p q := rfl

theorem State.setPort_giveBack (s : State) (p r : PortId) (q : Port) (pages : List Page) (n : Nat) :
    (s.setPort p q).giveBack r pages n = (s.giveBack r pages n).setPort p q := rfl

theorem State.setPort_dispatchRemove (s : State) (p r : PortId) (q : Port) (e : Entry) :
    (s.setPort p q).dispatchRemove r e = (s.dispatchRemove r e).setPort p q := by
  unfold State.dispatchRemove
  dsimp only
  split_ifs <;> first | rfl | contradiction

theorem State.setPort_abandonEntry (s : State) (p : PortId) (q : Port) (e : Entry) :
    (s.setPort p q).abandonEntry e = (s.abandonEntry e).setPort p q := rfl

theorem State.setPort_lookup (s : State) (p r : PortId) (q : Port) (tag : Tag) :
    (s.setPort p q).lookup r tag = s.lookup r tag := rfl

/-- A signal for another key leaves all but the stall's flag. -/
theorem Port.signalled_of_other {q : Port} {tag : Tag} (other : q.slot.tag? ≠ some tag) :
    q.signalled tag = { q with stallSignalled := (q.signalled tag).stallSignalled } := by
  cases slot : q.slot with
  | empty => simp [Port.signalled, slot]
  | ready r => simp [Port.signalled, slot]
  | keyWait r =>
    have : r.tag ≠ tag := by simpa [slot, RequestSlot.tag?] using other
    simp [Port.signalled, slot, this]

/-- The reservation that a handed RELEASE holds: the one made at an earlier try, or a new one. -/
def Port.releasing (q : Port) : Port :=
  { q with reservations := if q.headReserved then q.reservations else q.reservations + 1 }

theorem State.handRelease_eq (s : State) (p : PortId) (d : Descriptor) :
    s.handRelease p d =
      match (s.setPort p (s.port p).releasing).release? p d with
      | some u => u.disposeHead p
      | none => (s.setPort p (s.port p).releasing).setPort p
          { (s.port p).releasing with intake := .keyOrder, headReserved := true, stallSignalled := false } := by
  have handed : (if (s.port p).headReserved then s else s.reserve p) = s.setPort p (s.port p).releasing := by
    cases reserved : (s.port p).headReserved
    · simp [Port.releasing, State.reserve, State.onPort_eq, reserved]
    · have same : (s.port p).releasing = s.port p := by rw [Port.releasing, if_pos reserved]
      rw [same, State.setPort_self, if_pos rfl]
  rw [State.handRelease, handed]
  simp only [State.stall_eq, State.onPort_eq, State.setPort_setPort, State.setPort_port_same] <;> rfl

/-- The reservation a RELEASE holds ends with its answer. -/
theorem Port.releasing_reservations_sub (q : Port) :
    q.releasing.reservations - 1 = if q.headReserved then q.reservations - 1 else q.reservations := by
  rw [Port.releasing]
  split_ifs <;> rfl

/-- The port of a RELEASE answered at once: whatever signals its context's end gives, the head is disposed of. -/
theorem Port.disposed_of_release {q r : Port} {x : QueueEntry} {rest : List QueueEntry} {a : Answer} {b : Bool}
    (front : q.queue = x :: rest) (h : r = { q.releasing with stallSignalled := b }) :
    { r with
      answers := r.answers ++ [a], reservations := r.reservations - 1, queue := r.queue.tail, intake := .running,
      headReserved := false, stallSignalled := false } = q.disposed a rest := by
  have queue : q.queue.tail = rest := by rw [front]; rfl
  subst h
  rw [Port.disposed, ← Port.releasing_reservations_sub, ← queue]
  rfl

/-- Settles O29. -/
theorem intakeHandsOverARelease : Obligations.IntakeHandsOverARelease := by
  refine ⟨fun s e => ⟨rfl, by rw [State.abandonEntry, State.setUnits_units, Units.isPaired_map],
    fun u => by rw [State.abandonEntry, State.setUnits_units, Units.job_map]⟩, ?_⟩
  rintro p s q x rest d rfl front rfl kind tries alone
  have due : (s.port p).tryDue = true := tries.elim (fun h => h.1.due (by simp [front])) fun h => h.due
  have space : (s.port p).hasSpace := tries.elim (fun h => .inr h.2) fun h => .inl h.1
  rw [exec_intakeTry_of_due front due, State.tryHead_of_release space kind alone, State.handRelease_eq, State.release?,
    State.setPort_lookup]
  have queue : (s.port p).queue.tail = rest := by rw [front]; rfl
  refine ⟨fun unknown => ?_, ?_⟩
  · rw [unknown]
    simp only [State.postReserved, State.disposeHead, State.onPort_eq, State.setPort_setPort, State.setPort_port_same]
    rw [← Port.disposed_of_release front rfl]
    rfl
  · rintro e c found rfl
    obtain ⟨-, port, tag⟩ := State.hasKey_of_lookup found
    have signalled : (s.port p).releasing.signalled x.descriptor.tag =
        { (s.port p).releasing with
          stallSignalled := ((s.port p).releasing.signalled x.descriptor.tag).stallSignalled } :=
      Port.signalled_of_other alone
    rw [found]
    simp only [State.setPort_ctx]
    refine ⟨fun held => ?_, fun solved => ?_, fun owed queued decode => ?_, fun combining none => ?_,
      fun decoding none => ?_, fun stays => ?_⟩
    · simp only [held, State.releasePages, State.freeContext, State.signal, State.postReserved, State.disposeHead,
        State.setPort_expiryRemove, State.setPort_giveBack, State.setPort_setCtx, State.setPort_ctx,
        State.expiryRemove_ctx, State.giveBack_ctx, port, tag, State.onPort_eq, State.setPort_setPort,
        State.setPort_port_same]
      rw [← Port.disposed_of_release front signalled]
      rfl
    · simp only [solved, State.freeContext, State.signal, State.postReserved, State.disposeHead,
        State.setPort_expiryRemove, State.setPort_setCtx, State.setPort_ctx, State.expiryRemove_ctx, port, tag,
        State.onPort_eq, State.setPort_setPort, State.setPort_port_same]
      rw [← Port.disposed_of_release front signalled]
      rfl
    · simp only [queued, State.withdraw, decode, State.releasePages, State.freeContext, State.signal,
        State.postReserved, State.disposeHead, State.setPort_dispatchRemove, State.setPort_giveBack,
        State.setPort_setCtx, State.setPort_ctx, State.dispatchRemove_ctx, State.giveBack_ctx, port, tag,
        State.onPort_eq, State.setPort_setPort, State.setPort_port_same]
      rw [Port.signalled_of_other (q := { (s.port p).releasing with
          answers := (s.port p).releasing.answers ++ [⟨x.descriptor.tag, owed.cookie, .withdrawn⟩]
          reservations := (s.port p).releasing.reservations - 1 }) alone]
      simp only [List.append_assoc, List.cons_append, List.nil_append, Port.disposed,
        ← Port.releasing_reservations_sub, ← queue]
      rfl
    · simp only [combining, none, State.disposeHead, State.setPort_setCtx, State.onPort_eq, State.setPort_setPort,
        State.setPort_port_same, ← queue]
      rfl
    · simp only [decoding, none, State.disposeHead, State.setPort_setCtx, State.setPort_abandonEntry, State.onPort_eq,
        State.setPort_setPort, State.setPort_port_same, ← queue]
      rfl
    · rcases stays with closing | ⟨combining | decoding, some⟩
      · simp only [closing, State.setPort_setPort]
        rfl
      · obtain ⟨k, pending⟩ := Option.ne_none_iff_exists'.1 some
        simp only [combining, pending, State.setPort_setPort]
        rfl
      · obtain ⟨k, pending⟩ := Option.ne_none_iff_exists'.1 some
        simp only [decoding, pending, State.setPort_setPort]
        rfl

end Sys2Proof.Machine
end

section
/-! SUPPORT. What the end of a drain and the event of a port reset leave in each part of the state, and the statements about
them (spec/09 R177 to R183, spec/01 R24, spec/02 R41, spec/07 R147, spec/08 R168). -/

namespace Sys2Proof.Machine

/-! ### Contexts of a port in some states -/

theorem State.inStates_iff (s : State) (p : PortId) (k : CtxState → Bool) (e : Entry) :
    s.inStates p k e = true ↔ (s.ctx e).port = p ∧ (s.ctx e).state ≠ .free ∧ k (s.ctx e).state = true := by
  simp only [State.inStates, Bool.and_eq_true, beq_iff_eq, bne_iff_ne, and_assoc]

theorem inFlight_iff (x : CtxState) : inFlight x = true ↔ x = .combining ∨ x = .queued ∨ x = .decoding := by
  cases x <;> simp [inFlight]

theorem inSharedBlock_iff (x : CtxState) : inSharedBlock x = true ↔ x = .combining ∨ x = .decoding := by
  cases x <;> simp [inSharedBlock]

theorem endedAtReset_iff (x : CtxState) :
    endedAtReset x = true ↔ x = .queued ∨ x = .held ∨ x = .solved ∨ x = .closing := by
  cases x <;> simp [endedAtReset]

theorem State.any_inSharedBlock_iff (s : State) (p : PortId) :
    allEntries.any (s.inStates p inSharedBlock) = true ↔ s.inFlightWork p := by
  simp only [List.any_eq_true, mem_allEntries, true_and, State.inStates_iff, inSharedBlock_iff, State.inFlightWork]
  refine exists_congr fun e => and_congr_right fun _ => ⟨fun h => h.2, fun h => ⟨?_, h⟩⟩
  rcases h with h | h <;> rw [h] <;> decide

/-- A port is quiet with nothing queued, an empty slot and no work in flight (R177). -/
theorem State.quiet_iff (s : State) (p : PortId) :
    s.quiet p = true ↔ (s.port p).queue = [] ∧ (s.port p).slot = .empty ∧ ∀ e, (s.ctx e).port = p →
      (s.ctx e).state ≠ .combining ∧ (s.ctx e).state ≠ .queued ∧ (s.ctx e).state ≠ .decoding := by
  simp only [State.quiet, Bool.and_eq_true, List.isEmpty_iff, beq_iff_eq, Bool.not_eq_true', ← Bool.not_eq_true,
    List.any_eq_true, mem_allEntries, true_and, not_exists, State.inStates_iff, inFlight_iff, and_assoc]
  refine and_congr_right fun _ => and_congr_right fun _ => forall_congr' fun e => ?_
  constructor
  · intro h port
    refine ⟨fun x => h ⟨port, ?_, ?_⟩, fun x => h ⟨port, ?_, ?_⟩, fun x => h ⟨port, ?_, ?_⟩⟩ <;> simp [x]
  · rintro h ⟨port, -, x⟩
    obtain ⟨a, b, c⟩ := h port
    rcases x with x | x | x <;> contradiction

theorem State.attnN_eq_false (s : State) :
    s.attnN = false ↔ ∃ r, (s.causes r).drainDone = true ∨ (s.causes r).resetDone = true := by
  simp [State.attnN]

/-! ### Contexts ended together -/

/-- The ended contexts that hold pages, lowest entry first. -/
theorem State.filter_inStates_holdsPages (s : State) (p : PortId) (k : CtxState → Bool) :
    (allEntries.filter (s.inStates p k)).filter (fun e => (s.ctx e).state.holdsPages) =
      allEntries.filter fun e => (s.ctx e).port == p && (k (s.ctx e).state && (s.ctx e).state.holdsPages) := by
  rw [List.filter_filter]
  refine List.filter_congr fun e _ => ?_
  have on : ∀ x : CtxState, (x.holdsPages && x != .free) = x.holdsPages := by
    intro x; cases x <;> rfl
  rw [State.inStates, ← on (s.ctx e).state]
  cases (s.ctx e).port == p <;> cases k (s.ctx e).state <;> simp

theorem State.endContexts_freeList (s : State) (p : PortId) (k : CtxState → Bool) :
    (s.endContexts p k).pool.freeList = s.pool.freeList ++
      (allEntries.filter fun e => (s.ctx e).port == p && (k (s.ctx e).state && (s.ctx e).state.holdsPages)).flatMap
        fun e => (s.ctx e).pages := by
  rw [← State.filter_inStates_holdsPages]
  rfl

theorem State.endContexts_usage (s : State) (p : PortId) (k : CtxState → Bool) :
    (s.endContexts p k).pool.usageOf p = s.pool.usageOf p -
      ((allEntries.filter fun e => (s.ctx e).port == p && (k (s.ctx e).state && (s.ctx e).state.holdsPages)).map
        fun e => (s.ctx e).pageCount).sum := by
  rw [← State.filter_inStates_holdsPages]
  show (s.pool.giveBack p _ _).usageOf p = _
  rw [Pool.giveBack_usage, if_pos rfl]

theorem State.endContexts_usage_other (s : State) (p r : PortId) (k : CtxState → Bool) (h : r ≠ p) :
    (s.endContexts p k).pool.usageOf r = s.pool.usageOf r := by
  show (s.pool.giveBack p _ _).usageOf r = _
  rw [Pool.giveBack_usage, if_neg (Ne.symm h)]

/-- The terms left out of a sum are 0. -/
theorem sum_map_filter_of_zero {α : Type} (l : List α) (keep : α → Bool) (f : α → Nat)
    (zero : ∀ x ∈ l, keep x = false → f x = 0) : ((l.filter keep).map f).sum = (l.map f).sum := by
  induction l with
  | nil => rfl
  | cons x xs ih =>
    have ih := ih fun y hy => zero y (List.mem_cons_of_mem _ hy)
    cases h : keep x with
    | true => rw [List.filter_cons_of_pos h, List.map_cons, List.map_cons, List.sum_cons, List.sum_cons, ih]
    | false =>
      rw [List.filter_cons_of_neg (by simp [h]), List.map_cons, List.sum_cons, ih,
        zero x List.mem_cons_self h, Nat.zero_add]

/-- A port whose contexts with pages are all ended holds no page any more. -/
theorem State.endContexts_usage_eq_zero {s : State} {p : PortId} {k : CtxState → Bool} (law : PoolLaw s)
    (all : ∀ e, (s.ctx e).port = p → (s.ctx e).state.holdsPages = true → k (s.ctx e).state = true) :
    (s.endContexts p k).pool.usageOf p = 0 := by
  have held : s.pool.usageOf p =
      ((allEntries.filter fun e => (s.ctx e).port == p && (k (s.ctx e).state && (s.ctx e).state.holdsPages)).map
        fun e => (s.ctx e).pageCount).sum := by
    rw [law.usage p, State.heldPages, ← sum_map_filter_of_zero (allEntries.filter fun e => (s.ctx e).port == p)
      (fun e => k (s.ctx e).state && (s.ctx e).state.holdsPages), List.filter_filter]
    · simp only [Bool.and_comm]
      refine congrArg List.sum (List.map_congr_left fun e he => ?_)
      have hold : (s.ctx e).state.holdsPages = true := by
        have := (List.mem_filter.1 he).2
        simp only [Bool.and_eq_true] at this
        tauto
      rw [law.listLength e, if_pos hold]
    · intro e he out
      have port : (s.ctx e).port = p := by simpa using (List.mem_filter.1 he).2
      rw [law.listLength e, if_neg]
      intro hold
      rw [all e port hold, hold] at out
      cases out
  rw [State.endContexts_usage, held, Nat.sub_self]

theorem State.endContexts_expiry_mem (s : State) (p : PortId) (k : CtxState → Bool) (e : Entry) :
    e ∈ (s.endContexts p k).expiry.list ↔ e ∈ s.expiry.list ∧ ¬ s.inStates p k e = true := by
  show e ∈ s.expiry.list.filter _ ↔ _
  rw [List.mem_filter, Bool.not_eq_true', Bool.not_eq_true]

theorem State.endContexts_port (s : State) (p r : PortId) (k : CtxState → Bool) :
    (s.endContexts p k).port r = if p = r then { s.port p with closing := [] } else s.port r := by
  rw [State.endContexts, State.onPort_port]
  rfl

/-! ### The end of a drain -/

theorem State.closeDrain_port (s : State) (p r : PortId) :
    (s.closeDrain p).port r = if p = r then Port.offWith (s.port p).profile (s.port p).bus else s.port r := by
  show ((s.endContexts p endedAtClose).onPort p fun q => Port.offWith q.profile q.bus).port r = _
  rw [State.onPort_port, State.endContexts_port, State.endContexts_port]
  split_ifs <;> rfl

theorem State.closeDrain_causes_same (s : State) (p : PortId) :
    (s.closeDrain p).causes p = { s.causes p with drainDone := true } := by
  rw [State.closeDrain, State.setOpportunity_causes, State.setCauses_same]
  rfl

theorem State.closeDrain_causes_other (s : State) (p r : PortId) (h : r ≠ p) :
    (s.closeDrain p).causes r = s.causes r := by
  rw [State.closeDrain, State.setOpportunity_causes, State.setCauses_other _ _ _ _ h.symm]
  rfl

/-- A quiet port's contexts that are not FREE are those that its drain close ends. -/
theorem State.inStates_endedAtClose_iff {s : State} {p : PortId} (quiet : s.quiet p = true) (e : Entry) :
    s.inStates p endedAtClose e = true ↔ (s.ctx e).port = p ∧ (s.ctx e).state ≠ .free := by
  rw [State.inStates_iff]
  refine and_congr_right fun port => ?_
  obtain ⟨a, b, c⟩ := ((s.quiet_iff p).1 quiet).2.2 e port
  cases h : (s.ctx e).state <;> simp_all [endedAtClose]

theorem State.settle_of_draining {s : State} {p : PortId} (draining : (s.port p).state = .draining) :
    s.settle p = if s.quiet p then s.closeDrain p else s := by
  simp only [State.settle, draining]

theorem State.settle_of_resetting {s : State} {p : PortId} {target : ResetTarget}
    (resetting : (s.port p).state = .resetting target) :
    (s.inFlightWork p → s.settle p = s) ∧ (¬ s.inFlightWork p → s.settle p = s.endReset p target) := by
  simp only [State.settle, resetting, ← State.any_inSharedBlock_iff]
  exact ⟨fun h => if_pos h, fun h => if_neg h⟩

theorem State.endReset_active (s : State) (p : PortId) :
    s.endReset p .active =
      ((s.setPort p { s.port p with state := .active }).setCauses p { s.causes p with resetDone := true }).setOpportunity
        true := rfl

theorem State.endReset_off (s : State) (p : PortId) :
    s.endReset p .off = ((s.setPort p (Port.offWith (s.port p).profile (s.port p).bus)).setCauses p
      { s.causes p with resetDone := true }).setOpportunity true := rfl

theorem State.endReset_causes_same (s : State) (p : PortId) (target : ResetTarget) :
    (s.endReset p target).causes p = { s.causes p with resetDone := true } := by
  cases target
  · rw [State.endReset_active, State.setOpportunity_causes, State.setCauses_same]
  · rw [State.endReset_off, State.setOpportunity_causes, State.setCauses_same]

/-- Settles O30. -/
theorem drainsCloseAndResetsEnd : Obligations.DrainsCloseAndResetsEnd := by
  rintro s p q rfl
  refine ⟨s.attnN_eq_false, fun still => ?_, fun draining => ⟨fun busy => ?_, fun queue slot flight => ?_⟩,
    fun target resetting => ⟨(State.settle_of_resetting resetting).1, fun idle => ?_⟩⟩
  · rcases still with h | h <;> simp only [State.settle, h]
  · rw [State.settle_of_draining draining, if_neg]
    rw [State.quiet_iff]
    rintro ⟨noQueue, noSlot, noFlight⟩
    rcases busy with h | h | ⟨e, port, state⟩
    · exact h noQueue
    · exact h noSlot
    · obtain ⟨a, b, c⟩ := noFlight e port
      tauto
  · have quiet : s.quiet p = true := (s.quiet_iff p).2 ⟨queue, slot, flight⟩
    rw [State.settle_of_draining draining, if_pos quiet]
    refine ⟨rfl, by rw [State.closeDrain_port, if_pos rfl], fun e => ?_, ?_, fun law => ?_, List.filter_sublist,
      fun e => ?_, s.closeDrain_causes_same p, ?_, fun r other => ⟨?_, s.closeDrain_causes_other p r other, ?_⟩⟩
    · simp only [State.closeDrain_ctx, State.inStates_endedAtClose_iff quiet]
    · rw [show (s.closeDrain p).pool = (s.endContexts p endedAtClose).pool from rfl, State.endContexts_freeList]
      congr 2
      refine List.filter_congr fun e _ => ?_
      cases (s.ctx e).state <;> rfl
    · refine State.endContexts_usage_eq_zero law fun e port holds => ?_
      obtain ⟨a, b, c⟩ := flight e port
      cases h : (s.ctx e).state <;> simp_all [endedAtClose, CtxState.holdsPages]
    · rw [← State.inStates_endedAtClose_iff quiet]
      exact s.endContexts_expiry_mem p endedAtClose e
    · exact (State.attnN_eq_false _).2 ⟨p, .inl (by rw [State.closeDrain_causes_same])⟩
    · rw [State.closeDrain_port, if_neg (Ne.symm other)]
    · exact s.endContexts_usage_other p r endedAtClose other
  · rw [(State.settle_of_resetting resetting).2 idle]
    refine ⟨(State.attnN_eq_false _).2 ⟨p, .inr (by rw [State.endReset_causes_same])⟩, ?_, ?_⟩
    · rintro rfl; exact s.endReset_active p
    · rintro rfl; exact s.endReset_off p

/-! ### The event of a port reset -/

/-- The state that the event of a port reset makes, before its end is tested for (R181). -/
def State.resetBegun (p : PortId) (target : ResetTarget) (s : State) : State :=
  let t := ((s.endContexts p endedAtReset).onPort p (·.cleared target)).setDispatchQueue p []
  let t := (t.setDispatcher { t.dispatcher with mode := s.dispatcher.mode.afterHead p }).setOpportunity true
  let t := t.setEngine { t.engine with combine := t.engine.combine.map (·.requestAbort p) }
  t.abandonPort p

theorem State.startReset_eq (s : State) (p : PortId) (target : ResetTarget) :
    s.startReset p target = (s.resetBegun p target).settle p := rfl

theorem State.endsAtReset_iff (s : State) (p : PortId) (e : Entry) :
    s.inStates p endedAtReset e = true ↔ s.endsAtReset p e := by
  rw [State.inStates_iff, endedAtReset_iff, State.endsAtReset]
  refine and_congr_right fun _ => ⟨fun h => h.2, fun h => ⟨?_, h⟩⟩
  rcases h with h | h | h | h <;> rw [h] <;> decide

theorem State.resetBegun_ctx (s : State) (p : PortId) (target : ResetTarget) (e : Entry) :
    (s.resetBegun p target).ctx e = if s.inStates p endedAtReset e then Context.free else s.ctx e :=
  s.endContexts_ctx p endedAtReset e

theorem State.resetBegun_port (s : State) (p r : PortId) (target : ResetTarget) :
    (s.resetBegun p target).port r =
      if p = r then Port.cleared target { s.port p with closing := [] } else s.port r := by
  show ((s.endContexts p endedAtReset).onPort p (·.cleared target)).port r = _
  rw [State.onPort_port, State.endContexts_port, if_pos rfl, State.endContexts_port]
  split_ifs <;> rfl

theorem State.resetBegun_inFlightWork (s : State) (p : PortId) (target : ResetTarget) :
    (s.resetBegun p target).inFlightWork p ↔ s.inFlightWork p := by
  refine exists_congr fun e => ?_
  rw [State.resetBegun_ctx]
  split_ifs with ended
  · rw [State.endsAtReset_iff] at ended
    obtain ⟨port, state⟩ := ended
    constructor
    · rintro ⟨-, h | h⟩ <;> cases h
    · rintro ⟨-, h | h⟩ <;> rw [h] at state <;> simp at state
  · rfl

theorem State.resetBegun_pages (s : State) :
    (fun (p : PortId) => allEntries.filter fun e => (s.ctx e).port == p &&
      (endedAtReset (s.ctx e).state && (s.ctx e).state.holdsPages)) =
    fun p => allEntries.filter fun e => (s.ctx e).port == p &&
      ((s.ctx e).state == .queued || (s.ctx e).state == .held) := by
  funext p
  refine List.filter_congr fun e _ => ?_
  cases (s.ctx e).state <;> rfl

/-- What the event leaves in everything but the port itself. -/
theorem State.resetBegun_event (s : State) (p : PortId) (target : ResetTarget) :
    ResetEvent s (s.resetBegun p target) p where
  contexts e := by
    rw [State.resetBegun_ctx, ← State.endsAtReset_iff]
    exact ⟨fun h => if_pos h, fun h => if_neg h⟩
  pages := by
    rw [← congrFun s.resetBegun_pages p]
    exact s.endContexts_freeList p endedAtReset
  lists := ⟨rfl, rfl, rfl⟩
  usage r other := s.endContexts_usage_other p r endedAtReset other
  ownUsage := by
    rw [← congrFun s.resetBegun_pages p]
    exact s.endContexts_usage p endedAtReset
  queue := by
    refine ⟨State.setDispatchQueue_same _ p [], fun r other => ?_⟩
    exact (State.setDispatchQueue_other _ p r [] (Ne.symm other)).trans rfl
  pointer := rfl
  mode := rfl
  opportunity := rfl
  expiry := by
    refine ⟨List.filter_sublist, fun e => ?_⟩
    rw [← State.endsAtReset_iff]
    exact s.endContexts_expiry_mem p endedAtReset e
  clock := ⟨rfl, rfl, rfl, rfl⟩
  engine := by
    have combine : (s.resetBegun p target).engine.combine = s.engine.combine.map (·.requestAbort p) := rfl
    refine ⟨rfl, fun idle => ?_, fun c busy other => ?_, fun c busy own => ?_⟩
    · rw [combine, idle]; rfl
    · rw [combine, busy, Option.map_some, Combine.requestAbort, if_neg other]
    · rw [combine, busy, Option.map_some, Combine.requestAbort, if_pos own]
  units u := Units.job_map _ _ u
  others r other := ⟨by rw [State.resetBegun_port, if_neg (Ne.symm other)], rfl⟩
  link := rfl
  rest := ⟨rfl, rfl, rfl⟩

theorem Port.cleared_outSlot (q : Port) (target : ResetTarget) (i : SlotId) :
    (q.cleared target).outSlot i = if q.outSlot i = .reserved then .reserved else .free := by
  have : (q.cleared target).outSlot i = (q.outSlot i).cleared := by
    simp [Port.cleared, Port.outSlot, Vector.get_eq_getElem]
  rw [this]
  cases q.outSlot i <;> simp [OutSlot.cleared]

/-- R147: only a buffer that the engine reads is kept; the lower-numbered one left becomes FILLING. -/
theorem Port.resetBuffers_eq (q : Port) :
    q.resetBuffers = { q with
      buf0 := if q.buf0.state = .combining then q.buf0 else Buffer.filling
      buf1 := if q.buf1.state = .combining then q.buf1
        else if q.buf0.state = .combining then Buffer.filling else Buffer.free } := by
  by_cases lower : q.buf0.state = .combining <;> by_cases upper : q.buf1.state = .combining <;>
    simp [Port.resetBuffers, Port.refill, Port.filling?, lower, upper, Buffer.free]

theorem Port.cleared_portCleared (q : Port) (target : ResetTarget) :
    PortCleared q (Port.cleared target { q with closing := [] }) target := by
  have slots := Port.cleared_outSlot { q with closing := [] } target
  rw [Port.cleared, Port.resetBuffers_eq] at slots ⊢
  exact
    { state := rfl, profile := rfl, submission := ⟨rfl, rfl, rfl, rfl, rfl, rfl, rfl, rfl⟩, bus := rfl
      answers := ⟨rfl, rfl, rfl⟩, slots := slots
      combining0 := fun h => if_pos h, combining1 := fun h => if_pos h
      lower := fun h => if_neg h, upper := fun h => if_neg h }

/-- The end of a reset touches only the port, its causes and the opportunity. -/
theorem ResetEvent.endReset {s t : State} {p : PortId} (h : ResetEvent s t p) (target : ResetTarget) :
    ResetEvent s (t.endReset p target) p := by
  have others : ∀ r, r ≠ p → (t.endReset p target).port r = s.port r ∧ (t.endReset p target).causes r = s.causes r := by
    intro r other
    obtain ⟨port, causes⟩ := h.others r other
    cases target
    · rw [State.endReset_active, State.setOpportunity_port, State.setOpportunity_causes, State.setCauses_port,
        State.setPort_port_other _ _ _ _ other.symm, State.setCauses_other _ _ _ _ other.symm]
      exact ⟨port, causes⟩
    · rw [State.endReset_off, State.setOpportunity_port, State.setOpportunity_causes, State.setCauses_port,
        State.setPort_port_other _ _ _ _ other.symm, State.setCauses_other _ _ _ _ other.symm]
      exact ⟨port, causes⟩
  have link : (t.endReset p target).link = { t.link with causes := (t.endReset p target).link.causes } := by
    cases target <;> rfl
  cases target <;>
    exact
      { contexts := h.contexts, pages := h.pages, lists := h.lists, usage := h.usage, ownUsage := h.ownUsage
        queue := h.queue, pointer := h.pointer, mode := h.mode, opportunity := rfl, expiry := h.expiry
        clock := h.clock, engine := h.engine, units := h.units, others := others
        link := by rw [link, h.link], rest := h.rest }

theorem State.startReset_event (s : State) (p : PortId) (target : ResetTarget) :
    ResetEvent s (s.startReset p target) p := by
  have begun := s.resetBegun_event p target
  have resetting : ((s.resetBegun p target).port p).state = .resetting target := by
    rw [State.resetBegun_port, if_pos rfl]; rfl
  obtain ⟨stays, ends⟩ := State.settle_of_resetting resetting
  rw [State.startReset_eq]
  by_cases work : (s.resetBegun p target).inFlightWork p
  · rw [stays work]; exact begun
  · rw [ends work]; exact begun.endReset target

/-- Every context with pages of a port without work in shared blocks ends at its reset. -/
theorem State.resetBegun_usage {s : State} {p : PortId} {target : ResetTarget} (idle : ¬ s.inFlightWork p)
    (law : PoolLaw s) : (s.resetBegun p target).pool.usageOf p = 0 := by
  refine State.endContexts_usage_eq_zero law fun e port holds => ?_
  cases state : (s.ctx e).state with
  | combining => exact absurd ⟨e, port, .inl state⟩ idle
  | decoding => exact absurd ⟨e, port, .inr state⟩ idle
  | queued | held => rfl
  | free | solved | closing => rw [state] at holds; cases holds

theorem State.startReset_outcome (s : State) (p : PortId) (target : ResetTarget) :
    ResetOutcome s (s.startReset p target) p target := by
  have port : (s.resetBegun p target).port p = Port.cleared target { s.port p with closing := [] } := by
    rw [State.resetBegun_port, if_pos rfl]
  have cleared : PortCleared (s.port p) ((s.resetBegun p target).port p) target := by
    rw [port]; exact (s.port p).cleared_portCleared target
  obtain ⟨stays, ends⟩ := State.settle_of_resetting cleared.state
  rw [State.resetBegun_inFlightWork] at stays ends
  rw [State.startReset_eq]
  refine ⟨fun work => ?_, fun idle => ?_, fun idle law => ?_, fun idle off => ?_, fun idle active => ?_⟩
  · rw [stays work]; exact ⟨cleared, rfl⟩
  · rw [ends idle, State.endReset_causes_same]; rfl
  · rw [ends idle, State.endReset_pool, State.resetBegun_usage idle law]
  · subst off
    rw [ends idle, State.endReset_off, State.setOpportunity_port, State.setCauses_port, State.setPort_port_same,
      cleared.profile, cleared.bus]
  · subst active
    rw [ends idle, State.endReset_active, State.setOpportunity_port, State.setCauses_port, State.setPort_port_same]
    exact ⟨_, cleared, rfl⟩

/-! ### SELF_RESET and PORT_RESET -/

theorem State.portReset_of_taken {s : State} {p : PortId} {target : ResetTarget}
    (taken : (s.port p).state = .active ∧ target = .active ∨ (s.port p).state = .draining ∧ target = .off) :
    s.portReset p = some (s.startReset p target) := by
  rcases taken with ⟨h, rfl⟩ | ⟨h, rfl⟩ <;> simp only [State.portReset, h]

theorem State.portReset_of_refused {s : State} {p : PortId} (active : (s.port p).state ≠ .active)
    (draining : (s.port p).state ≠ .draining) : s.portReset p = none := by
  cases h : (s.port p).state with
  | active => exact absurd h active
  | draining => exact absurd h draining
  | off => simp only [State.portReset, h]
  | resetting target => simp only [State.portReset, h]

theorem exec_selfReset_of_form {p : PortId} {w : WriteBurst} (s : State) (full : FullWrite w) (one : w.data = 1) :
    exec (.selfReset p w) s = .next (((s.portReset p).getD s).busAnswer p []) := by
  have form : (isFull w && w.data == 1) = true := by simp [(isFull_iff w).2 full, one]
  simp only [exec, execSelfReset, form, if_true]

theorem exec_selfReset_of_other {p : PortId} {w : WriteBurst} (s : State) (other : ¬ FullWrite w ∨ w.data ≠ 1) :
    exec (.selfReset p w) s = .next (s.busAnswer p []) := by
  have form : (isFull w && w.data == 1) = false := by
    rw [← isFull_iff] at other
    rcases other with h | h
    · simp [h]
    · rw [beq_eq_false_iff_ne.2 h, Bool.and_false]
  simp only [exec, execSelfReset, form]
  rfl

/-! ### Frames that name a port -/

theorem portOfByte_eq_none {b : Byte} (h : 4 ≤ b.toNat) : portOfByte b = none := dif_neg (by omega)

theorem portOfByte_eq_some {b : Byte} {p : PortId} (h : b.toNat = p.val) : portOfByte b = some p := by
  have low : b.toNat < 4 := h ▸ p.isLt
  rw [portOfByte, dif_pos low]
  exact congrArg some (Fin.ext h)

theorem State.onPortArgument_badPort {s : State} {f : Frame} {b : Byte} {more : List Byte}
    (args : f.args = b :: more) (h : 4 ≤ b.toNat) (k : PortId → ResultCode × List Byte × State) :
    s.onPortArgument f k = (.badPort, [], s) := by
  simp only [State.onPortArgument, args, List.getD_cons_zero, portOfByte_eq_none h]

theorem State.onPortArgument_named {s : State} {f : Frame} {b : Byte} {more : List Byte} {p : PortId}
    (args : f.args = b :: more) (h : b.toNat = p.val) (k : PortId → ResultCode × List Byte × State) :
    s.onPortArgument f k = k p := by
  simp only [State.onPortArgument, args, List.getD_cons_zero, portOfByte_eq_some h]

theorem State.decideFrame_of_long {s : State} {code : Byte} {f : Frame} {need : Nat} (long : need ≤ f.args.length)
    (owner : ResultCode × List Byte × State) :
    s.decideFrame code f need owner = owner.2.2.answerFrame (frameLength f) code owner.1 owner.2.1 :=
  if_neg (by omega)

theorem State.decideFrame_of_short {s : State} {code : Byte} {f : Frame} {need : Nat} (short : f.args.length < need)
    (owner : ResultCode × List Byte × State) :
    s.decideFrame code f need owner = s.answerFrame (frameLength f) code .shortFrame [] :=
  if_pos short

theorem exec_portReset_of_named {s : State} {f : Frame} {b : Byte} {more : List Byte} {p : PortId}
    (args : f.args = b :: more) (h : b.toNat = p.val) :
    exec (.portReset f) s = .next ((s.resetPort p).2.2.answerFrame (frameLength f) 0x0A (s.resetPort p).1
      (s.resetPort p).2.1) := by
  simp only [exec, execPortReset]
  rw [State.decideFrame_of_long (by simp [args]), State.onPortArgument_named args h]

/-- Settles O21. -/
theorem portResetEvent : Obligations.PortResetEvent := by
  refine ⟨fun b more spare s h => ?_, fun s p data => State.busAnswer_eq s p data,
    fun p w b more spare s named => ⟨fun target taken => ?_, fun active draining => ?_, ?_⟩⟩
  · simp only [exec, execPortReset]
    rw [State.decideFrame_of_long (by simp), State.onPortArgument_badPort rfl h]
  · have reset := State.portReset_of_taken taken
    refine ⟨_, s.startReset_event p target, s.startReset_outcome p target, fun full one => ?_, ?_⟩
    · rw [exec_selfReset_of_form s full one, reset, Option.getD_some]
    · rw [exec_portReset_of_named rfl named]
      simp only [State.resetPort, reset]
  · have reset := State.portReset_of_refused active draining
    refine ⟨?_, ?_⟩
    · by_cases form : FullWrite w ∧ w.data = 1
      · rw [exec_selfReset_of_form s form.1 form.2, reset, Option.getD_none]
      · exact exec_selfReset_of_other s (not_and_or.1 form)
    · rw [exec_portReset_of_named rfl named]
      simp only [State.resetPort, reset]
  · exact exec_selfReset_of_other s

end Sys2Proof.Machine
end

section
/-! SUPPORT. Frames as bits and the two doors of the device, and the statements about how frames are answered and about the
doors (spec/10 R186 to R189, spec/07 R128, spec/11 R203, Tables 11-1 and 11-9). -/

namespace Sys2Proof.Machine

/-! ### Frames as bits -/

theorem byteBits_eq (b : Byte) : byteBits b = (List.range 8).map fun k => b.getLsbD (7 - k) := rfl

/-- Bit k of some bytes, most significant first. -/
theorem flatMap_byteBits_getElem? (bs : List Byte) (k : Nat) (hk : k < 8 * bs.length) :
    (bs.flatMap byteBits)[k]? = some ((bs.getD (k / 8) 0).getLsbD (7 - k % 8)) := by
  induction bs generalizing k with
  | nil => simp at hk
  | cons b bs ih =>
    have length : (byteBits b).length = 8 := rfl
    rw [List.flatMap_cons]
    by_cases first : k < 8
    · rw [List.getElem?_append_left (by omega), byteBits_eq, List.getElem?_map, List.getElem?_range first,
        Nat.div_eq_of_lt first, Nat.mod_eq_of_lt first]
      rfl
    · have index : k / 8 = (k - 8) / 8 + 1 := by omega
      rw [List.getElem?_append_right (by omega), length, ih (k - 8) (by rw [List.length_cons] at hk; omega), index,
        List.getD_cons_succ, show (k - 8) % 8 = k % 8 by omega]

theorem flatMap_byteBits_length (bs : List Byte) : (bs.flatMap byteBits).length = 8 * bs.length := by
  induction bs with
  | nil => rfl
  | cons b bs ih =>
    rw [List.flatMap_cons, List.length_append, ih, List.length_cons, show (byteBits b).length = 8 from rfl]
    ring

theorem misoBits_length (n : Nat) (reply : List Byte) : (misoBits n reply).length = n := by
  simp [misoBits]

/-- A frame shifts out the reply, then zeros (R187). -/
theorem misoBits_getElem? (n k : Nat) (reply : List Byte) (hk : k < n) :
    (misoBits n reply)[k]? = some ((reply.getD (k / 8) 0).getLsbD (7 - k % 8)) := by
  rw [misoBits, List.getElem?_take_of_lt hk]
  by_cases inside : k < 8 * reply.length
  · rw [List.getElem?_append_left (by rwa [flatMap_byteBits_length]), flatMap_byteBits_getElem? _ _ inside]
  · rw [List.getElem?_append_right (by rw [flatMap_byteBits_length]; omega), List.getD_eq_default _ _ (by omega),
      List.getElem?_replicate, if_pos (by rw [flatMap_byteBits_length]; omega)]
    exact congrArg some BitVec.getLsbD_zero.symm

theorem commandOfCode_eq_none {c : Byte} (unknown : c ∉ commandCodes) (f : Frame) : commandOfCode c f = none := by
  rw [commandOfCode]
  iterate 16 rw [if_neg (by rintro rfl; exact unknown (by decide))]

theorem eq_or_of_ite_eq_some {α : Type} {P : Prop} [Decidable P] {a b : α} {rest : Option α}
    (h : (if P then some a else rest) = some b) : P ∧ a = b ∨ rest = some b := by
  split_ifs at h with hp
  · exact .inl ⟨hp, Option.some.inj h⟩
  · exact .inr h

/-- A code of Table 11-9 names a command, which that code and the frame spell. -/
theorem commandOfCode_eq_some {c : Byte} {f : Frame} {i : Instr} (h : commandOfCode c f = some i) :
    frameBits i = some (bitsOfFrame c f) ∧ i.wf = f.wf := by
  unfold commandOfCode at h
  iterate 16
    obtain ⟨rfl, rfl⟩ | h := eq_or_of_ite_eq_some h
    · exact ⟨rfl, rfl⟩
  cases h

/-- Settles O54. -/
theorem framesAreAnswered : Obligations.FramesAreAnswered := by
  refine ⟨fun f => rfl, fun n code r data s fits => ?_, fun n k reply hk =>
    ⟨misoBits_getElem? n k reply hk, misoBits_length n reply⟩, fun f s => ⟨rfl, fun c unknown => ?_, fun short => ?_,
    fun short => ?_, fun short => ⟨?_, ?_⟩, fun none => ?_⟩⟩
  · have zeros : Config.replyBytes - (code :: r.code :: data).length = 132 - data.length := by
      simp only [Config.replyBytes, List.length_cons]
      omega
    simp only [State.answerFrame, Link.answered, replyOf, padTo, zeros]
    rfl
  · simp only [exec, execFrameRefused, commandOfCode_eq_none unknown]
  · simp only [exec, execProfileWrite, State.decideFrame_of_short short]
  · simp only [exec, execGeometryWrite, State.decideFrame_of_short short]
  · simp only [exec, execGeometryDelete, State.decideFrame_of_short short]
  · simp only [exec, execTimebaseWrite, State.decideFrame_of_short short]
  · have short : f.args.length < 1 := by rw [none]; decide
    simp only [exec, execProfileRead, execGeometryRead, execPortEnable, execPortDisable, execPortReset, execContextRead,
      execCountersRead, execCountersClear, State.decideFrame_of_short short, and_self]

/-! ### The doors -/

theorem byteOfBits_byteBits (b : Byte) :
    byteOfBits (b.getLsbD 7) (b.getLsbD 6) (b.getLsbD 5) (b.getLsbD 4) (b.getLsbD 3) (b.getLsbD 2) (b.getLsbD 1)
      (b.getLsbD 0) = b := by
  revert b; decide

theorem byteBits_byteOfBits (b7 b6 b5 b4 b3 b2 b1 b0 : Bool) :
    byteBits (byteOfBits b7 b6 b5 b4 b3 b2 b1 b0) = [b7, b6, b5, b4, b3, b2, b1, b0] := by
  revert b7 b6 b5 b4 b3 b2 b1 b0; decide

theorem gatherBits_of_short {bits : List Bool} (short : bits.length < 8) : gatherBits bits = ⟨[], bits⟩ := by
  match bits with
  | [] | [_] | [_, _] | [_, _, _] | [_, _, _, _] | [_, _, _, _, _] | [_, _, _, _, _, _] | [_, _, _, _, _, _, _] => rfl
  | _ :: _ :: _ :: _ :: _ :: _ :: _ :: _ :: rest => simp only [List.length_cons] at short; omega

/-- The frame decoder gathers the bytes that were spelled, and the bits left over. -/
theorem gatherBits_flatMap (bs : List Byte) {spare : List Bool} (short : spare.length < 8) :
    gatherBits (bs.flatMap byteBits ++ spare) = ⟨bs, spare⟩ := by
  induction bs with
  | nil => exact gatherBits_of_short short
  | cons b bs ih =>
    rw [List.flatMap_cons, List.append_assoc]
    show Frame.mk (byteOfBits _ _ _ _ _ _ _ _ :: (gatherBits (bs.flatMap byteBits ++ spare)).args)
      (gatherBits (bs.flatMap byteBits ++ spare)).spare = _
    rw [ih, byteOfBits_byteBits]

/-- What the frame decoder gathers spells the bits it was given, fewer than eight of them left over. -/
theorem gatherBits_spells (bits : List Bool) :
    (gatherBits bits).args.flatMap byteBits ++ (gatherBits bits).spare = bits ∧ (gatherBits bits).spare.length < 8 := by
  induction bits using gatherBits.induct with
  | case1 b7 b6 b5 b4 b3 b2 b1 b0 rest ih =>
    obtain ⟨spells, short⟩ := ih
    refine ⟨?_, short⟩
    show (byteOfBits b7 b6 b5 b4 b3 b2 b1 b0 :: (gatherBits rest).args).flatMap byteBits ++ (gatherBits rest).spare = _
    rw [List.flatMap_cons, byteBits_byteOfBits, List.append_assoc, spells]
    rfl
  | case2 spare other =>
    have short : spare.length < 8 := by
      by_contra long
      match spare, other, long with
      | [], _, long | [_], _, long | [_, _], _, long | [_, _, _], _, long | [_, _, _, _], _, long
      | [_, _, _, _, _], _, long | [_, _, _, _, _, _], _, long | [_, _, _, _, _, _, _], _, long => simp at long
      | _ :: _ :: _ :: _ :: _ :: _ :: _ :: _ :: _, other, _ => exact other _ _ _ _ _ _ _ _ _ rfl
    rw [gatherBits_of_short short]
    exact ⟨rfl, short⟩

theorem Frame.wf_iff (f : Frame) : f.wf = true ↔ f.spare.length < 8 := decide_eq_true_iff

/-- A frame with a known code is read back as the command that the code names. -/
theorem frameCommand_bitsOfFrame {c : Byte} {f : Frame} {i : Instr} (short : f.wf = true)
    (h : commandOfCode c f = some i) : frameCommand (bitsOfFrame c f) = i := by
  have gathered := gatherBits_flatMap (c :: f.args) ((Frame.wf_iff f).1 short)
  rw [frameCommand, bitsOfFrame, gathered]
  exact congrArg (fun o => Option.getD o _) h

theorem frameCommand_of_unknown {c : Byte} {f : Frame} (short : f.wf = true) (h : c ∉ commandCodes) :
    frameCommand (bitsOfFrame c f) = .frameRefused (some c) f := by
  have gathered := gatherBits_flatMap (c :: f.args) ((Frame.wf_iff f).1 short)
  rw [frameCommand, bitsOfFrame, gathered]
  exact congrArg (fun o => Option.getD o _) (commandOfCode_eq_none h f)

theorem frameCommand_of_noByte {f : Frame} (short : f.wf = true) (empty : f.args = []) :
    frameCommand f.spare = .frameRefused none f := by
  obtain ⟨args, spare⟩ := f
  subst empty
  rw [frameCommand, gatherBits_of_short ((Frame.wf_iff _).1 short)]

/-- Every well-formed management command is read back from its frame bits. -/
theorem frameCommand_frameBits {i : Instr} {bits : List Bool} (wf : i.wf = true) (h : frameBits i = some bits) :
    frameCommand bits = i := by
  cases i with
  | statusRead f | profileWrite f | profileRead f | geometryWrite f | geometryRead f | geometryDelete f | portEnable f
  | portDisable f | portReset f | deviceReset f | timebaseWrite f | poolRead f | contextRead f | countersRead f
  | countersClear f | clockRead f =>
    cases h
    exact frameCommand_bitsOfFrame wf rfl
  | frameRefused code f =>
    cases code with
    | none =>
      cases h
      simp only [Instr.wf, refusedFrameWf, Bool.and_eq_true, List.isEmpty_iff] at wf
      exact frameCommand_of_noByte wf.2 wf.1
    | some c =>
      cases h
      simp only [Instr.wf, refusedFrameWf, Bool.and_eq_true, Bool.not_eq_true', List.contains_eq_mem,
        decide_eq_false_iff_not] at wf
      exact frameCommand_of_unknown wf.2 wf.1
  | _ => cases h

/-- Every bit sequence spells a well-formed command, which spells it. -/
theorem frameBits_frameCommand (bits : List Bool) :
    frameBits (frameCommand bits) = some bits ∧ (frameCommand bits).wf = true := by
  obtain ⟨spells, short⟩ := gatherBits_spells bits
  cases args : (gatherBits bits).args with
  | nil =>
    have command : frameCommand bits = .frameRefused none ⟨[], (gatherBits bits).spare⟩ := by
      simp only [frameCommand, args]
    rw [args] at spells
    rw [command]
    exact ⟨congrArg some spells, by simpa [Instr.wf, refusedFrameWf, Frame.wf] using short⟩
  | cons c rest =>
    rw [args] at spells
    have command : frameCommand bits =
        (commandOfCode c ⟨rest, (gatherBits bits).spare⟩).getD
          (.frameRefused (some c) ⟨rest, (gatherBits bits).spare⟩) := by
      simp only [frameCommand, args]
    have framed : bitsOfFrame c ⟨rest, (gatherBits bits).spare⟩ = bits := spells
    have wf : Frame.wf ⟨rest, (gatherBits bits).spare⟩ = true := (Frame.wf_iff _).2 short
    rw [command]
    cases named : commandOfCode c ⟨rest, (gatherBits bits).spare⟩ with
    | some i =>
      obtain ⟨spelled, formed⟩ := commandOfCode_eq_some named
      rw [Option.getD_some, spelled, framed, formed]
      exact ⟨rfl, wf⟩
    | none =>
      have unknown : c ∉ commandCodes := by
        intro known
        simp only [commandCodes, List.mem_cons, List.not_mem_nil, or_false] at known
        rcases known with rfl | rfl | rfl | rfl | rfl | rfl | rfl | rfl | rfl | rfl | rfl | rfl | rfl | rfl | rfl | rfl <;>
          cases named
      rw [Option.getD_none]
      exact ⟨congrArg some framed, by simp [Instr.wf, refusedFrameWf, unknown, wf]⟩

/-- Every well-formed client port command is read back from its bus access. -/
theorem busCommand_busAccess {i : Instr} {p : PortId} {a : BusAccess} (wf : i.wf = true)
    (h : busAccess i = some (p, a)) : busCommand p a = i := by
  cases i with
  | submit _ w | softData _ w | returnSlot _ w | selfReset _ w => cases h; rfl
  | answer _ beats =>
    cases beats with
    | nil => cases h
    | cons l ls =>
      cases h
      rw [busCommand, if_pos (show wordOffset (BitVec.ofNat 16 Config.offAnswer) = _ by decide), List.map_map]
      exact congrArg (fun x => Instr.answer p (l :: x)) (List.map_id _)
  | status _ lanes later =>
    cases h
    rw [busCommand, if_neg (show wordOffset (BitVec.ofNat 16 Config.offStatus) ≠ _ by decide),
      if_pos (show wordOffset (BitVec.ofNat 16 Config.offStatus) = _ by decide)]
  | unmappedWrite _ other =>
    cases other with
    | write addr w =>
      cases h
      simp only [Instr.wf, OtherAccess.wf, isWriteRegister, Bool.and_eq_true, Bool.not_eq_true', Bool.or_eq_false_iff,
        beq_eq_false_iff_ne] at wf
      obtain ⟨-, ⟨⟨submit, soft⟩, slot⟩, reset⟩ := wf
      simp only [busCommand, submit, soft, slot, reset, if_false]
    | read beats =>
      cases beats with
      | nil => cases h
      | cons b later =>
        cases h
        simp only [Instr.wf, OtherAccess.wf, isReadRegister, Bool.not_eq_true', Bool.or_eq_false_iff,
          beq_eq_false_iff_ne] at wf
        simp only [busCommand, wf.1, wf.2, if_false]
  | _ => cases h

/-- Settles O60. -/
theorem doorsReadBackWhatTheySpell : Obligations.DoorsReadBackWhatTheySpell := by
  refine ⟨?_, ?_, ?_, fun i bits => frameCommand_frameBits, frameBits_frameCommand,
    fun i p a => busCommand_busAccess⟩
  · rintro f spell rfl
    exact ⟨rfl, rfl, rfl, rfl, rfl, rfl, rfl, rfl, rfl, rfl, rfl, rfl, rfl, rfl, rfl, rfl, rfl, fun c => rfl⟩
  · rintro p addr w word rfl
    refine ⟨fun h => ?_, fun h => ?_, fun h => ?_, fun h => ?_, fun h => ?_⟩
    · exact if_pos h
    · simp [busCommand, wordOffset, h, Config.offSubmit, Config.offSoftData]
    · simp [busCommand, wordOffset, h, Config.offSubmit, Config.offSoftData, Config.offReturnSlot]
    · simp [busCommand, wordOffset, h, Config.offSubmit, Config.offSoftData, Config.offReturnSlot, Config.offSelfReset]
    · simp only [List.mem_cons, List.not_mem_nil, or_false, not_or] at h
      obtain ⟨submit, soft, slot, reset⟩ := h
      exact (if_neg submit).trans ((if_neg soft).trans ((if_neg slot).trans (if_neg reset)))
  · rintro p b later word rfl
    refine ⟨fun h => if_pos h, fun h => ?_, fun h => ?_⟩
    · simp [busCommand, wordOffset, h, Config.offAnswer, Config.offStatus]
    · simp only [List.mem_cons, List.not_mem_nil, or_false, not_or] at h
      exact (if_neg h.1).trans (if_neg h.2)

end Sys2Proof.Machine
end

section
/-! SUPPORT. Numbers as bytes, most significant first, and the management reads, with the statements about them (spec/10
R191 to R198, spec/11 R202, R207, Tables 11-9 to 11-12). -/

namespace Sys2Proof.Machine

/-! ### Numbers, most significant byte first -/

@[simp] theorem beBytes_length (n v : Nat) : (beBytes n v).length = n := by simp [beBytes]

theorem beNat_beBytes (n v : Nat) (h : v < 256 ^ n) : beNat (beBytes n v) = v := by
  rw [beNat, beBytes, List.reverse_reverse, leNat_leBytes, Nat.mod_eq_of_lt h]

theorem beBytes_getElem? (n v k : Nat) (hk : k < n) :
    (beBytes n v)[k]? = some (BitVec.ofNat 8 (v / 256 ^ (n - 1 - k))) := by
  rw [beBytes, List.getElem?_reverse (by simpa using hk), leBytes_length, leBytes_getElem? _ _ _ (by omega)]

theorem beBytes_beNat (bs : List Byte) : beBytes bs.length (beNat bs) = bs := by
  rw [beBytes, beNat]
  have := leBytes_leNat bs.reverse
  rw [List.length_reverse] at this
  rw [this, List.reverse_reverse]

theorem beNat_two (a b : Byte) : beNat [a, b] = 256 * a.toNat + b.toNat := by
  show b.toNat + 256 * (a.toNat + 256 * 0) = _
  ring

theorem beNat_four (a b c d : Byte) :
    beNat [a, b, c, d] = 16777216 * a.toNat + 65536 * b.toNat + 256 * c.toNat + d.toNat := by
  show d.toNat + 256 * (c.toNat + 256 * (b.toNat + 256 * (a.toNat + 256 * 0))) = _
  ring

theorem beNat_field_two {bs : List Byte} {i : Nat} (h : i + 2 ≤ bs.length) :
    beNat (field bs i 2) = 256 * byteAt bs i + byteAt bs (i + 1) := by
  rw [field_eq_map bs i 2 h]
  exact beNat_two _ _

theorem beNat_field_four {bs : List Byte} {i : Nat} (h : i + 4 ≤ bs.length) :
    beNat (field bs i 4) =
      16777216 * byteAt bs i + 65536 * byteAt bs (i + 1) + 256 * byteAt bs (i + 2) + byteAt bs (i + 3) := by
  rw [field_eq_map bs i 4 h]
  exact beNat_four _ _ _ _

theorem ofNat_eq_of_toNat_eq {b : Byte} {n : Nat} (h : b.toNat = n) : BitVec.ofNat 8 n = b := by
  rw [← h, BitVec.ofNat_toNat, BitVec.setWidth_eq]

/-! ### The management reads -/

theorem State.portByte_toNat (s : State) (p : PortId) :
    (s.portByte p).toNat = (s.port p).state.code + (if (s.port p).state = .resetting .off then 4 else 0) +
      (if (s.causes p).drainDone then 16 else 0) + if (s.causes p).resetDone then 32 else 0 := by
  rw [State.portByte, BitVec.toNat_ofNat]
  cases (s.causes p).drainDone <;> cases (s.causes p).resetDone <;> cases (s.port p).state with
  | off | active | draining => rfl
  | resetting target => cases target <;> rfl

theorem Profile.bytes_eq (x : Profile) :
    x.bytes = [BitVec.ofNat 8 (x.reserve / 256), BitVec.ofNat 8 x.reserve, BitVec.ofNat 8 (x.cap / 256),
      BitVec.ofNat 8 x.cap, BitVec.ofNat 8 x.maxContexts, BitVec.ofNat 8 x.maxAttempts,
      BitVec.ofNat 8 x.iterationCap, BitVec.ofNat 8 (x.holdLifetime / 256), BitVec.ofNat 8 x.holdLifetime,
      BitVec.ofNat 8 (x.tombstoneLifetime / 256), BitVec.ofNat 8 x.tombstoneLifetime,
      if x.evictionPolicy = .refuse then 0x00 else 0x01] ++ x.damping.map (BitVec.ofNat 8) := by
  have policy : x.evictionPolicy.code = if x.evictionPolicy = .refuse then 0x00 else 0x01 := by
    cases x.evictionPolicy <;> rfl
  rw [← policy]
  rfl

theorem Counters.bytes_eq (k : Counters) :
    k.bytes = beBytes 4 k.attemptsAdmitted.toNat ++ beBytes 4 k.passes.toNat ++ beBytes 4 k.failures.toNat ++
      beBytes 4 k.expiries.toNat ++ beBytes 4 k.evictions.toNat ++ beBytes 4 k.refusals.toNat := by
  simp [Counters.bytes]

theorem State.poolReadData_eq (s : State) :
    s.poolReadData = beBytes 2 s.pool.freeList.length ++ beBytes 2 (s.pool.usageOf 0) ++ beBytes 2 (s.pool.usageOf 1) ++
      beBytes 2 (s.pool.usageOf 2) ++ beBytes 2 (s.pool.usageOf 3) ++ beBytes 1 s.pool.spareList.length ++
      beBytes 2 s.pool.retiredList.length ++ beBytes 2 s.pool.shortfall := by
  simp [State.poolReadData, allPorts]

theorem State.geometryReadData_eq (s : State) (i : Nat) :
    s.geometryReadData i = BitVec.ofNat 8 s.geometry.length ::
      (s.geometry[i]?.elim (List.replicate 6 0) fun g => beBytes 2 g.K ++ beBytes 2 g.permA ++ beBytes 2 g.permB) := by
  rw [State.geometryReadData, List.getD_eq_getElem?_getD]
  cases s.geometry[i]? with
  | none => rfl
  | some g => simp [beBytes, leBytes]

/-- Settles O55. -/
theorem managementReads : Obligations.ManagementReads := by
  refine ⟨⟨rfl, rfl, rfl, rfl, rfl, rfl, rfl, rfl, rfl⟩, ⟨rfl, rfl, rfl, fun target => rfl⟩, ?_⟩
  rintro s f n rfl
  refine ⟨rfl, s.portByte_toNat, ?_, rfl, fun width v small => ⟨beBytes_length width v, beNat_beBytes width v small⟩,
    beBytes_getElem?, fun b more args => ?_⟩
  · simp only [exec, execPoolRead, State.decideFrame_of_long (Nat.zero_le _), State.poolReadData_eq]
  · have long : 1 ≤ f.args.length := by simp [args]
    have first : byteAt f.args 0 = b.toNat := by rw [byteAt, args]; rfl
    refine ⟨?_, fun low => ?_, fun high => ?_, fun bad => ⟨?_, ?_⟩, fun p named => ⟨?_, ?_⟩⟩
    · simp only [exec, execContextRead, State.decideFrame_of_long long, args, List.getD_cons_zero]
    · simp only [exec, execGeometryRead, State.decideFrame_of_long long, first, if_neg (by omega : ¬ 127 < b.toNat),
        State.geometryReadData_eq]
    · simp only [exec, execGeometryRead, State.decideFrame_of_long long, first, if_pos (by omega : 127 < b.toNat)]
    · simp only [exec, execProfileRead, State.decideFrame_of_long long, State.onPortArgument_badPort args bad]
    · simp only [exec, execCountersRead, State.decideFrame_of_long long, State.onPortArgument_badPort args bad]
    · rintro x rfl
      simp only [exec, execProfileRead, State.decideFrame_of_long long, State.onPortArgument_named args named,
        ofNat_eq_of_toNat_eq named, Profile.bytes_eq]
    · simp only [exec, execCountersRead, State.decideFrame_of_long long, State.onPortArgument_named args named,
        ofNat_eq_of_toNat_eq named, Counters.bytes_eq]

/-! ### The context diagnostic view -/

/-- The bytes of a context's page list in its view: the pages' numbers, then zeros. -/
def Context.pageBytes (c : Context) : List Byte := padTo 98 (c.pages.flatMap fun pg => beBytes 2 pg.val)

/-- The fields of the view, in their order. -/
def Context.viewBlocks (index : Byte) (c : Context) : List (List Byte) :=
  [[index], [c.state.code], [BitVec.ofNat 8 c.port.val], beBytes 2 c.tag.toNat, beBytes 2 c.K, beBytes 2 c.L,
    [BitVec.ofNat 8 c.pageCount], beBytes 2 c.permA, beBytes 2 c.permB, [BitVec.ofNat 8 c.lastAttempt],
    [BitVec.ofNat 8 c.combinedCount], [c.viewFlags], viewPending c.pendingDecode,
    beBytes 4 (c.releasePending.elim 0 (·.toNat)), beBytes 4 c.deadline.toNat, viewNotice c.owedNotice,
    [BitVec.ofNat 8 c.pages.length], c.pageBytes]

theorem Context.view_eq (index : Byte) (c : Context) : c.view index = (c.viewBlocks index).flatten := by
  rw [Context.view, Context.viewBlocks, Context.pageBytes]
  simp only [List.flatten_cons, List.flatten_nil, List.append_nil, List.append_assoc, List.cons_append, List.nil_append]
  cases c.releasePending <;> rfl

@[simp] theorem viewPending_length (d : Option PendingDecode) : (viewPending d).length = 6 := by
  cases d <;> simp [viewPending]

@[simp] theorem viewNotice_length (n : Option OwedNotice) : (viewNotice n).length = 2 := by
  cases n <;> rfl

theorem field_append_right (xs ys : List Byte) (i n : Nat) : field (xs ++ ys) (xs.length + i) n = field ys i n := by
  rw [field, field, List.drop_append, List.drop_eq_nil_of_le (by omega), List.nil_append, Nat.add_sub_cancel_left]

/-- A field of a record is the block that stands at its place. -/
theorem field_flatten {blocks : List (List Byte)} {b : List Byte} {i first n : Nat} (block : blocks[i]? = some b)
    (place : first = ((blocks.take i).map List.length).sum) (size : n = b.length) :
    field blocks.flatten first n = b := by
  subst place size
  induction blocks generalizing i with
  | nil => cases block
  | cons x xs ih =>
    cases i with
    | zero =>
      obtain rfl : x = b := by simpa using block
      simp [field]
    | succ i =>
      rw [List.take_succ_cons, List.map_cons, List.sum_cons, List.flatten_cons, field_append_right]
      exact ih (by simpa using block)

theorem field_field (bs : List Byte) {first m i n : Nat} (h : i + n ≤ m) :
    field (field bs first m) i n = field bs (first + i) n := by
  rw [field, field, field, List.drop_take, List.take_take, List.drop_drop, Nat.min_eq_left (by omega)]

theorem getElem?_of_field {bs : List Byte} {i : Nat} {b : Byte} (h : field bs i 1 = [b]) : bs[i]? = some b := by
  have first := congrArg (·[0]?) h
  simpa [field] using first

theorem byteAt_of_field {bs : List Byte} {i : Nat} {b : Byte} (h : field bs i 1 = [b]) : byteAt bs i = b.toNat := by
  rw [byteAt, List.getD_eq_getElem?_getD, getElem?_of_field h]
  rfl

theorem flatMap_beBytes_length (pages : List Page) :
    (pages.flatMap fun pg => beBytes 2 pg.val).length = 2 * pages.length := by
  induction pages with
  | nil => rfl
  | cons pg pages ih => rw [List.flatMap_cons, List.length_append, ih, beBytes_length, List.length_cons]; ring

theorem Context.pageBytes_length {c : Context} (short : c.pages.length ≤ 49) : c.pageBytes.length = 98 := by
  rw [Context.pageBytes, padTo, List.length_append, List.length_replicate, flatMap_beBytes_length]
  omega

/-- Entry i of a list of two-byte numbers with zeros after it. -/
theorem beNat_field_pages (pages : List Page) (zeros i : Nat) (inside : 2 * i + 2 ≤ 2 * pages.length + zeros) :
    beNat (field ((pages.flatMap fun pg => beBytes 2 pg.val) ++ List.replicate zeros 0) (2 * i) 2) =
      (pages[i]?).elim 0 (·.val) := by
  induction pages generalizing i with
  | nil =>
    rw [List.flatMap_nil, List.nil_append, field, List.drop_replicate, List.take_replicate, beNat, List.reverse_replicate,
      leNat_replicate_zero]
    rfl
  | cons pg pages ih =>
    rw [List.flatMap_cons, List.append_assoc]
    cases i with
    | zero => exact beNat_beBytes 2 pg.val (Nat.lt_trans pg.isLt (by decide))
    | succ i =>
      rw [List.getElem?_cons_succ, ← ih i (by rw [List.length_cons] at inside; omega)]
      rfl

/-- The flags byte, bit by bit. -/
theorem Context.viewFlags_bits (c : Context) :
    c.viewFlags.getLsbD 0 = c.gap ∧ c.viewFlags.getLsbD 1 = c.pendingDecode.isSome ∧
      c.viewFlags.getLsbD 2 = c.pendingDecode.any (·.checksumPresent) ∧
      c.viewFlags.getLsbD 3 = c.releasePending.isSome ∧ c.viewFlags.getLsbD 4 = c.owedNotice.isSome ∧
      c.viewFlags.getLsbD 5 = c.units.du0 ∧ c.viewFlags.getLsbD 6 = c.units.du1 ∧ c.viewFlags.getLsbD 7 = false := by
  have bits : ∀ a b d e f g h : Bool,
      let v : Byte := BitVec.ofNat 8
        (a.toNat + 2 * b.toNat + 4 * d.toNat + 8 * e.toNat + 16 * f.toNat + 32 * g.toNat + 64 * h.toNat)
      v.getLsbD 0 = a ∧ v.getLsbD 1 = b ∧ v.getLsbD 2 = d ∧ v.getLsbD 3 = e ∧ v.getLsbD 4 = f ∧ v.getLsbD 5 = g ∧
        v.getLsbD 6 = h ∧ v.getLsbD 7 = false := by decide
  have sum : c.viewFlags = BitVec.ofNat 8 (c.gap.toNat + 2 * c.pendingDecode.isSome.toNat +
      4 * (c.pendingDecode.any (·.checksumPresent)).toNat + 8 * c.releasePending.isSome.toNat +
      16 * c.owedNotice.isSome.toNat + 32 * c.units.du0.toNat + 64 * c.units.du1.toNat) := by
    rw [Context.viewFlags]
    cases c.pendingDecode <;> rfl
  rw [sum]
  exact bits _ _ _ _ _ _ _

theorem ofNat_toNat_of_lt {n : Nat} (h : n < 256) : (BitVec.ofNat 8 n).toNat = n := by
  rw [BitVec.toNat_ofNat, Nat.mod_eq_of_lt h]


/-- Settles O56. -/
theorem contextViewFields : Obligations.ContextViewFields := by
  refine ⟨fun bs i => ⟨beNat_field_two, beNat_field_four, rfl⟩, ?_⟩
  rintro index c v rfl K L permA permB pageCount lastAttempt combinedCount pages
  have two (n : Nat) (h : n < 65536) : beNat (beBytes 2 n) = n := beNat_beBytes 2 n h
  have four (n : BitVec 32) : beNat (beBytes 4 n.toNat) = n.toNat := beNat_beBytes 4 _ n.isLt
  have release : beNat (beBytes 4 (c.releasePending.elim 0 (·.toNat))) = c.releasePending.elim 0 (·.toNat) := by
    cases c.releasePending with
    | none => rfl
    | some k => exact four k
  have at_ {b : List Byte} (i first n : Nat) (block : (c.viewBlocks index)[i]? = some b)
      (place : first = (((c.viewBlocks index).take i).map List.length).sum) (size : n = b.length) :
      field (c.view index) first n = b := by
    rw [Context.view_eq]
    exact field_flatten block place size
  have flags : (c.view index).getD 16 0 = c.viewFlags := by
    rw [List.getD_eq_getElem?_getD, getElem?_of_field (at_ 11 16 1 rfl (by simp [Context.viewBlocks]) rfl)]
    rfl
  have pending := at_ 12 17 6 rfl (by simp [Context.viewBlocks]) (by simp)
  have notice := at_ 15 31 2 rfl (by simp [Context.viewBlocks]) (by simp)
  have list := at_ 17 34 98 rfl (by simp [Context.viewBlocks]) (by rw [Context.pageBytes_length pages])
  obtain ⟨gap, owed, check, waits, noticed, du0, du1, last⟩ := c.viewFlags_bits
  rw [flags]
  refine ⟨?_, getElem?_of_field (at_ 0 0 1 rfl (by simp [Context.viewBlocks]) rfl),
    getElem?_of_field (at_ 1 1 1 rfl (by simp [Context.viewBlocks]) rfl), ?_, ?_, ?_, ?_, ?_, ?_, ?_, ?_, ?_,
    gap, owed, check, waits, noticed, du0, du1, last, fun none => ?_, fun d some small => ⟨?_, ?_, ?_⟩, ?_, ?_,
    fun none => ?_, fun o some small => ⟨?_, ?_⟩, ?_, fun i hi => ?_, rfl, rfl, rfl, rfl, rfl, rfl⟩
  · rw [Context.view_eq]
    simp [Context.viewBlocks, Context.pageBytes_length pages]
  · rw [byteAt_of_field (at_ 2 2 1 rfl (by simp [Context.viewBlocks]) rfl),
      ofNat_toNat_of_lt (Nat.lt_trans c.port.isLt (by decide))]
  · rw [at_ 3 3 2 rfl (by simp [Context.viewBlocks]) (by simp), two _ (Nat.lt_trans c.tag.isLt (by decide))]
  · rw [at_ 4 5 2 rfl (by simp [Context.viewBlocks]) (by simp), two _ K]
  · rw [at_ 5 7 2 rfl (by simp [Context.viewBlocks]) (by simp), two _ L]
  · rw [byteAt_of_field (at_ 6 9 1 rfl (by simp [Context.viewBlocks]) rfl), ofNat_toNat_of_lt pageCount]
  · rw [at_ 7 10 2 rfl (by simp [Context.viewBlocks]) (by simp), two _ permA]
  · rw [at_ 8 12 2 rfl (by simp [Context.viewBlocks]) (by simp), two _ permB]
  · rw [byteAt_of_field (at_ 9 14 1 rfl (by simp [Context.viewBlocks]) rfl), ofNat_toNat_of_lt lastAttempt]
  · rw [byteAt_of_field (at_ 10 15 1 rfl (by simp [Context.viewBlocks]) rfl), ofNat_toNat_of_lt combinedCount]
  · rw [pending, none]
    rfl
  · rw [some] at pending
    rw [byteAt_of_field ((field_field _ (by decide : 0 + 1 ≤ 6)).symm.trans (congrArg (field · 0 1) pending)),
      ofNat_toNat_of_lt small]
  · rw [some] at pending
    exact getElem?_of_field ((field_field _ (by decide : 1 + 1 ≤ 6)).symm.trans (congrArg (field · 1 1) pending))
  · rw [some] at pending
    rw [(field_field _ (by decide : 2 + 4 ≤ 6)).symm.trans (congrArg (field · 2 4) pending)]
    exact four d.cookie
  · rw [at_ 13 23 4 rfl (by simp [Context.viewBlocks]) (by simp), release]
  · rw [at_ 14 27 4 rfl (by simp [Context.viewBlocks]) (by simp), four]
  · rw [notice, none]
    rfl
  · rw [some] at notice
    exact getElem?_of_field ((field_field _ (by decide : 0 + 1 ≤ 2)).symm.trans (congrArg (field · 0 1) notice))
  · rw [some] at notice
    rw [byteAt_of_field ((field_field _ (by decide : 1 + 1 ≤ 2)).symm.trans (congrArg (field · 1 1) notice)),
      ofNat_toNat_of_lt small]
  · rw [byteAt_of_field (at_ 16 33 1 rfl (by simp [Context.viewBlocks]) rfl), ofNat_toNat_of_lt (by omega)]
  · rw [← field_field _ (by omega : 2 * i + 2 ≤ 98), list, Context.pageBytes, padTo,
      beNat_field_pages _ _ _ (by rw [flatMap_beBytes_length]; omega)]

end Sys2Proof.Machine
end

section
/-! SUPPORT. The management commands that write tables, profiles and port states, and the two resets of the device, with the
statements about them (spec/09 R169 to R175, R185, spec/10 R192 to R201, spec/01 R28 to R30, spec/02 R33, R34). -/

namespace Sys2Proof.Machine

/-! ### Profiles -/

theorem Profile.valid_iff (x : Profile) :
    x.valid = true ↔ 1 ≤ x.cap ∧ x.cap ≤ 2048 ∧ x.reserve ≤ x.cap ∧ 1 ≤ x.maxContexts ∧ x.maxContexts ≤ 128 ∧
      1 ≤ x.maxAttempts ∧ x.maxAttempts ≤ 15 ∧ 1 ≤ x.iterationCap ∧ x.iterationCap ≤ 16 ∧ 1 ≤ x.holdLifetime ∧
      x.holdLifetime ≤ 65535 ∧ x.tombstoneLifetime ≤ 65535 ∧ x.damping.length = 12 ∧ ∀ w ∈ x.damping, w ≤ 32 := by
  simp only [Profile.valid, Bool.and_eq_true, inRange_iff, decide_eq_true_eq, beq_iff_eq, List.all_eq_true,
    Nat.zero_le, true_and, and_assoc]

theorem policyOfByte_eq_some {b : Byte} {policy : EvictionPolicy} :
    policyOfByte b = some policy ↔ b = policy.code := by
  unfold policyOfByte
  split_ifs with refuse evict
  · subst refuse; cases policy <;> simp [EvictionPolicy.code]
  · subst evict; cases policy <;> simp [EvictionPolicy.code]
  · cases policy <;> simp only [EvictionPolicy.code, refuse, evict]

theorem beBytes_beNat_field {bs : List Byte} {i n : Nat} (h : i + n ≤ bs.length) :
    beBytes n (beNat (field bs i n)) = field bs i n := by
  have := beBytes_beNat (field bs i n)
  rwa [field_length bs i n h] at this

theorem map_ofNat_toNat (bs : List Byte) : (bs.map BitVec.toNat).map (BitVec.ofNat 8) = bs := by
  rw [List.map_map]
  conv_rhs => rw [← List.map_id bs]
  exact List.map_congr_left fun b _ => ofNat_eq_of_toNat_eq rfl

theorem map_toNat_ofNat {ws : List Nat} (small : ∀ w ∈ ws, w < 256) :
    (ws.map (BitVec.ofNat 8)).map BitVec.toNat = ws := by
  rw [List.map_map]
  conv_rhs => rw [← List.map_id ws]
  exact List.map_congr_left fun w hw => ofNat_toNat_of_lt (small w hw)

/-- The profile that a valid profile's 24 bytes carry is that profile. -/
theorem profileOfBytes_bytes {x : Profile} (valid : x.valid = true) : profileOfBytes x.bytes = some x := by
  obtain ⟨cap1, cap2, reserve, contexts1, contexts2, attempts1, attempts2, iterations1, iterations2, hold1, hold2,
    tombstone, size, weights⟩ := x.valid_iff.1 valid
  obtain ⟨xReserve, xCap, xContexts, xAttempts, xIterations, xHold, xTombstone, xPolicy, xDamping⟩ := x
  dsimp only at *
  have two (n : Nat) (h : n < 65536) : beNat [BitVec.ofNat 8 (n / 256), BitVec.ofNat 8 n] = n := beNat_beBytes 2 n h
  have policy : policyOfByte xPolicy.code = some xPolicy := policyOfByte_eq_some.2 rfl
  have damping : field (Profile.bytes ⟨xReserve, xCap, xContexts, xAttempts, xIterations, xHold, xTombstone, xPolicy,
      xDamping⟩) 12 12 = xDamping.map (BitVec.ofNat 8) :=
    List.take_of_length_le (Nat.le_of_eq ((List.length_map ..).trans size))
  rw [profileOfBytes, damping, map_toNat_ofNat fun w hw => Nat.lt_of_le_of_lt (weights w hw) (by decide)]
  show (policyOfByte xPolicy.code).map _ = _
  rw [policy, Option.map_some, Option.some.injEq, Profile.mk.injEq]
  exact ⟨two xReserve (by omega), two xCap (by omega), ofNat_toNat_of_lt (n := xContexts) (by omega),
    ofNat_toNat_of_lt (n := xAttempts) (by omega), ofNat_toNat_of_lt (n := xIterations) (by omega),
    two xHold (by omega), two xTombstone (by omega), rfl, rfl⟩

/-- The bytes of the profile that 24 bytes carry are those bytes. -/
theorem bytes_of_profileOfBytes {bs : List Byte} {x : Profile} (size : bs.length = 24)
    (h : profileOfBytes bs = some x) : x.bytes = bs := by
  obtain ⟨policy, named, rfl⟩ := Option.map_eq_some_iff.1 h
  have code := policyOfByte_eq_some.1 named
  simp only [Profile.bytes, ofNat_byteAt, map_ofNat_toNat, ← code, beBytes_beNat_field (bs := bs) (i := 0) (n := 2) (by omega),
    beBytes_beNat_field (bs := bs) (i := 2) (n := 2) (by omega), beBytes_beNat_field (bs := bs) (i := 7) (n := 2) (by omega),
    beBytes_beNat_field (bs := bs) (i := 9) (n := 2) (by omega)]
  have whole : bs = field bs 0 24 := by rw [field, List.drop_zero, List.take_of_length_le (by omega)]
  conv_rhs => rw [whole]
  rw [field_eq_map bs 0 24 (by omega), field_eq_map bs 0 2 (by omega), field_eq_map bs 2 2 (by omega),
    field_eq_map bs 7 2 (by omega), field_eq_map bs 9 2 (by omega), field_eq_map bs 12 12 (by omega)]
  rfl

/-! ### PROFILE_WRITE, PORT_ENABLE and PORT_DISABLE -/

theorem exec_profileWrite_of_named {s : State} {f : Frame} {b : Byte} {more : List Byte} {p : PortId}
    (args : f.args = b :: more) (long : 24 ≤ more.length) (named : b.toNat = p.val) :
    exec (.profileWrite f) s = .next ((s.writeProfile (more.take 24) p).2.2.answerFrame (frameLength f) 0x02
      (s.writeProfile (more.take 24) p).1 (s.writeProfile (more.take 24) p).2.1) := by
  have bytes : field f.args 1 24 = more.take 24 := by rw [args]; rfl
  simp only [exec, execProfileWrite, bytes]
  rw [State.decideFrame_of_long (by rw [args, List.length_cons]; omega), State.onPortArgument_named args named]

theorem State.writeProfile_of_on {s : State} {p : PortId} (bs : List Byte) (on : (s.port p).state ≠ .off) :
    s.writeProfile bs p = (.badState, [], s) := if_pos on

theorem State.writeProfile_of_valid {s : State} {p : PortId} {x : Profile} (off : (s.port p).state = .off)
    (valid : x.valid = true) : s.writeProfile x.bytes p = (.ok, [], s.setPort p { s.port p with profile := x }) := by
  rw [State.writeProfile, if_neg (not_not.2 off), profileOfBytes_bytes valid]
  exact if_pos valid

theorem State.writeProfile_of_invalid {s : State} {p : PortId} {bs : List Byte} (off : (s.port p).state = .off)
    (size : bs.length = 24) (invalid : ∀ x : Profile, x.valid = true → bs ≠ x.bytes) :
    s.writeProfile bs p = (.badProfile, [], s) := by
  rw [State.writeProfile, if_neg (not_not.2 off)]
  cases profile : profileOfBytes bs with
  | none => rfl
  | some x => exact if_neg fun valid => invalid x valid (bytes_of_profileOfBytes size profile).symm

theorem exec_portEnable_of_named {s : State} {f : Frame} {b : Byte} {more : List Byte} {p : PortId}
    (args : f.args = b :: more) (named : b.toNat = p.val) :
    exec (.portEnable f) s = .next ((s.enablePort p).2.2.answerFrame (frameLength f) 0x08 (s.enablePort p).1
      (s.enablePort p).2.1) := by
  simp only [exec, execPortEnable]
  rw [State.decideFrame_of_long (by simp [args]), State.onPortArgument_named args named]

theorem exec_portDisable_of_named {s : State} {f : Frame} {b : Byte} {more : List Byte} {p : PortId}
    (args : f.args = b :: more) (named : b.toNat = p.val) :
    exec (.portDisable f) s = .next ((s.disablePort p).2.2.answerFrame (frameLength f) 0x09 (s.disablePort p).1
      (s.disablePort p).2.1) := by
  simp only [exec, execPortDisable]
  rw [State.decideFrame_of_long (by simp [args]), State.onPortArgument_named args named]

theorem State.enableTest_iff (s : State) (p : PortId) :
    s.enableTest p = true ↔ s.unmetOthers p + (s.port p).profile.reserve ≤ s.pool.freeList.length :=
  decide_eq_true_iff

/-- Settles O57. -/
theorem profileAndPortCommands : Obligations.ProfileAndPortCommands := by
  refine ⟨Profile.valid_iff, ?_⟩
  intro s b more spare f n bytes frame length hbytes
  have args : f.args = b :: more := by rw [frame]
  have layout : bytes = Profile.bytes := by
    rw [hbytes]
    funext x
    exact x.bytes_eq.symm
  clear hbytes frame
  subst layout length
  refine ⟨fun bad => ⟨fun long => ?_, ?_, ?_⟩, ?_⟩
  · simp only [exec, execProfileWrite]
    rw [State.decideFrame_of_long (by rw [args, List.length_cons]; omega), State.onPortArgument_badPort args bad]
  · simp only [exec, execPortEnable]
    rw [State.decideFrame_of_long (by simp [args]), State.onPortArgument_badPort args bad]
  · simp only [exec, execPortDisable]
    rw [State.decideFrame_of_long (by simp [args]), State.onPortArgument_badPort args bad]
  · rintro p q named rfl
    refine ⟨fun long on => ?_, fun long off => ⟨fun x valid carries => ?_, fun invalid => ?_⟩, fun on => ?_,
      fun off invalid => ?_, ?_, fun inactive => ?_, fun active => ?_⟩
    · rw [exec_profileWrite_of_named args long named, State.writeProfile_of_on _ on]
    · rw [exec_profileWrite_of_named args long named, carries, State.writeProfile_of_valid off valid]
    · rw [exec_profileWrite_of_named args long named, State.writeProfile_of_invalid off (by simp [long]) invalid]
    · rw [exec_portEnable_of_named args named, State.enablePort, if_pos on]
    · rw [exec_portEnable_of_named args named, State.enablePort, if_neg (not_not.2 off), if_pos (by simp [invalid])]
    · rintro unmet off valid rfl
      rw [← State.unmetOthers_eq_sum, exec_portEnable_of_named args named, State.enablePort, if_neg (not_not.2 off),
        if_neg (by simp [valid])]
      refine ⟨fun short => ?_, fun enough => ?_⟩
      · rw [if_pos (by rw [Bool.not_eq_true', ← Bool.not_eq_true, State.enableTest_iff]; omega)]
      · rw [if_neg (by rw [Bool.not_eq_true', ← Bool.not_eq_true, State.enableTest_iff]; omega)]
        rfl
    · rw [exec_portDisable_of_named args named, State.disablePort, if_pos inactive]
    · have assembled : (!(s.port p).assembly.isEmpty) = decide ((s.port p).assembly ≠ []) := by
        cases (s.port p).assembly <;> rfl
      rw [exec_portDisable_of_named args named, State.disablePort, if_neg (not_not.2 active)]
      simp only [State.onPort_eq, Port.drained, assembled]

/-! ### The Geometry Table -/

theorem GeometryEntry.valid_iff (g : GeometryEntry) :
    g.valid = true ↔ 64 ≤ g.K ∧ g.K ≤ 8192 ∧ g.K % 8 = 0 ∧ 1 ≤ g.permA ∧ g.permA < g.K ∧ Nat.gcd g.permA g.K = 1 ∧
      g.permB < g.K := by
  simp only [GeometryEntry.valid, Bool.and_eq_true, inRange_iff, beq_iff_eq]
  omega

/-- An insertion replaces the entry of its K and leaves the others. -/
theorem mem_insertGeometry {g : GeometryEntry} {l : List GeometryEntry} (ascending : l.Pairwise fun a b => a.K < b.K)
    (x : GeometryEntry) : x ∈ insertGeometry g l ↔ x = g ∨ (x ∈ l ∧ x.K ≠ g.K) := by
  induction l with
  | nil => simp [insertGeometry]
  | cons y ys ih =>
    obtain ⟨above, rest⟩ := List.pairwise_cons.1 ascending
    unfold insertGeometry
    split_ifs with before same
    · have other : x ∈ y :: ys → x.K ≠ g.K := by
        intro h
        rcases List.mem_cons.1 h with rfl | h
        · omega
        · have := above x h; omega
      rw [List.mem_cons]
      tauto
    · have other : x ∈ ys → x.K ≠ g.K := fun h => by have := above x h; omega
      have first : x = y → x.K = g.K := by rintro rfl; exact same.symm
      rw [List.mem_cons, List.mem_cons]
      tauto
    · have first : x = y → x.K ≠ g.K := by rintro rfl; exact fun h => same h.symm
      rw [List.mem_cons, List.mem_cons, ih rest]
      tauto

theorem insertGeometry_ascending {g : GeometryEntry} {l : List GeometryEntry}
    (ascending : l.Pairwise fun a b => a.K < b.K) : (insertGeometry g l).Pairwise fun a b => a.K < b.K := by
  induction l with
  | nil => exact List.pairwise_singleton ..
  | cons y ys ih =>
    obtain ⟨above, rest⟩ := List.pairwise_cons.1 ascending
    unfold insertGeometry
    split_ifs with before same
    · refine List.pairwise_cons.2 ⟨fun x h => ?_, ascending⟩
      rcases List.mem_cons.1 h with rfl | h
      · exact before
      · exact Nat.lt_trans before (above x h)
    · exact List.pairwise_cons.2 ⟨fun x h => same ▸ above x h, rest⟩
    · refine List.pairwise_cons.2 ⟨fun x h => ?_, ih rest⟩
      rcases (mem_insertGeometry rest x).1 h with rfl | ⟨h, -⟩
      · omega
      · exact above x h

theorem exec_geometryWrite_of_long {s : State} {f : Frame} (long : 6 ≤ f.args.length) :
    exec (.geometryWrite f) s = .next ((s.writeGeometry (geometryArgument f.args)).2.2.answerFrame (frameLength f) 0x04
      (s.writeGeometry (geometryArgument f.args)).1 (s.writeGeometry (geometryArgument f.args)).2.1) := by
  simp only [exec, execGeometryWrite]
  rw [State.decideFrame_of_long long]

theorem State.writeGeometry_of_invalid {s : State} {g : GeometryEntry} (invalid : ¬ g.valid = true) :
    s.writeGeometry g = (.badGeometry, [], s) := if_pos (by simpa using invalid)

theorem State.writeGeometry_of_full {s : State} {g : GeometryEntry} (valid : g.valid = true)
    (fresh : ∀ x ∈ s.geometry, x.K ≠ g.K) (full : 128 ≤ s.geometry.length) :
    s.writeGeometry g = (.geometryFull, [], s) := by
  rw [State.writeGeometry, if_neg (by simp [valid]), (s.geometryOf_eq_none g.K).2 fresh]
  exact if_neg (Nat.not_lt.2 full)

theorem State.writeGeometry_of_taken {s : State} {g : GeometryEntry} (valid : g.valid = true)
    (place : (∃ x ∈ s.geometry, x.K = g.K) ∨ s.geometry.length < 128) :
    s.writeGeometry g = (.ok, [], s.setGeometry (insertGeometry g s.geometry)) := by
  rw [State.writeGeometry, if_neg (by simp [valid])]
  cases found : s.geometryOf g.K with
  | some x => rfl
  | none =>
    rcases place with ⟨x, hx, same⟩ | room
    · exact absurd same ((s.geometryOf_eq_none g.K).1 found x hx)
    · exact if_pos room

theorem State.deleteGeometry_of_unknown {s : State} {K : Nat} (h : ∀ x ∈ s.geometry, x.K ≠ K) :
    s.deleteGeometry K = (.badGeometry, [], s) := by
  rw [State.deleteGeometry, (s.geometryOf_eq_none K).2 h]

theorem State.deleteGeometry_of_found {s : State} {K : Nat} (h : ∃ x ∈ s.geometry, x.K = K) :
    s.deleteGeometry K = (.ok, [], s.setGeometry (s.geometry.filter fun x => decide (x.K ≠ K))) := by
  rw [State.deleteGeometry]
  cases found : s.geometryOf K with
  | some x =>
    refine congrArg (fun l => (ResultCode.ok, [], s.setGeometry l)) (List.filter_congr fun y _ => ?_)
    by_cases same : y.K = K <;> simp [same]
  | none =>
    obtain ⟨x, hx, same⟩ := h
    exact absurd same ((s.geometryOf_eq_none K).1 found x hx)

theorem countUp_toNat (n : BitVec 32) : (countUp n).toNat = if n.toNat = 2 ^ 32 - 1 then 2 ^ 32 - 1 else n.toNat + 1 := by
  have top : n = BitVec.allOnes 32 ↔ n.toNat = 2 ^ 32 - 1 := by
    rw [← BitVec.toNat_inj, BitVec.toNat_allOnes]
  have small := n.isLt
  unfold countUp
  split_ifs with h h' h'
  · rw [h, BitVec.toNat_allOnes]
  · exact absurd (top.1 h) h'
  · exact absurd (top.2 h') h
  · rw [BitVec.toNat_add]
    exact Nat.mod_eq_of_lt (show n.toNat + 1 < 2 ^ 32 by omega)

/-- Settles O58. -/
theorem tableCommands : Obligations.TableCommands := by
  refine ⟨countUp_toNat, ?_, ?_⟩
  · rintro s p k c rfl
    exact ⟨rfl, rfl, rfl, rfl, rfl, rfl, rfl⟩
  · rintro s f n rfl
    refine ⟨?_, ?_, ?_, fun b more args => ⟨fun bad => ?_, fun p named => ?_⟩⟩
    · intro g long argument
      have carried : geometryArgument f.args = g := argument.symm
      rw [exec_geometryWrite_of_long long, carried]
      refine ⟨fun invalid => ?_, fun K1 K2 K8 a1 a2 gcd b2 ascending => ?_⟩
      · rw [State.writeGeometry_of_invalid (fun valid => invalid (g.valid_iff.1 valid))]
      · have valid := g.valid_iff.2 ⟨K1, K2, K8, a1, a2, gcd, b2⟩
        refine ⟨fun fresh full => ?_, fun place => ⟨insertGeometry g s.geometry, ?_,
          insertGeometry_ascending ascending, mem_insertGeometry ascending⟩⟩
        · rw [State.writeGeometry_of_full valid fresh full]
        · rw [State.writeGeometry_of_taken valid place]
    · rintro K long rfl
      simp only [exec, execGeometryDelete]
      rw [State.decideFrame_of_long long]
      refine ⟨fun unknown => ?_, fun found => ?_⟩
      · rw [State.deleteGeometry_of_unknown unknown]
      · rw [State.deleteGeometry_of_found found]
    · rintro v long rfl
      simp only [exec, execTimebaseWrite]
      rw [State.decideFrame_of_long long, State.writeTimebase]
      refine ⟨fun out => ?_, fun low high => ?_⟩
      · rw [if_neg (by rw [inRange_iff]; omega)]
      · rw [if_pos ((inRange_iff ..).2 ⟨low, high⟩)]
    · simp only [exec, execCountersClear]
      rw [State.decideFrame_of_long (by simp [args]), State.onPortArgument_badPort args bad]
    · simp only [exec, execCountersClear]
      rw [State.decideFrame_of_long (by simp [args]), State.onPortArgument_named args named]
      rfl

/-! ### The resets of the device -/

theorem allPages_map_val : allPages.map Fin.val = List.range 2112 := by
  refine List.ext_getElem (by simp [allPages]) fun i _ _ => ?_
  simp [allPages]

theorem map_val_filter_allPages (keep : Nat → Bool) :
    (allPages.filter fun pg => keep pg.val).map Fin.val = (List.range 2112).filter keep := by
  rw [← allPages_map_val, List.filter_map]
  rfl

theorem filter_range_add (n m : Nat) :
    (List.range (n + m)).filter (fun v => decide (v < n)) = List.range n ∧
      (List.range (n + m)).filter (fun v => !decide (v < n)) = (List.range m).map (n + ·) := by
  have low : ∀ v ∈ List.range n, v < n := fun v => List.mem_range.1
  have high : ∀ v ∈ (List.range m).map (n + ·), ¬ v < n := by
    intro v hv
    obtain ⟨w, -, rfl⟩ := List.mem_map.1 hv
    exact Nat.not_lt.2 (Nat.le_add_right ..)
  rw [List.range_add, List.filter_append, List.filter_append]
  constructor
  · rw [List.filter_eq_self.2 fun v hv => decide_eq_true (low v hv),
      List.filter_eq_nil_iff.2 fun v hv => by simpa using high v hv, List.append_nil]
  · rw [List.filter_eq_nil_iff.2 fun v hv => by simpa using low v hv, List.nil_append,
      List.filter_eq_self.2 fun v hv => by simpa using high v hv]

/-- After power-on the free list holds pages 0 to 2047 (R33). -/
theorem Pool.powerOn_freeList : Pool.powerOn.freeList.map Fin.val = List.range 2048 := by
  rw [Pool.powerOn, map_val_filter_allPages fun v => decide (v < Config.servicePages)]
  exact (filter_range_add 2048 64).1

/-- After power-on the spare list holds the other 64 pages (R33). -/
theorem Pool.powerOn_spareList : Pool.powerOn.spareList.map Fin.val = (List.range 64).map (2048 + ·) := by
  rw [Pool.powerOn, map_val_filter_allPages fun v => !decide (v < Config.servicePages)]
  exact (filter_range_add 2048 64).2

theorem State.ctx_of_free {s : State} (h : s.contexts = Vector.replicate 256 Context.free) (e : Entry) :
    s.ctx e = Context.free := by
  rw [State.ctx, h, Vector.get_eq_getElem, Vector.getElem_replicate]

theorem Vector.get_replicate_four {α : Type} (a : α) (p : PortId) : (Vector.replicate 4 a).get p = a := by
  rw [Vector.get_eq_getElem, Vector.getElem_replicate]

theorem State.deviceReset_port (s : State) (p : PortId) :
    s.deviceReset.port p = Port.offWith (s.port p).profile (s.port p).bus := by
  simp only [State.port, State.deviceReset, Vector.get_eq_getElem, Vector.getElem_map]

theorem exec_powerOnReset (s : State) : exec .powerOnReset s = .next { State.reset with pending := s.pending } := rfl

theorem exec_deviceReset (f : Frame) (s : State) :
    exec (.deviceReset f) s = .next (s.deviceReset.answerFrame (frameLength f) 0x0F .ok []) := by
  simp only [exec, execDeviceReset]
  rw [State.decideFrame_of_long (Nat.zero_le _)]

theorem filter_notListed (l m n : List Page) :
    (l.filter fun pg => !m.contains pg && !n.contains pg) = l.filter fun pg => decide (pg ∉ m ∧ pg ∉ n) :=
  List.filter_congr fun pg _ => by simp

/-- The free list that DEVICE_RESET builds (R34). -/
theorem Pool.rebuilt_freeList (pl : Pool) :
    pl.rebuilt.freeList = (List.finRange 2112).filter fun pg => decide (pg ∉ pl.spareList ∧ pg ∉ pl.retiredList) := by
  rw [← filter_notListed]
  rw [Pool.rebuilt, allPages]

theorem State.deviceReset_ctx (s : State) (e : Entry) : s.deviceReset.ctx e = Context.free :=
  State.ctx_of_free (by rw [State.deviceReset]) e

theorem State.powerOn_port (p : PortId) :
    State.reset.port p = Port.offWith
      ⟨0, 0, 0, 4, 8, 500, 50, .refuse, [24, 24, 24, 24, 24, 24, 24, 24, 24, 24, 24, 24]⟩ (State.reset.port p).bus := by
  rw [State.reset_port, Profile.default]
  simp [Port.offWith]

/-- Settles O59. -/
theorem resetsOfTheDevice : Obligations.ResetsOfTheDevice := by
  refine ⟨fun f b => rfl, rfl, fun s f => ⟨⟨s.deviceReset, exec_deviceReset f s, s.deviceReset_ctx, ?_⟩,
    ⟨_, exec_powerOnReset s, State.ctx_of_free (by rw [State.reset]), ?_⟩⟩⟩
  · refine ⟨by rw [State.deviceReset], by rw [State.deviceReset, Pool.rebuilt_freeList],
      by rw [State.deviceReset, Pool.rebuilt], by rw [State.deviceReset, Pool.rebuilt],
      by rw [State.deviceReset, Pool.rebuilt], fun p => ?_, ?_⟩
    · rw [State.deviceReset, Pool.rebuilt]
      exact Vector.get_replicate_four 0 p
    · simp only [State.deviceReset, Dispatcher.powerOn]
      refine ⟨trivial, trivial, trivial, trivial, fun p => ?_, trivial, trivial, trivial, s.deviceReset_port, fun p => ?_,
        fun p => ?_, trivial, trivial⟩
      · exact Vector.get_replicate_four [] p
      · exact Vector.get_replicate_four _ p
      · exact Vector.get_replicate_four _ p
  · refine ⟨by rw [State.reset], Pool.powerOn_freeList, Pool.powerOn_spareList, by rw [State.reset, Pool.powerOn],
      by rw [State.reset, Pool.powerOn], fun p => ?_, ?_⟩
    · rw [State.reset, Pool.powerOn]
      exact Vector.get_replicate_four 0 p
    · refine ⟨by rw [State.reset], by rw [State.reset, Dispatcher.powerOn], by rw [State.reset, Dispatcher.powerOn],
        fun p => ?_, by rw [State.reset], by rw [State.reset], by rw [State.reset], State.powerOn_port, fun p => ?_,
        fun p => ?_, by rw [State.reset, Link.powerOn], by simp only [State.reset, Link.powerOn, Config.replyBytes], rfl⟩
      · exact Vector.get_replicate_four [] p
      · exact Vector.get_replicate_four _ p
      · exact Vector.get_replicate_four _ p

end Sys2Proof.Machine
end

section
/-! SUPPORT. How a HELD context, a tombstone, a combine and a decode end (spec/01 R15 to R24, spec/03 section 3.7, spec/05 R103 to R112, spec/06 R122 to R124). -/

namespace Sys2Proof.Machine

/-! ### Answers posted, signals and freed entries as updates of one port -/

theorem State.postReserved_eq (s : State) (p : PortId) (a : Answer) :
    s.postReserved p a = s.setPort p ((s.port p).answered [a]) := rfl

theorem Port.answered_nil (q : Port) : q.answered [] = q := by
  simp [Port.answered]

theorem Port.answered_answered (q : Port) (as bs : List Answer) :
    (q.answered as).answered bs = q.answered (as ++ bs) := by
  simp only [Port.answered, List.append_assoc, List.length_append, Nat.sub_sub]

theorem State.freeContext_eq (s : State) (e : Entry) :
    s.freeContext e =
      (s.setCtx e Context.free).setPort (s.ctx e).port ((s.port (s.ctx e).port).signalled (s.ctx e).tag) := rfl

/-! ### A HELD context or a tombstone ends (spec/01 R22, spec/06 R123, R124) -/

section
variable {s u : State} {e : Entry} {c : Context} {q : Port} {k : NoticeKind}

/-- What the end of a HELD context does before its notice: it leaves the expiry list and gives its pages back. -/
def State.heldGivenBack (e : Entry) (s : State) : State :=
  (s.setExpiryList (s.expiry.list.erase e)).setPool (s.pool.giveBack (s.ctx e).port (s.ctx e).pages (s.ctx e).pageCount)

theorem State.endHeld_of_room (here : s.ctx e = c) (side : s.port c.port = q) (held : c.state = .held)
    (room : q.answers.length + q.reservations < 64) :
    s.endHeld k e = ((s.heldGivenBack e).setCtx e Context.free).setPort c.port (Port.signalled
      { q with answers := q.answers ++ [⟨c.tag, 0, .notice k c.lastAttempt⟩] } c.tag) := by
  subst here side
  rw [State.endHeld, if_pos held, if_pos ((Port.room_iff _).2 room)]
  simp [State.freeContext_eq, State.post, State.onPort_eq, State.heldGivenBack, State.giveBack, State.expiryRemove,
    noticeAnswer, State.setExpiryList]

theorem State.endHeld_of_noRoom (here : s.ctx e = c) (side : s.port c.port = q) (held : c.state = .held)
    (full : 64 ≤ q.answers.length + q.reservations) :
    s.endHeld k e = ((s.heldGivenBack e).setCtx e { c with
      state := .closing, pages := [], gap := false, deadline := 0,
      owedNotice := some ⟨k, c.lastAttempt⟩ }).setPort c.port { q with closing := q.closing ++ [e] } := by
  subst here side
  rw [State.endHeld, if_pos held, if_neg (by rw [Port.room_iff]; omega)]
  simp [State.onPort_eq, State.heldGivenBack, State.giveBack, State.expiryRemove, State.setExpiryList, Context.closing]

theorem State.endTombstone_of_solved (here : s.ctx e = c) (side : s.port c.port = q) (solved : c.state = .solved) :
    s.endTombstone e =
      ((s.setExpiryList (s.expiry.list.erase e)).setCtx e Context.free).setPort c.port (q.signalled c.tag) := by
  subst here side
  rw [State.endTombstone, if_pos solved]
  rfl

end

/-! ### The taking of expiries -/

theorem remaining_of_le {clock d : Ticks} (h : (d.toNat + 2 ^ 32 - clock.toNat) % 2 ^ 32 ≤ 2 ^ 31) :
    remaining clock d = ((d.toNat + 2 ^ 32 - clock.toNat) % 2 ^ 32 : Nat) := by
  have sub : (d - clock).toNat = (d.toNat + 2 ^ 32 - clock.toNat) % 2 ^ 32 := by
    rw [BitVec.toNat_sub]
    have := clock.isLt
    omega
  rw [remaining, sub, if_pos h]

theorem remaining_of_lt {clock d : Ticks} (h : 2 ^ 31 < (d.toNat + 2 ^ 32 - clock.toNat) % 2 ^ 32) :
    remaining clock d = ((d.toNat + 2 ^ 32 - clock.toNat) % 2 ^ 32 : Nat) - 2 ^ 32 := by
  have sub : (d - clock).toNat = (d.toNat + 2 ^ 32 - clock.toNat) % 2 ^ 32 := by
    rw [BitVec.toNat_sub]
    have := clock.isLt
    omega
  rw [remaining, sub, if_neg (by omega)]

theorem deadlineReached_iff (clock d : Ticks) :
    deadlineReached clock d = true ↔ (clock.toNat + 2 ^ 32 - d.toNat) % 2 ^ 32 < 2 ^ 31 := by
  have sub : (clock - d).toNat = (clock.toNat + 2 ^ 32 - d.toNat) % 2 ^ 32 := by
    rw [BitVec.toNat_sub]
    have := d.isLt
    omega
  rw [deadlineReached, decide_eq_true_iff, sub]

theorem deadlineReached_iff_remaining (clock d : Ticks) : deadlineReached clock d = true ↔ remaining clock d ≤ 0 := by
  rw [deadlineReached_iff]
  have hc := clock.isLt
  have hd := d.isLt
  rcases Nat.lt_or_ge (2 ^ 31) ((d.toNat + 2 ^ 32 - clock.toNat) % 2 ^ 32) with h | h
  · rw [remaining_of_lt h]
    omega
  · rw [remaining_of_le h]
    omega

/-- An insertion into a list in order of remaining time goes behind all that are not later (R120). -/
theorem insertDue_of_sorted (r : Entry → Int) (e : Entry) {l : List Entry} (sorted : l.Pairwise fun a b => r a ≤ r b) :
    insertDue r e l = (l.filter fun a => decide (r a ≤ r e)) ++ e :: l.filter fun a => decide (r e < r a) := by
  induction l with
  | nil => rfl
  | cons x xs ih =>
    obtain ⟨first, rest⟩ := List.pairwise_cons.1 sorted
    rcases Int.lt_or_le (r e) (r x) with late | early
    · have later : ∀ a ∈ x :: xs, r e < r a := fun a ha => by
        rcases List.mem_cons.1 ha with rfl | ha
        · exact late
        · exact Int.lt_of_lt_of_le late (first a ha)
      rw [insertDue, if_neg (Int.not_le.2 late),
        List.filter_eq_nil_iff.2 fun a ha => by simpa using later a ha,
        List.filter_eq_self.2 fun a ha => decide_eq_true (later a ha)]
      rfl
    · rw [insertDue, if_pos early, ih rest, List.filter_cons, List.filter_cons, if_pos (decide_eq_true early),
        if_neg (by simpa using early)]
      rfl

theorem State.dueExpiry?_of_head {s : State} {e : Entry} {rest : List Entry} (list : s.expiry.list = e :: rest)
    (due : deadlineReached s.expiry.clock (s.ctx e).deadline = true) : s.dueExpiry? = some e := by
  rw [State.dueExpiry?, list]
  simp [due]

theorem exec_expiryHeld_of_due {s : State} {e : Entry} (due : s.dueExpiry? = some e) (held : (s.ctx e).state = .held) :
    exec .expiryHeld s = .next ((s.endHeld .expired e).countExpiry (s.ctx e).port) := by
  simp only [exec, execExpiryHeld, due, if_pos held]

theorem exec_expiryTombstone_of_due {s : State} {e : Entry} (due : s.dueExpiry? = some e)
    (solved : (s.ctx e).state = .solved) : exec .expiryTombstone s = .next (s.endTombstone e) := by
  simp only [exec, execExpiryTombstone, due, if_pos solved]

/-- Settles O53. -/
theorem expiryEndsTheHead : Obligations.ExpiryEndsTheHead := by
  refine ⟨fun clock d r h => ?_, fun clock d => ⟨deadlineReached_iff_remaining clock d, deadlineReached_iff clock d⟩,
    fun s e => rfl, fun r e l => insertDue_of_sorted r e, ?_⟩
  · subst h
    exact ⟨remaining_of_le, remaining_of_lt⟩
  · rintro s u e rest c q list here side due rfl
    have gone : s.expiry.list.erase e = rest := by rw [list, List.erase_cons_head]
    have left : s.heldGivenBack e = (s.setExpiryList rest).setPool (s.pool.giveBack c.port c.pages c.pageCount) := by
      rw [State.heldGivenBack, gone, here]
    have taken := State.dueExpiry?_of_head list (here ▸ due)
    refine ⟨fun held room => ?_, fun held full => ?_, fun solved => ?_⟩
    · rw [exec_expiryHeld_of_due taken (here ▸ held), State.endHeld_of_room here side held room, left, here]
      rfl
    · rw [exec_expiryHeld_of_due taken (here ▸ held), State.endHeld_of_noRoom here side held full, left, here]
      rfl
    · rw [exec_expiryTombstone_of_due taken (here ▸ solved), State.endTombstone_of_solved here side solved, gone]

/-! ### A context that joins the expiry list (spec/01 R15, R19, R20) -/

theorem State.setPort_port_profile (s : State) {p : PortId} {q : Port} (r : PortId)
    (same : q.profile = (s.port p).profile) : ((s.setPort p q).port r).profile = (s.port r).profile := by
  rcases eq_or_ne p r with rfl | h
  · rw [State.setPort_port_same, same]
  · rw [State.setPort_port_other _ _ _ _ h]

theorem State.setPort_enterHeld (s : State) {p : PortId} {q : Port} (e : Entry)
    (same : q.profile = (s.port p).profile) : (s.setPort p q).enterHeld e = (s.enterHeld e).setPort p q := by
  rw [State.enterHeld, State.setPort_ctx, State.setPort_port_profile s _ same]
  rfl

theorem State.setPort_enterSolved (s : State) {p : PortId} {q : Port} (e : Entry)
    (same : q.profile = (s.port p).profile) : (s.setPort p q).enterSolved e = (s.enterSolved e).setPort p q := by
  rw [State.enterSolved, State.setPort_ctx, State.setPort_port_profile s _ same]
  rfl

/-! ### The ends of a combine (spec/03 section 3.7, spec/01 R15 to R17, R24) -/

theorem Combine.allAdded_iff (c : Combine) : c.allAdded = true ↔ c.phase = .adding ∧ c.count ≤ c.valueIndex := by
  simp [Combine.allAdded]

theorem exec_combineCompletion_of_due {s : State} {c : Combine} (busy : s.engine.combine = some c)
    (added : c.phase = .adding ∧ c.count ≤ c.valueIndex) (sound : c.damaged = []) (kept : c.abortRequested = false)
    (combining : (s.ctx c.entry).state = .combining) :
    exec .combineCompletion s = .next (((s.leaveCombining c (s.ctx c.entry)).endCombine c).settle c.port) := by
  simp only [exec, execCombineCompletion, busy]
  rw [if_pos ⟨c.allAdded_iff.2 added, sound, kept, combining⟩]

theorem State.endCombine_eq (s : State) (c : Combine) :
    s.endCombine c =
      (s.setEngine { s.engine with combine := none }).setPort c.port ((s.port c.port).freeBuffer c.buffer) := rfl

/-- The STORED answer of a combine that completes (R15). -/
def storedAnswers (c : Combine) (x : Context) : List Answer :=
  if c.action = .holdOnly then [⟨x.tag, c.cookie, .stored x.gap x.combinedCount⟩] else []

theorem State.answerStored_eq (s : State) (c : Combine) (x : Context) :
    s.answerStored c x = s.setPort x.port ((s.port x.port).answered (storedAnswers c x)) := by
  rw [State.answerStored, storedAnswers]
  cases c.action with
  | decode => simp [Port.answered_nil]
  | holdOnly => rfl

theorem State.withdraw_eq (s : State) (p : PortId) (x : Context) :
    s.withdraw p x =
      s.setPort p ((s.port p).answered (x.pendingDecode.toList.map fun owed => ⟨x.tag, owed.cookie, .withdrawn⟩)) := by
  rw [State.withdraw]
  cases x.pendingDecode with
  | none => simp [Port.answered_nil]
  | some d => rfl

theorem State.answerRelease_eq (s : State) (x : Context) (previous : CtxState) :
    s.answerRelease x previous =
      s.setPort x.port ((s.port x.port).answered
        (x.releasePending.toList.map fun k => ⟨x.tag, k, .released previous⟩)) := by
  rw [State.answerRelease]
  cases x.releasePending with
  | none => simp [Port.answered_nil]
  | some d => rfl

theorem State.leaveCombining_of_release {s : State} {c : Combine} {x : Context} {k : Cookie}
    (here : s.ctx c.entry = x) (release : x.releasePending = some k) :
    s.leaveCombining c x =
      ((s.giveBack x.port x.pages x.pageCount).setCtx c.entry Context.free).setPort x.port
        (((s.port x.port).answered ((x.pendingDecode.toList.map fun owed => ⟨x.tag, owed.cookie, .withdrawn⟩) ++
          storedAnswers c x ++ [⟨x.tag, k, .released .combining⟩])).signalled x.tag) := by
  subst here
  simp [State.leaveCombining, release, State.withdraw_eq, State.answerStored_eq, State.answerRelease_eq,
    Port.answered_answered, State.releasePages, State.freeContext_eq, State.giveBack]

theorem State.leaveCombining_of_decode {s : State} {c : Combine} {x : Context} {owed : PendingDecode}
    (release : x.releasePending = none) (pending : x.pendingDecode = some owed) :
    s.leaveCombining c x =
      ((s.setCtx c.entry { x with state := .queued, gap := gapAfter c.action x.gap }).dispatchAppend
        x.port c.entry).setPort x.port (((s.port x.port).answered (storedAnswers c x)).signalled x.tag) := by
  simp [State.leaveCombining, release, pending, State.answerStored_eq, State.signal, State.onPort_eq,
    State.dispatchAppend, State.setDispatchQueue]

theorem State.leaveCombining_of_hold {s : State} {c : Combine} {x : Context} (release : x.releasePending = none)
    (pending : x.pendingDecode = none) :
    s.leaveCombining c x =
      (s.enterHeld c.entry).setPort x.port (((s.port x.port).answered (storedAnswers c x)).signalled x.tag) := by
  simp only [State.leaveCombining, release, pending]
  rw [State.answerStored_eq, State.setPort_enterHeld s _ (by rfl), State.signal, State.onPort_eq, State.setPort_port_same,
    State.setPort_setPort]

/-- Settles O43. -/
theorem combineCompletion : Obligations.CombineCompletion := by
  rintro s c x p q busy here combining rfl owner side adding added sound kept
  have run := exec_combineCompletion_of_due busy ⟨adding, added⟩ sound kept (here ▸ combining)
  rw [here] at run
  rw [run]
  refine ⟨fun owed release pending => ⟨fun decode => ?_, fun hold => ?_⟩, fun release pending hold => ?_,
    fun k release => ?_⟩
  · rw [State.leaveCombining_of_decode release pending, State.endCombine_eq, storedAnswers, decode, owner, side]
    simp [Port.answered_nil, State.dispatchAppend, State.setDispatchQueue, gapAfter]
  · rw [State.leaveCombining_of_decode release pending, State.endCombine_eq, storedAnswers, hold, owner, side]
    simp [State.dispatchAppend, State.setDispatchQueue, gapAfter]
  · rw [State.leaveCombining_of_hold release pending, State.endCombine_eq, storedAnswers, hold, owner, side]
    simp [State.enterHeld, here, owner, side, State.deadlineAfter, State.expiryInsert, State.setExpiryList]
  · rw [State.leaveCombining_of_release here release, State.endCombine_eq, storedAnswers, owner, side]
    simp [State.giveBack]

theorem PortState.isResetting_iff (x : PortState) :
    x.isResetting = true ↔ x = .resetting .active ∨ x = .resetting .off := by
  cases x with
  | resetting target => cases target <;> simp [PortState.isResetting]
  | _ => simp [PortState.isResetting]

/-- The answers of Table 3-4, less the RELEASED of a release that waits (R17). -/
theorem State.answerCombineDamage_eq (s : State) (c : Combine) (x : Context) :
    s.answerCombineDamage c x = s.setPort x.port ((s.port x.port).answered ([⟨x.tag, c.cookie, .damaged⟩] ++
      if c.action = .holdOnly then x.pendingDecode.toList.map fun owed => ⟨x.tag, owed.cookie, .damaged⟩ else [])) := by
  rw [State.answerCombineDamage]
  cases c.action with
  | decode => simp [State.postReserved_eq]
  | holdOnly =>
    cases x.pendingDecode with
    | none => simp [State.postReserved_eq]
    | some d => simp [State.postReserved_eq, Port.answered_answered]

/-- A context closed by damage, as its answers leave its port (spec/02 R47, spec/01 R17, R21). -/
theorem State.closeDamaged_of_answered {s : State} {e : Entry} {x : Context} {q : Port} (here : s.ctx e = x)
    (report : List Page) :
    (s.setPort x.port q).closeDamaged e report =
      ((s.setPool ((Pool.retireAll report x.pages s.pool).2.giveBack x.port
        (Pool.retireAll report x.pages s.pool).1 x.pageCount)).setCtx e Context.free).setPort x.port
        (q.signalled x.tag) := by
  subst here
  simp [State.closeDamaged, State.freeContext_eq, State.giveBack]

/-- A context ended with its pages given back, as its answers leave its port (spec/01 R8, R24). -/
theorem State.releasePages_of_answered {s : State} {e : Entry} {x : Context} {q : Port} (here : s.ctx e = x) :
    (s.setPort x.port q).releasePages e =
      ((s.giveBack x.port x.pages x.pageCount).setCtx e Context.free).setPort x.port (q.signalled x.tag) := by
  subst here
  simp [State.releasePages, State.freeContext_eq, State.giveBack]

theorem exec_combineDamage_of_due {s : State} {c : Combine} (busy : s.engine.combine = some c) (found : c.damaged ≠ [])
    (read : c.openReads = []) (combining : (s.ctx c.entry).state = .combining) :
    exec .combineDamage s = .next (((
      (if (s.port (s.ctx c.entry).port).state.isResetting then s
        else (s.answerCombineDamage c (s.ctx c.entry)).answerRelease (s.ctx c.entry) .combining).closeDamaged c.entry
          c.damaged).endCombine c).settle c.port) := by
  simp only [exec, execCombineDamage, busy]
  rw [if_pos ⟨found, read, combining⟩]

theorem exec_combineAbort_of_due {s : State} {c : Combine} (busy : s.engine.combine = some c)
    (boundary : c.atBoundary = true) (sound : c.damaged = []) (read : c.openReads = [])
    (combining : (s.ctx c.entry).state = .combining) :
    exec .combineAbort s = .next (((s.releasePages c.entry).endCombine c).settle c.port) := by
  simp only [exec, execCombineAbort, busy]
  rw [if_pos ⟨boundary, sound, read, combining⟩]

theorem State.answers_of_state (s : State) {p : PortId} {as : List Answer} {t : State}
    (answered : t = s.setPort p ((s.port p).answered as)) :
    (if (s.port p).state.isResetting then s else t) = s.setPort p ((s.port p).answered
      (if (s.port p).state = .resetting .active ∨ (s.port p).state = .resetting .off then [] else as)) := by
  simp only [PortState.isResetting_iff, answered]
  split
  · rw [Port.answered_nil, State.setPort_self]
  · rfl

/-- Settles O44. -/
theorem combineDamageAndAbort : Obligations.CombineDamageAndAbort := by
  rintro s c x p q answers busy here combining rfl owner side read
  refine ⟨fun found posted => ?_, fun sound boundary => ?_⟩
  · have said : (s.answerCombineDamage c x).answerRelease x .combining = s.setPort x.port ((s.port x.port).answered
        ([⟨x.tag, c.cookie, .damaged⟩] ++
          (if c.action = .holdOnly then x.pendingDecode.toList.map fun owed => ⟨x.tag, owed.cookie, .damaged⟩ else []) ++
          (x.releasePending.toList.map fun k => ⟨x.tag, k, .released .combining⟩))) := by
      rw [State.answerCombineDamage_eq, State.answerRelease_eq, State.setPort_port_same, State.setPort_setPort,
        Port.answered_answered]
    rw [exec_combineDamage_of_due busy found read (here ▸ combining), here, State.answers_of_state s said,
      State.closeDamaged_of_answered here, State.endCombine_eq, posted]
    simp [owner, side]
  · have alone : s.releasePages c.entry = (s.setPort x.port (s.port x.port)).releasePages c.entry := by
      rw [State.setPort_self]
    rw [exec_combineAbort_of_due busy boundary sound read (here ▸ combining), alone,
      State.releasePages_of_answered here, State.endCombine_eq]
    simp [owner, side, State.giveBack]

/-! ### The ends of a decode (spec/05 R103 to R112, spec/01 R19 to R21, R24) -/

theorem Units.clear_isPaired (us : Units) (u : UnitId) : (us.clear u).isPaired = false := by
  cases us <;> cases u <;> rfl

theorem Units.clear_job (us : Units) (u v : UnitId) :
    (us.clear u).job v = if us.isPaired = true ∨ v = u then none else us.job v := by
  cases us <;> cases u <;> cases v <;> rfl

/-- What a decode's end does before its context's: the unit and the slot, a dispatch opportunity. -/
theorem State.freeDecode_eq (s : State) (u : UnitId) (j : Job) (slot : OutSlot) :
    s.freeDecode u j slot = ((s.setUnits (s.units.clear u)).setOpportunity true).setPort j.port
      ((s.port j.port).setOutSlot j.slot slot) := by
  simp [State.freeDecode, State.setOutSlot, State.onPort_eq]

/-- The answers at the end of a decode without an outcome of its own: none to a RESETTING port (spec/08 R153). -/
def endAnswers (q : Port) (x : Context) (first : Answer) : List Answer :=
  if q.state = .resetting .active ∨ q.state = .resetting .off then [] else
    [first] ++ (x.releasePending.toList.map fun k => ⟨x.tag, k, .released .decoding⟩)

theorem State.endAnswers_eq (t : State) {q : Port} (x : Context) (first : Answer) :
    (if q.state.isResetting then t else (t.postReserved x.port first).answerRelease x .decoding) =
      t.setPort x.port ((t.port x.port).answered (endAnswers q x first)) := by
  simp only [PortState.isResetting_iff, endAnswers]
  split
  · rw [Port.answered_nil, State.setPort_self]
  · rw [State.postReserved_eq, State.answerRelease_eq, State.setPort_port_same, State.setPort_setPort,
      Port.answered_answered]

section
variable {s : State} {u : UnitId} {j : Job} {x : Context} {p : PortId} {q : Port}

/-- The unit and the slot of a decode at its end, with what is left of its answers (R106, R109, R112). -/
theorem State.freeDecode_answered (owner : x.port = p) (work : j.port = p) (side : s.port p = q) (slot : OutSlot)
    (as : List Answer) :
    (s.freeDecode u j slot).setPort x.port (((s.freeDecode u j slot).port x.port).answered as) =
      ((s.setUnits (s.units.clear u)).setOpportunity true).setPort x.port ((q.setOutSlot j.slot slot).answered as) := by
  subst owner side
  rw [State.freeDecode_eq, work, State.setPort_port_same, State.setPort_setPort]

theorem State.completeAbandoned_eq (here : s.ctx j.entry = x) (owner : x.port = p) (work : j.port = p)
    (side : s.port p = q) :
    s.completeAbandoned u j = ((((((s.setUnits (s.units.clear u)).setOpportunity true).giveBack p x.pages x.pageCount).setCtx
      j.entry Context.free).setPort p (((q.setOutSlot j.slot .free).answered (endAnswers q x
        ⟨x.tag, j.cookie, .decoded .abandoned ((j.h + 1) / 2) x.gap false 0 0 0 0⟩)).signalled x.tag)).settle p) := by
  simp only [State.completeAbandoned, decodedAnswer, here]
  rw [State.endAnswers_eq, State.freeDecode_answered owner work side,
    State.releasePages_of_answered (s := (s.setUnits (s.units.clear u)).setOpportunity true) here, owner, work, side]

theorem exec_decodeDamage_of_due (unit : s.units.job u = some j) (found : j.damaged ≠ [])
    (read : j.reads.openReads = []) (partner : j.readsPartner.openReads = [])
    (decoding : (s.ctx j.entry).state = .decoding) :
    exec (.decodeDamage u) s = .next (((if (s.port (s.ctx j.entry).port).state.isResetting then s.freeDecode u j .free
      else ((s.freeDecode u j .free).postReserved (s.ctx j.entry).port ⟨(s.ctx j.entry).tag, j.cookie, .damaged⟩).answerRelease
        (s.ctx j.entry) .decoding).closeDamaged j.entry j.damaged).settle j.port) := by
  simp only [exec, execDecodeDamage, unit]
  rw [if_pos ⟨found, read, partner, decoding⟩]

theorem exec_halfIterationEnd_of_due (unit : s.units.job u = some j) (done : j.halfDone s.units.isPaired = true)
    (first : j.h % 2 = 0) (decoding : (s.ctx j.entry).state = .decoding) :
    (j.stopping = true → exec (.halfIterationEnd u) s = .next (s.completeAbandoned u j)) ∧
    (j.stopping = false → exec (.halfIterationEnd u) s = .next (s.setUnits (s.units.setJob u
      (Job.beginReads s.units.isPaired { j with
        h := j.h + 1
        extrinsic := j.storeExtrinsic false
          (j.runPass s.units.isPaired (recordValues s.store j.pages j.L).toArray false).1
        pairMetrics1 := (j.runPass s.units.isPaired (recordValues s.store j.pages j.L).toArray false).2 })))) := by
  have pass : j.second = false := by simp [Job.second, first]
  simp only [exec, execHalfIterationEnd, unit]
  rw [if_pos ⟨done, pass, decoding⟩]
  exact ⟨fun stop => if_pos stop, fun go => if_neg (by simp [go])⟩

theorem exec_iterationEnd_of_due (unit : s.units.job u = some j) (done : j.halfDone s.units.isPaired = true)
    (second : j.h % 2 = 1) (decoding : (s.ctx j.entry).state = .decoding) :
    (j.stopping = true → exec (.iterationEnd u) s = .next (s.completeAbandoned u j)) ∧
    (j.stopping = false → exec (.iterationEnd u) s = .next (s.endIteration u j)) := by
  have pass : j.second = true := by simp [Job.second, second]
  simp only [exec, execIterationEnd, unit]
  rw [if_pos ⟨done, pass, decoding⟩]
  exact ⟨fun stop => if_pos stop, fun go => if_neg (by simp [go])⟩

end

/-- Settles O50. -/
theorem decodeAbandonAndDamage : Obligations.DecodeAbandonAndDamage := by
  refine ⟨fun us u => ⟨us.clear_isPaired u, us.clear_job u⟩, ?_⟩
  rintro s t u j x p q first answers r unit here decoding owner work side rfl rfl rfl
  refine ⟨fun done stop body => ⟨fun pass => ?_, fun pass => ?_⟩, fun found read partner body => ?_⟩
  · rw [(exec_halfIterationEnd_of_due unit done pass (here ▸ decoding)).1 stop,
      State.completeAbandoned_eq here owner work side, body, endAnswers]
  · rw [(exec_iterationEnd_of_due unit done pass (here ▸ decoding)).1 stop,
      State.completeAbandoned_eq here owner work side, body, endAnswers]
  · rw [exec_decodeDamage_of_due unit found read partner (here ▸ decoding), here, State.endAnswers_eq,
      State.freeDecode_answered owner work side,
      State.closeDamaged_of_answered (s := (s.setUnits (s.units.clear u)).setOpportunity true) here, owner, work, side, body, endAnswers]
    rfl

theorem State.signal_setPort (s : State) (p : PortId) (q : Port) (tag : Tag) :
    (s.setPort p q).signal p tag = s.setPort p (q.signalled tag) := by
  rw [State.signal, State.onPort_eq, State.setPort_port_same, State.setPort_setPort]

theorem State.signal_countPass (s : State) (p r : PortId) (tag : Tag) :
    (s.countPass p).signal r tag = (s.signal r tag).countPass p := rfl

theorem State.signal_countFailure (s : State) (p r : PortId) (tag : Tag) :
    (s.countFailure p).signal r tag = (s.signal r tag).countFailure p := rfl

/-! ### The outcomes of an iteration end (spec/05 R101 to R107, spec/01 R19, R20) -/

section
variable {s : State} {u : UnitId} {j : Job} {x : Context} {p : PortId} {q : Port}

theorem State.completePass_of_noTombstone (here : s.ctx j.entry = x) (owner : x.port = p) (work : j.port = p)
    (side : s.port p = q) (bits : List Bool) (mism zeros : Nat) (none : q.profile.tombstoneLifetime = 0) :
    s.completePass u j bits mism zeros =
      (((((((s.setUnits (s.units.clear u)).setOpportunity true).giveBack p x.pages x.pageCount).setCtx j.entry
        Context.free).setPort p (((q.setOutSlot j.slot (.held (payloadOf bits))).answered
          [⟨x.tag, j.cookie, .decoded .pass (j.h / 2 + 1) x.gap false j.slot.val (j.K / 8) mism zeros⟩]).signalled
            x.tag)).countPass p).settle p) := by
  subst owner side
  simp only [State.completePass, here]
  rw [if_pos none, State.postReserved_eq, State.freeDecode_answered rfl work rfl, work]
  have counted (t : State) : (t.countPass x.port).releasePages j.entry = (t.releasePages j.entry).countPass x.port := rfl
  rw [counted, State.releasePages_of_answered (s := (s.setUnits (s.units.clear u)).setOpportunity true) here]
  rfl

theorem State.completePass_of_tombstone (here : s.ctx j.entry = x) (owner : x.port = p) (work : j.port = p)
    (side : s.port p = q) (bits : List Bool) (mism zeros : Nat) (kept : 0 < q.profile.tombstoneLifetime) :
    s.completePass u j bits mism zeros =
      ((((((((s.setUnits (s.units.clear u)).setOpportunity true).giveBack p x.pages x.pageCount).setCtx j.entry
        { x with
          state := .solved, pages := [], gap := false, units := ⟨false, false⟩,
          deadline := s.expiry.clock + BitVec.ofNat 32 q.profile.tombstoneLifetime }).expiryInsert
        j.entry).setPort p (((q.setOutSlot j.slot (.held (payloadOf bits))).answered
          [⟨x.tag, j.cookie, .decoded .pass (j.h / 2 + 1) x.gap false j.slot.val (j.K / 8) mism zeros⟩]).signalled
            x.tag)).countPass p).settle p) := by
  subst here owner side
  simp only [State.completePass]
  rw [if_neg (by omega), State.postReserved_eq, State.freeDecode_answered rfl work rfl, work]
  have counted (t : State) (r : Port) (same : r.profile = (t.port (s.ctx j.entry).port).profile) :
      (((t.setPort (s.ctx j.entry).port r).countPass (s.ctx j.entry).port).giveBack (s.ctx j.entry).port
        (s.ctx j.entry).pages (s.ctx j.entry).pageCount).enterSolved j.entry =
      (((t.giveBack (s.ctx j.entry).port (s.ctx j.entry).pages (s.ctx j.entry).pageCount).enterSolved
        j.entry).setPort (s.ctx j.entry).port r).countPass (s.ctx j.entry).port := by
    exact congrArg (State.countPass _) (State.setPort_enterSolved (t.giveBack _ _ _) j.entry same)
  rw [counted _ _ (by rfl), State.signal_countPass, State.signal_setPort]
  rfl

theorem State.completeFail_of_last (here : s.ctx j.entry = x) (owner : x.port = p) (work : j.port = p)
    (side : s.port p = q) (mism zeros : Nat) (last : x.lastAttempt = q.profile.maxAttempts) :
    s.completeFail u j mism zeros =
      (((((((s.setUnits (s.units.clear u)).setOpportunity true).giveBack p x.pages x.pageCount).setCtx j.entry
        Context.free).setPort p (((q.setOutSlot j.slot .free).answered
          [⟨x.tag, j.cookie, .decoded .fail (j.h / 2 + 1) x.gap true 0 0 mism zeros⟩]).signalled
            x.tag)).countFailure p).settle p) := by
  subst owner side
  simp only [State.completeFail, here, decide_eq_true last, if_true]
  rw [State.postReserved_eq, State.freeDecode_answered rfl work rfl, work]
  have counted (t : State) :
      (t.countFailure x.port).releasePages j.entry = (t.releasePages j.entry).countFailure x.port := rfl
  rw [counted, State.releasePages_of_answered (s := (s.setUnits (s.units.clear u)).setOpportunity true) here]
  rfl

theorem State.completeFail_of_further (here : s.ctx j.entry = x) (owner : x.port = p) (work : j.port = p)
    (side : s.port p = q) (mism zeros : Nat) (further : x.lastAttempt ≠ q.profile.maxAttempts) :
    s.completeFail u j mism zeros =
      (((((((s.setUnits (s.units.clear u)).setOpportunity true).setCtx j.entry
        { x with
          state := .held, gap := false, units := ⟨false, false⟩,
          deadline := s.expiry.clock + BitVec.ofNat 32 q.profile.holdLifetime }).expiryInsert j.entry).setPort p
        (((q.setOutSlot j.slot .free).answered
          [⟨x.tag, j.cookie, .decoded .fail (j.h / 2 + 1) x.gap false 0 0 mism zeros⟩]).signalled
            x.tag)).countFailure p).settle p) := by
  subst here owner side
  simp only [State.completeFail, decide_eq_false further, if_false, Bool.false_eq_true]
  rw [State.postReserved_eq, State.freeDecode_answered rfl work rfl, work]
  have counted (t : State) (r : Port) (same : r.profile = (t.port (s.ctx j.entry).port).profile) :
      ((t.setPort (s.ctx j.entry).port r).countFailure (s.ctx j.entry).port).enterHeld j.entry =
        ((t.enterHeld j.entry).setPort (s.ctx j.entry).port r).countFailure (s.ctx j.entry).port := by
    exact congrArg (State.countFailure _) (State.setPort_enterHeld t j.entry same)
  rw [counted _ _ (by rfl), State.signal_countFailure, State.signal_setPort]
  rfl

end

/-- What the iteration end of a RUNNING decode does, by its stop evaluation (R102). -/
theorem State.endIteration_of_stop {s : State} {u : UnitId} {j : Job} {record : List Int}
    {pass : List Int × PairMetrics} {bits : List Bool} {stop : Option DecodeOutcome}
    (values : record = recordValues s.store j.pages j.L)
    (ran : pass = j.runPass s.units.isPaired record.toArray true) (decided : bits = j.decisions record.toArray pass.1)
    (judged : stop = stopEvaluation j.stopMode j.checksumPresent (checksumPasses bits) (decide (j.previous = some bits))
      (decide (j.h / 2 + 1 = j.iterationLimit))) :
    (stop = none → s.endIteration u j = s.setUnits (s.units.setJob u (Job.beginReads s.units.isPaired
      { j with
        h := j.h + 1, extrinsic := j.storeExtrinsic true pass.1, previous := some bits, pairMetrics2 := pass.2 }))) ∧
    (stop = some .pass → s.endIteration u j =
      s.completePass u j bits (mismatchCount (record.take j.K) bits) (zeroCount (record.take j.K))) ∧
    (stop = some .fail → s.endIteration u j =
      s.completeFail u j (mismatchCount (record.take j.K) bits) (zeroCount (record.take j.K))) := by
  subst values ran decided judged
  refine ⟨fun stop => ?_, fun stop => ?_, fun stop => ?_⟩ <;>
    simp only [State.endIteration, Job.agrees, Job.iteration, beq_eq_decide, stop]

/-- Settles O49. -/
theorem iterationEndOutcomes : Obligations.IterationEndOutcomes := by
  rintro s t u j x p q record pass bits stop mism zeros unit here decoding owner work side done second run values ran
    decided judged rfl rfl rfl
  obtain ⟨goesOn, passes, fails⟩ := State.endIteration_of_stop (u := u) values ran decided judged
  rw [(exec_iterationEnd_of_due unit done second (here ▸ decoding)).2 run]
  refine ⟨fun none => by rw [goesOn none], fun r posted pass => ⟨fun noTombstone => ?_, fun kept => ?_⟩,
    fun r final last posted fail => ⟨fun isLast => ?_, fun isNot => ?_⟩⟩
  · rw [passes pass, State.completePass_of_noTombstone here owner work side _ _ _ noTombstone, posted]
  · rw [passes pass, State.completePass_of_tombstone here owner work side _ _ _ kept, posted]
  · rw [isLast] at last posted
    rw [fails fail, State.completeFail_of_last here owner work side _ _ (of_decide_eq_true last.symm), posted]
  · rw [isNot] at last posted
    rw [fails fail, State.completeFail_of_further here owner work side _ _ (of_decide_eq_false last.symm), posted]

end Sys2Proof.Machine
end

section
/-! SUPPORT. What the Combine Engine does from page to page: the end of a page's clearing and the reads it begins (spec/03 R61, R64, R67, R69, R70). -/

namespace Sys2Proof.Machine

/-! ### The end of a page's clearing -/

theorem State.clearPage_read (s : State) (pg : Page) (a : Nat) :
    Memory.read (s.clearPage pg).store a =
      if 512 * pg.val ≤ a ∧ a < 512 * pg.val + 512 then 0 else Memory.read s.store a := by
  have size : (List.replicate Config.pageValues (0 : Byte)).length = 512 := List.length_replicate
  rw [State.clearPage, State.setStore_store]
  split
  · next inside =>
    refine (Memory.read_written _ (pageBase pg) _ _ inside.1 (by rw [size]; exact inside.2)).trans ?_
    rw [List.getD_eq_getElem?_getD, List.getElem?_replicate]
    split <;> rfl
  · next outside =>
    rw [Memory.read_unwritten _ _ _ _ (by rw [size, pageBase, Config.pageValues]; omega)]

theorem exec_clearPageEnd_of_due {s : State} {c : Combine} {x : Context} {pg : Page} (busy : s.engine.combine = some c)
    (here : s.ctx c.entry = x) (clearing : c.phase = .clearing) (working : c.working = true)
    (found : x.pages[c.clearIndex]? = some pg) :
    exec .clearPageEnd s = .next ((s.clearPage pg).setCombine (some (c.cleared x.L x.pages))) := by
  subst here
  simp only [exec, execClearPageEnd, busy, clearing, found, working, if_true]

/-- Settles O39. -/
theorem clearPageEndZeroesThePage : Obligations.ClearPageEndZeroesThePage := by
  rintro s c x pg busy here clearing sound going found
  refine ⟨_, exec_clearPageEnd_of_due busy here clearing (c.working_iff.2 ⟨sound, going⟩) found, s.clearPage_read pg, rfl,
    fun more => ?_, fun last => ?_⟩
  · exact congrArg some (if_pos more)
  · exact congrArg some (if_neg (Nat.not_lt.2 last))

/-! ### The reads that may begin -/

theorem forall_mem_take_drop {α : Type} (l : List α) (P : α → Prop) (a b : Nat) :
    (∀ x ∈ (l.take b).drop a, P x) ↔ ∀ i x, a ≤ i → i < b → l[i]? = some x → P x := by
  constructor
  · intro h i x low high at_i
    refine h x (List.mem_iff_getElem?.2 ⟨i - a, ?_⟩)
    rw [List.getElem?_drop, Nat.add_sub_cancel' low, List.getElem?_take_of_lt high, at_i]
  · intro h x hx
    obtain ⟨k, hk⟩ := List.mem_iff_getElem?.1 hx
    rw [List.getElem?_drop, List.getElem?_take] at hk
    split at hk
    · exact h (a + k) x (Nat.le_add_right ..) ‹_› hk
    · cases hk

/-- An earlier visit of a page that is not yet written (R64). -/
def Combine.awaitsWrite (L : Nat) (pages : List Page) (pg : Page) (c : Combine) : Prop :=
  ∃ i w, c.written L ≤ i ∧ i < c.readsEnded + c.openReads.length ∧ (Machine.visits L c.start c.count)[i]? = some w ∧
    pages[w.position / 512]? = some pg

/-- Whether the next read begins (R64, R69, R70). -/
theorem Combine.beginReads_one {L : Nat} {pages : List Page} {c : Combine} {v : Visit} {pg : Page}
    (next : (Machine.visits L c.start c.count)[c.readsEnded + c.openReads.length]? = some v)
    (place : pages[v.position / 512]? = some pg) :
    (c.openReads.length < 2 ∧ c.damaged = [] ∧ c.atBoundary = false ∧ ¬ c.awaitsWrite L pages pg →
      c.beginReads L pages 1 = { c with openReads := c.openReads ++ [pg] }) ∧
    (¬ (c.openReads.length < 2 ∧ c.damaged = [] ∧ c.atBoundary = false ∧ ¬ c.awaitsWrite L pages pg) →
      c.beginReads L pages 1 = c) := by
  have waits : (((c.visits L).take (c.readsEnded + c.openReads.length)).drop (c.written L)).all
      (fun w => w.page? pages != some pg) = true ↔ ¬ c.awaitsWrite L pages pg := by
    simp only [List.all_eq_true, forall_mem_take_drop, Combine.awaitsWrite, Combine.visits, Visit.page?, bne_iff_ne,
      Config.pageValues]
    exact ⟨fun h ⟨i, w, a, b, e, f⟩ => h i w a b e f, fun h i w a b e f => h ⟨i, w, a, b, e, f⟩⟩
  have step : c.beginReads L pages 1 = if c.openReads.length < 2 ∧ c.damaged = [] ∧ c.atBoundary = false ∧
      (((c.visits L).take (c.readsEnded + c.openReads.length)).drop (c.written L)).all
        (fun w => w.page? pages != some pg) = true then { c with openReads := c.openReads ++ [pg] } else c := by
    have next' : (c.visits L)[c.readsEnded + c.openReads.length]? = some v := next
    have place' : v.page? pages = some pg := place
    simp only [Combine.beginReads, next', place']
  rw [step]
  exact ⟨fun ⟨few, sound, going, free⟩ => if_pos ⟨few, sound, going, waits.2 free⟩,
    fun blocked => if_neg fun ⟨few, sound, going, free⟩ => blocked ⟨few, sound, going, waits.1 free⟩⟩

theorem Combine.beginReads_none {L : Nat} {pages : List Page} {c : Combine}
    (stopped : c.damaged ≠ [] ∨ c.atBoundary = true ∨ 2 ≤ c.openReads.length ∨
      (Machine.visits L c.start c.count).length ≤ c.readsEnded + c.openReads.length) (fuel : Nat) :
    c.beginReads L pages fuel = c := by
  cases fuel with
  | zero => rfl
  | succ fuel =>
    simp only [Combine.beginReads]
    split
    · rfl
    · next v next =>
      split
      · rfl
      · refine if_neg fun ⟨open_, sound, going, _⟩ => ?_
        have inside := (List.getElem?_eq_some_iff.1 next).1
        rcases stopped with h | h | h | h
        · exact h sound
        · rw [going] at h
          cases h
        · omega
        · exact absurd h (Nat.not_le.2 inside)

/-- Two reads begin one after the other. -/
theorem Combine.beginReads_two (L : Nat) (pages : List Page) (c : Combine) :
    c.beginReads L pages 2 = (c.beginReads L pages 1).beginReads L pages 1 := by
  rw [Combine.beginReads]
  split
  · next none => simp only [Combine.beginReads, none]
  · next v next =>
    split
    · next none => simp only [Combine.beginReads, next, none]
    · next pg place =>
      split
      · next begins =>
        refine congrArg (Combine.beginReads L pages 1) ?_
        simp only [Combine.beginReads, next, place, if_pos begins]
      · next blocked => simp only [Combine.beginReads, next, place, if_neg blocked]

theorem exec_combinePageReadEnd {s : State} {c : Combine} {x : Context} {pg : Page} {rest : List Page}
    (busy : s.engine.combine = some c) (here : s.ctx c.entry = x) (reading : c.openReads = pg :: rest) (passed : Bool) :
    exec (.combinePageReadEnd passed) s = .next (s.setCombine (some (c.readEnded x.L x.pages passed pg rest))) := by
  subst here
  simp only [exec, execCombinePageReadEnd, busy, reading]

/-- Settles O40. -/
theorem combineReadsAhead : Obligations.CombineReadsAhead := by
  refine ⟨fun s c x pg rest busy here reading => ⟨exec_combinePageReadEnd busy here reading true,
    exec_combinePageReadEnd busy here reading false⟩, ?_⟩
  rintro L pages c m rfl
  refine ⟨rfl, c.beginReads_two L pages, fun stopped => c.beginReads_none stopped 1, fun v pg next place => ⟨?_, ?_⟩⟩
  · rintro waits
    exact (Combine.beginReads_one next place).2 fun ⟨_, _, _, not⟩ => not waits
  · intro sound going open_ apart
    exact (Combine.beginReads_one next place).1
      ⟨open_, sound, going, fun ⟨i, w, a, b, e, f⟩ => apart i w a b e f⟩

end Sys2Proof.Machine
end

section
/-! SUPPORT. Selection and admission of an attempt (spec/03 R54 to R57, spec/01 R4, R10 to R14). -/

namespace Sys2Proof.Machine

/-! ### Selection -/

theorem Port.waiting_of_notReady {q : Port} (h : ∀ r, q.slot ≠ .ready r) : q.waiting = q := by
  cases slot : q.slot with
  | ready r => exact absurd slot (h r)
  | _ =>
    simp only [Port.waiting, slot]
    rw [← slot]

theorem Port.waiting_of_ready {q : Port} {r : Request} (h : q.slot = .ready r) :
    q.waiting = { q with slot := .keyWait r } := by
  simp only [Port.waiting, h]

/-- A scan that finds every READY slot of some ports busy (R55). -/
def State.waitAll (ps : List PortId) (s : State) : State := ps.foldl (fun t p => t.onPort p Port.waiting) s

theorem State.waitAll_ports (ps : List PortId) (s : State) : s.waitAll ps = { s with ports := (s.waitAll ps).ports } := by
  induction ps generalizing s with
  | nil => rfl
  | cons p ps ih => exact ih (s.onPort p Port.waiting)

theorem State.waitAll_port {ps : List PortId} (once : ps.Nodup) (s : State) (r : PortId) :
    (s.waitAll ps).port r = if r ∈ ps then (s.port r).waiting else s.port r := by
  induction ps generalizing s with
  | nil => rfl
  | cons p ps ih =>
    obtain ⟨absent, once⟩ := List.nodup_cons.1 once
    rw [State.waitAll, List.foldl_cons]
    refine (ih once _).trans ?_
    rcases eq_or_ne p r with rfl | other
    · rw [if_neg absent, if_pos (List.mem_cons_self ..), State.onPort_port_same]
    · rw [State.onPort_port_other _ _ _ _ other]
      simp only [List.mem_cons, other.symm, false_or]

/-- The scan goes past ports whose READY slots are all busy, and leaves those in KEY_WAIT (R54, R55). -/
theorem State.scanSlots_of_busy {ps : List PortId} (rest : List PortId) (once : ps.Nodup) {s : State}
    (busy : ∀ p ∈ ps, ∀ r, (s.port p).slot = .ready r → s.keyBusy p r.tag = true) :
    State.scanSlots (ps ++ rest) s = State.scanSlots rest (s.waitAll ps) := by
  induction ps generalizing s with
  | nil => rfl
  | cons p ps ih =>
    obtain ⟨absent, once⟩ := List.nodup_cons.1 once
    have later : State.scanSlots (ps ++ rest) (s.onPort p Port.waiting) =
        State.scanSlots rest (s.waitAll (p :: ps)) := by
      refine ih once fun r hr o ready => ?_
      rw [State.onPort_port_other _ _ _ _ (by rintro rfl; exact absent hr)] at ready
      exact busy r (List.mem_cons_of_mem _ hr) o ready
    rw [← later, List.cons_append, State.scanSlots]
    have stays : (∀ r, (s.port p).slot ≠ .ready r) → s.onPort p Port.waiting = s := fun h => by
      rw [State.onPort_eq, Port.waiting_of_notReady h, State.setPort_self]
    cases slot : (s.port p).slot with
    | empty => rw [stays fun r => by simp [slot]]
    | keyWait o => rw [stays fun r => by simp [slot]]
    | ready o =>
      simp only
      rw [if_pos (busy p (List.mem_cons_self ..) o slot), State.onPort_eq, State.onPort_eq, Port.waiting_of_ready slot]

theorem State.scanSlots_of_free {p : PortId} {rest : List PortId} {s : State} {r : Request}
    (ready : (s.port p).slot = .ready r) (free : s.keyBusy p r.tag = false) :
    State.scanSlots (p :: rest) s = (s, some (p, r)) := by
  simp only [State.scanSlots, ready, free, if_false, Bool.false_eq_true]

theorem scanOrder_nodup (p : PortId) : (scanOrder p).Nodup := by
  revert p
  decide

theorem mem_scanOrder (p r : PortId) : r ∈ scanOrder p := by
  revert p r
  decide

theorem mem_scanOrder_take (p : PortId) (i k : Fin 4) : portAfter p k ∈ (scanOrder p).take i.val ↔ k < i := by
  revert p i k
  decide

theorem scanOrder_eq (p : PortId) (i : Fin 4) :
    scanOrder p = (scanOrder p).take i.val ++ portAfter p i :: (scanOrder p).drop (i.val + 1) := by
  revert p i
  decide

theorem State.takeSlot_eq (s : State) (p : PortId) :
    s.takeSlot p = (s.setPort p { s.port p with slot := .empty }).setEngine { s.engine with pointer := p + 1 } := rfl

theorem exec_combineSelection_of_taken {s u : State} {p : PortId} {r : Request} (idle : s.engine.combine = none)
    (taken : State.scanSlots (scanOrder s.engine.pointer) s = (u, some (p, r))) :
    exec .combineSelection s = .next (((u.takeSlot p).admitAttempt p r).settle p) := by
  simp only [exec, execCombineSelection, idle, taken]

theorem exec_combineSelection_of_none {s u : State} (idle : s.engine.combine = none)
    (found : State.scanSlots (scanOrder s.engine.pointer) s = (u, none)) : exec .combineSelection s = .next u := by
  simp only [exec, execCombineSelection, idle, found]

/-- Settles O35. -/
theorem selectionScansInOrder : Obligations.SelectionScansInOrder := by
  refine fun s u idle => ⟨?_, ?_⟩
  · rintro i p r rfl ready free before rest sides
    have passed : s.waitAll ((scanOrder s.engine.pointer).take i.val) = u := by
      rw [rest, State.waitAll_ports]
      refine congrArg (fun ports => { s with ports := ports }) (State.ports_ext fun q => ?_)
      obtain ⟨k, rfl⟩ := portAfter_onto s.engine.pointer q
      rw [State.waitAll_port ((scanOrder_nodup _).sublist (List.take_sublist ..)), sides]
      simp only [mem_scanOrder_take]
    have unmoved := sides i
    rw [if_neg (lt_irrefl i)] at unmoved
    have taken : State.scanSlots (scanOrder s.engine.pointer) s =
        (u, some (portAfter s.engine.pointer i, r)) := by
      rw [scanOrder_eq s.engine.pointer i, State.scanSlots_of_busy _ ((scanOrder_nodup _).sublist (List.take_sublist ..)),
        passed]
      · refine State.scanSlots_of_free (unmoved ▸ ready) ?_
        rw [← free, rest]
        rfl
      · intro q hq o slot
        obtain ⟨k, rfl⟩ := portAfter_onto s.engine.pointer q
        exact before k o ((mem_scanOrder_take ..).1 hq) slot
    have engine : u.engine = s.engine := by rw [rest]
    have moved := u.takeSlot_eq (portAfter s.engine.pointer i)
    rw [engine] at moved
    exact ⟨taken, moved, moved ▸ exec_combineSelection_of_taken idle taken⟩
  · intro busy rest sides
    have passed : s.waitAll (scanOrder s.engine.pointer) = u := by
      rw [rest, State.waitAll_ports]
      refine congrArg (fun ports => { s with ports := ports }) (State.ports_ext fun q => ?_)
      rw [State.waitAll_port (scanOrder_nodup _), if_pos (mem_scanOrder ..), sides]
    have found : State.scanSlots (scanOrder s.engine.pointer) s = (u, none) := by
      have scanned := State.scanSlots_of_busy (s := s) [] (scanOrder_nodup s.engine.pointer) fun p _ o => busy p o
      rw [List.append_nil, passed] at scanned
      exact scanned
    exact ⟨found, exec_combineSelection_of_none idle found⟩

/-! ### Admission -/

theorem State.freeEntry?_of_first {s : State} {e : Entry} (free : (s.ctx e).state = .free)
    (first : ∀ d, d < e → (s.ctx d).state ≠ .free) : s.freeEntry? = some e := by
  refine List.find?_eq_some_iff_getElem.2 ⟨by simp [free], e.val, by simp [allEntries], by simp [allEntries], ?_⟩
  intro k hk
  simpa [allEntries] using first ⟨k, hk.trans e.isLt⟩ hk

theorem Request.pending_eq (r : Request) : r.pending =
    if r.action = .decode then some ⟨r.cookie, r.iterationLimit, r.stopMode, r.checksumPresent⟩ else none := by
  rw [Request.pending]
  cases r.action <;> rfl

section
variable {s : State} {p : PortId} {r : Request}

theorem State.answerUncombined_eq (body : AnswerBody) : s.answerUncombined p r body = s.answersAlone p r body := by
  rw [State.answerUncombined, State.answersAlone, State.postReserved_eq, State.freeBuffer, State.onPort_eq,
    State.setPort_port_same, State.setPort_setPort]

theorem State.refuseUncombined_eq (why : RefusalReason) :
    s.refuseUncombined p r why = (s.answersAlone p r (.refused why)).countRefusal p := by
  rw [State.refuseUncombined, State.answerUncombined_eq]

theorem State.admitAttempt_of_new (new : s.lookup p r.tag = none) : s.admitAttempt p r = s.openNew p r := by
  simp only [State.admitAttempt, new]

theorem State.admitAttempt_of_mismatch {e : Entry} (found : s.lookup p r.tag = some e) (size : r.K ≠ (s.ctx e).K) :
    s.admitAttempt p r = (s.answersAlone p r (.refused .keyMismatch)).countRefusal p := by
  simp only [State.admitAttempt, found, if_pos size, State.refuseUncombined_eq]

theorem State.admitAttempt_of_solved {e : Entry} (found : s.lookup p r.tag = some e) (size : r.K = (s.ctx e).K)
    (solved : (s.ctx e).state = .solved) :
    s.admitAttempt p r = s.answersAlone p r (.alreadySolved (s.ctx e).lastAttempt) := by
  simp only [State.admitAttempt, found, if_neg (not_not.2 size), solved, State.answerUncombined_eq]

theorem State.admitAttempt_of_duplicate {e : Entry} (found : s.lookup p r.tag = some e) (size : r.K = (s.ctx e).K)
    (here : (s.ctx e).state = .held ∨ (s.ctx e).state = .queued) (old : r.attempt ≤ (s.ctx e).lastAttempt) :
    s.admitAttempt p r = s.answersAlone p r (.duplicate (s.ctx e).lastAttempt) := by
  rcases here with held | queued
  · simp only [State.admitAttempt, found, if_neg (not_not.2 size), held, if_pos old, State.answerUncombined_eq]
  · simp only [State.admitAttempt, found, if_neg (not_not.2 size), queued, if_pos old, State.answerUncombined_eq]

theorem State.admitAttempt_of_held {e : Entry} (found : s.lookup p r.tag = some e) (size : r.K = (s.ctx e).K)
    (held : (s.ctx e).state = .held) (later : (s.ctx e).lastAttempt < r.attempt) :
    s.admitAttempt p r = s.continueHeld p e r := by
  simp only [State.admitAttempt, found, if_neg (not_not.2 size), held, if_neg (Nat.not_le.2 later)]

theorem State.admitAttempt_of_queued {e : Entry} (found : s.lookup p r.tag = some e) (size : r.K = (s.ctx e).K)
    (queued : (s.ctx e).state = .queued) (later : (s.ctx e).lastAttempt < r.attempt) :
    s.admitAttempt p r = s.mergeQueued p e r := by
  simp only [State.admitAttempt, found, if_neg (not_not.2 size), queued, if_neg (Nat.not_le.2 later)]

theorem State.openNew_of_noSize (unknown : s.geometryOf r.K = none) :
    s.openNew p r = (s.answersAlone p r (.refused .badSize)).countRefusal p := by
  simp only [State.openNew, unknown, State.refuseUncombined_eq]

/-- The state in which a New attempt looks for an entry, and the one in which it looks for pages (R11). -/
theorem State.openNew_of_size {g : GeometryEntry} {w : State} (size : s.geometryOf r.K = some g)
    (relieved : w = if s.entryAvailable p then s else s.relieveEntries p) :
    s.openNew p r =
      if w.entryAvailable p then w.openWithPages p r g else (w.answersAlone p r (.refused .tableFull)).countRefusal p := by
  subst relieved
  simp only [State.openNew, size, State.refuseUncombined_eq]

theorem State.openWithPages_of_noSpace {g : GeometryEntry} {x : State}
    (relieved : x = if s.grants p (pagesFor (recordLength g.K)) then s else s.relievePages p (pagesFor (recordLength g.K)))
    (none : x.grants p (pagesFor (recordLength g.K)) = false) :
    s.openWithPages p r g = (x.answersAlone p r (.refused .noSpace)).countRefusal p := by
  subst relieved
  simp only [State.openWithPages, none, if_false, Bool.false_eq_true, State.refuseUncombined_eq]

theorem State.openWithPages_of_space {g : GeometryEntry} {x : State} {e : Entry}
    (relieved : x = if s.grants p (pagesFor (recordLength g.K)) then s else s.relievePages p (pagesFor (recordLength g.K)))
    (granted : x.grants p (pagesFor (recordLength g.K)) = true) (entry : x.freeEntry? = some e) :
    s.openWithPages p r g = ((x.setPool (x.pool.take p (pagesFor (recordLength g.K)))).setCtx e
      (newContext p r g (x.pool.freeList.take (pagesFor (recordLength g.K))))).beginCombine p e r true := by
  subst relieved
  simp only [State.openWithPages, granted, if_true, entry]

end

/-- Settles O36. -/
theorem admissionOpensANewContext : Obligations.AdmissionOpensANewContext := by
  rintro s u v w x p r g e n idle taken rfl new size relieved available rfl pages granted free first
  rw [exec_combineSelection_of_taken idle taken, State.admitAttempt_of_new new, State.openNew_of_size size relieved,
    if_pos available, State.openWithPages_of_space pages granted (State.freeEntry?_of_first free first), newContext,
    Request.pending_eq]
  rfl

/-- Settles O38. -/
theorem attemptsAnsweredWithoutCombining : Obligations.AttemptsAnsweredWithoutCombining := by
  rintro s u v p r idle taken rfl
  rw [exec_combineSelection_of_taken idle taken]
  refine ⟨?_, fun new => ⟨fun unknown => ?_, ?_⟩⟩
  · rintro e c found rfl
    refine ⟨fun size => ?_, fun size solved => ?_, fun size here old => ?_⟩
    · rw [State.admitAttempt_of_mismatch found size]
    · rw [State.admitAttempt_of_solved found size solved]
    · rw [State.admitAttempt_of_duplicate found size here old]
  · rw [State.admitAttempt_of_new new, State.openNew_of_noSize unknown]
  · rintro g w x n size relieved rfl pages
    refine ⟨fun none => ?_, fun available none => ?_⟩
    · rw [State.admitAttempt_of_new new, State.openNew_of_size size relieved, if_neg (by rw [none]; exact Bool.false_ne_true)]
    · rw [State.admitAttempt_of_new new, State.openNew_of_size size relieved, if_pos available,
        State.openWithPages_of_noSpace pages none]

theorem Port.setBuf_answered (q : Port) (b : BufId) (x : Buffer) (as : List Answer) :
    (q.answered as).setBuf b x = (q.setBuf b x).answered as := by
  cases b <;> rfl

theorem Port.buf_answered (q : Port) (b : BufId) (as : List Answer) : (q.answered as).buf b = q.buf b := by
  cases b <;> rfl

/-- The combine that an attempt into an open context starts, its first reads begun (R57, R64). -/
def addingCombine (p : PortId) (e : Entry) (r : Request) (c : Context) : Combine :=
  Combine.beginReads c.L c.pages 2
    { port := p, entry := e, cookie := r.cookie, action := r.action, buffer := r.buffer, start := r.start,
      count := r.count, phase := .adding, clearIndex := 0, valueIndex := 0, abortRequested := false, openReads := [],
      readsEnded := 0, damaged := [], atBoundary := false }

theorem State.beginCombine_of_open (s : State) (p : PortId) (e : Entry) (r : Request) :
    s.beginCombine p e r false =
      ((s.setEngine { s.engine with combine := some (addingCombine p e r (s.ctx e)) }).setPort p
        ((s.port p).setBuf r.buffer { (s.port p).buf r.buffer with state := .combining })).countAdmitted p := rfl

/-- What a merge leaves of the context's decode (R13). -/
def mergedPending (r : Request) (c : Context) : Option PendingDecode :=
  match r.action with
  | .decode => r.pending
  | .holdOnly => c.pendingDecode

/-- A merge, with the answers that it posts (R13). -/
theorem State.mergeQueued_eq {s : State} {p : PortId} {e : Entry} {r : Request} {as : List Answer}
    (posted : (s.dispatchRemove p e).supersede p (s.ctx e) r =
      (s.dispatchRemove p e).setPort p ((s.port p).answered as)) :
    s.mergeQueued p e r =
      ((((s.dispatchRemove p e).setCtx e
        { (s.ctx e).admitted r.attempt with pendingDecode := mergedPending r (s.ctx e) }).setEngine
        { s.engine with combine := some (addingCombine p e r (s.ctx e)) }).setPort p
          (((s.port p).setBuf r.buffer { (s.port p).buf r.buffer with state := .combining }).answered as)).countAdmitted
            p := by
  rw [State.mergeQueued, posted, State.beginCombine_of_open, ← Port.setBuf_answered]
  have engine : (s.dispatchRemove p e).engine = s.engine := by simp
  simp only [State.setCtx_ctx_same, State.setCtx_engine, State.setPort_engine, engine, State.setCtx_port,
    State.setPort_port_same, Port.buf_answered]
  rw [State.setPort_setCtx, State.setPort_setEngine, State.setPort_setPort]
  rfl

/-- Settles O37. -/
theorem admissionContinuesOrMerges : Obligations.AdmissionContinuesOrMerges := by
  rintro s u v p r e c d b q idle taken rfl found rfl size later rfl rfl rfl
  rw [exec_combineSelection_of_taken idle taken]
  refine ⟨fun held => ?_, fun queued hold => ?_, fun owed queued decode pending => ?_⟩
  · rw [State.admitAttempt_of_held found size held later, State.continueHeld, Request.pending_eq,
      State.beginCombine_of_open, State.setCtx_ctx_same]
    rfl
  · have posted : ((u.takeSlot p).dispatchRemove p e).supersede p ((u.takeSlot p).ctx e) r =
        ((u.takeSlot p).dispatchRemove p e).setPort p (((u.takeSlot p).port p).answered []) := by
      rw [Port.answered_nil, ← State.dispatchRemove_port _ p e, State.setPort_self]
      simp only [State.supersede, hold]
    rw [State.admitAttempt_of_queued found size queued later, State.mergeQueued_eq posted, Port.answered_nil,
      mergedPending, addingCombine, hold]
    rfl
  · have posted : ((u.takeSlot p).dispatchRemove p e).supersede p ((u.takeSlot p).ctx e) r =
        ((u.takeSlot p).dispatchRemove p e).setPort p (((u.takeSlot p).port p).answered
          [⟨((u.takeSlot p).ctx e).tag, owed.cookie, .superseded r.attempt⟩]) := by
      simp only [State.supersede, decode, pending]
      rw [State.postReserved_eq, State.dispatchRemove_port]
    rw [State.admitAttempt_of_queued found size queued later, State.mergeQueued_eq posted, mergedPending, decode,
      Request.pending_eq, if_pos decode, addingCombine, decode]
    rfl

end Sys2Proof.Machine
end

section
/-! SUPPORT. The Page Pool's damage reports and evictions (spec/02 R37, R40, R42 to R48). -/

namespace Sys2Proof.Machine

/-! ### Damage reports -/

theorem filter_mem_erase {report pages : List Page} {pg : Page} (once : pages.Nodup) :
    report.filter (fun q => decide (q ∈ pages.erase pg)) =
      (report.filter fun q => decide (q ∈ pages)).filter fun q => !q == pg := by
  rw [List.filter_filter]
  refine List.filter_congr fun q _ => ?_
  rw [Bool.eq_iff_iff]
  simp [once.mem_erase_iff]

/-- Retirement of the pages of a report, each once, in report order (R46, R48). -/
theorem Pool.retireAll_eq (report : List Page) :
    ∀ (pages : List Page) (pl : Pool), pages.Nodup →
      Pool.retireAll report pages pl =
        (pages.filter fun q => decide (q ∉ report),
          { pl with
            retiredList := pl.retiredList ++ (report.filter fun q => decide (q ∈ pages)).eraseDups
            spareList := pl.spareList.drop (report.filter fun q => decide (q ∈ pages)).eraseDups.length
            freeList := pl.freeList ++
              pl.spareList.take (report.filter fun q => decide (q ∈ pages)).eraseDups.length
            shortfall := pl.shortfall +
              ((report.filter fun q => decide (q ∈ pages)).eraseDups.length - pl.spareList.length) }) := by
  induction report with
  | nil => intro pages pl once; simp [Pool.retireAll]
  | cons pg report ih =>
    intro pages pl once
    rw [Pool.retireAll]
    split
    · next listed =>
      have kept : (pages.erase pg).filter (fun q => decide (q ∉ report)) =
          pages.filter fun q => decide (q ∉ pg :: report) := by
        rw [once.erase_eq_filter, List.filter_filter]
        refine List.filter_congr fun q _ => ?_
        rw [Bool.eq_iff_iff]
        simp
        tauto
      have named : ((pg :: report).filter fun q => decide (q ∈ pages)).eraseDups =
          pg :: (report.filter fun q => decide (q ∈ pages.erase pg)).eraseDups := by
        rw [List.filter_cons_of_pos (by simpa using listed), List.eraseDups_cons, filter_mem_erase once]
      rw [ih _ _ (once.erase pg), kept, named, Pool.retire]
      cases spares : pl.spareList with
      | nil => simp [Nat.add_assoc, Nat.add_comm]
      | cons sp rest => simp
    · next absent =>
      have kept : pages.filter (fun q => decide (q ∉ report)) = pages.filter fun q => decide (q ∉ pg :: report) := by
        refine List.filter_congr fun q hq => ?_
        have other : q ≠ pg := fun h => absent (h ▸ hq)
        simp [other]
      rw [ih _ _ once, kept, List.filter_cons_of_neg (by simpa using absent)]

/-- Settles O33. -/
theorem damagedPagesAreRetiredOnce : Obligations.DamagedPagesAreRetiredOnce := by
  refine ⟨fun pl s p pages n => ⟨rfl, rfl⟩, fun report pages named pl once names => ?_⟩
  subst names
  exact ⟨congrArg Prod.fst (Pool.retireAll_eq report pages pl once), congrArg Prod.snd (Pool.retireAll_eq report pages pl once)⟩

/-! ### Eviction -/

theorem State.entryAvailable_iff (s : State) (p : PortId) :
    s.entryAvailable p = true ↔ (∃ e, (s.ctx e).state = .free) ∧
      (allEntries.filter fun e => (s.ctx e).port == p && (s.ctx e).state != .free).length <
        (s.port p).profile.maxContexts := by
  simp only [State.entryAvailable, State.freeEntry?, State.contextCount, Bool.and_eq_true, List.find?_isSome,
    beq_iff_eq, mem_allEntries, true_and, Bool.and_comm]
  exact and_congr Iff.rfl decide_eq_true_iff

/-- Entries ended one after the other until a test passes: as few of the first as make it pass, or all. -/
theorem exists_take_of_stops {α β : Type} {run : List α → β → β} {f : β → α → β} {stop : β → Bool}
    (nil : ∀ b, run [] b = b) (cons : ∀ a l b, run (a :: l) b = if stop b then b else run l (f b a)) (l : List α) (b : β) :
    ∃ k, k ≤ l.length ∧ run l b = (l.take k).foldl f b ∧ (∀ i, i < k → stop ((l.take i).foldl f b) = false) ∧
      (k = l.length ∨ stop (run l b) = true) := by
  induction l generalizing b with
  | nil => exact ⟨0, Nat.le_refl _, nil b, fun i hi => absurd hi (Nat.not_lt_zero i), .inl rfl⟩
  | cons a l ih =>
    rw [cons]
    cases now : stop b with
    | true => exact ⟨0, Nat.zero_le _, rfl, fun i hi => absurd hi (Nat.not_lt_zero i), .inr now⟩
    | false =>
      obtain ⟨k, short, ran, before, last⟩ := ih (f b a)
      refine ⟨k + 1, Nat.succ_le_succ short, ran, fun i hi => ?_, last.imp (congrArg Nat.succ) id⟩
      cases i with
      | zero => exact now
      | succ i => exact before i (Nat.lt_of_succ_lt_succ hi)

theorem State.evictForPages_stops (s : State) (p : PortId) (n : Nat) (es : List Entry) :
    ∃ k, k ≤ es.length ∧ s.evictForPages p n es = s.evictAll p (es.take k) ∧
      (∀ i, i < k → (s.evictAll p (es.take i)).grants p n = false) ∧
      (k = es.length ∨ (s.evictForPages p n es).grants p n = true) :=
  exists_take_of_stops (run := fun es s => s.evictForPages p n es) (stop := fun s => s.grants p n) (fun _ => rfl)
    (fun _ _ _ => rfl) es s

theorem State.evictForEntry_stops (s : State) (p : PortId) (es : List Entry) :
    ∃ k, k ≤ es.length ∧ s.evictForEntry p es = s.evictAll p (es.take k) ∧
      (∀ i, i < k → (s.evictAll p (es.take i)).entryAvailable p = false) ∧
      (k = es.length ∨ (s.evictForEntry p es).entryAvailable p = true) :=
  exists_take_of_stops (run := fun es s => s.evictForEntry p es) (stop := fun s => s.entryAvailable p) (fun _ => rfl)
    (fun _ _ _ => rfl) es s

theorem State.evictTombstones_stops (s : State) (p : PortId) (es : List Entry) :
    ∃ k, k ≤ es.length ∧ s.evictTombstones p es = (es.take k).foldl (fun t e => t.endTombstone e) s ∧
      (∀ i, i < k → ((es.take i).foldl (fun t e => t.endTombstone e) s).entryAvailable p = false) ∧
      (k = es.length ∨ (s.evictTombstones p es).entryAvailable p = true) :=
  exists_take_of_stops (run := fun es s => s.evictTombstones p es) (stop := fun s => s.entryAvailable p)
    (fun _ => rfl) (fun _ _ _ => rfl) es s

/-- What the grant test reads of the pool and the ports (R37). -/
structure SameTest (s t : State) (p : PortId) (free used : Nat) : Prop where
  free : t.pool.freeList.length = s.pool.freeList.length + free
  usage : t.pool.usageOf p = s.pool.usageOf p - used
  others : ∀ r, r ≠ p → t.pool.usageOf r = s.pool.usageOf r
  shortfall : t.pool.shortfall = s.pool.shortfall
  ports : ∀ r, (t.port r).profile = (s.port r).profile ∧ (t.port r).state = (s.port r).state

theorem SameTest.grants_iff {s t : State} {p : PortId} {free used : Nat} (h : SameTest s t p free used) (n : Nat) :
    t.grants p n = s.grantOk p n (s.pool.freeList.length + free) (s.pool.usageOf p - used) := by
  have unmet : t.unmetOthers p = s.unmetOthers p := by
    rw [State.unmetOthers, State.unmetOthers]
    have counted : (allPorts.filter fun r => r != p && (t.port r).state.counted) =
        allPorts.filter fun r => r != p && (s.port r).state.counted :=
      List.filter_congr fun r _ => by rw [(h.ports r).2]
    rw [counted]
    refine congrArg List.sum (List.map_congr_left fun r hr => ?_)
    have other : r ≠ p := by
      have := (List.mem_filter.1 hr).2
      rw [Bool.and_eq_true] at this
      simpa using this.1
    rw [State.unmet, State.unmet, (h.ports r).1, h.others r other]
  rw [State.grants, State.grantOk, State.grantOk, h.free, h.usage, h.shortfall, unmet, (h.ports p).1]

theorem SameTest.refl (s : State) (p : PortId) : SameTest s s p 0 0 :=
  ⟨rfl, rfl, fun _ _ => rfl, rfl, fun _ => ⟨rfl, rfl⟩⟩

theorem SameTest.trans {s t u : State} {p : PortId} {f g m n : Nat} (h : SameTest s t p f m) (k : SameTest t u p g n) :
    SameTest s u p (f + g) (m + n) :=
  ⟨by rw [k.free, h.free, Nat.add_assoc], by rw [k.usage, h.usage, Nat.sub_sub],
    fun r hr => by rw [k.others r hr, h.others r hr], by rw [k.shortfall, h.shortfall],
    fun r => ⟨by rw [(k.ports r).1, (h.ports r).1], by rw [(k.ports r).2, (h.ports r).2]⟩⟩

theorem SameTest.evictOne {s : State} {p : PortId} {e : Entry} (held : (s.ctx e).state = .held)
    (owner : (s.ctx e).port = p) :
    SameTest s ((s.endHeld .evicted e).countEviction p) p (s.ctx e).pages.length (s.ctx e).pageCount := by
  subst owner
  have sides (r : PortId) (q : Port) (profile : q.profile = (s.port (s.ctx e).port).profile)
      (state : q.state = (s.port (s.ctx e).port).state) (u : State) (same : ∀ r, u.port r = s.port r) :
      ((u.setPort (s.ctx e).port q).port r).profile = (s.port r).profile ∧
        ((u.setPort (s.ctx e).port q).port r).state = (s.port r).state := by
    rcases eq_or_ne (s.ctx e).port r with rfl | other
    · rw [State.setPort_port_same]
      exact ⟨profile, state⟩
    · rw [State.setPort_port_other _ _ _ _ other, same]
      exact ⟨rfl, rfl⟩
  have pool : ((s.endHeld .evicted e).countEviction (s.ctx e).port).pool =
      s.pool.giveBack (s.ctx e).port (s.ctx e).pages (s.ctx e).pageCount := by
    rw [State.countEviction_pool]
    rcases Nat.lt_or_ge ((s.port (s.ctx e).port).answers.length + (s.port (s.ctx e).port).reservations) 64 with room | full
    · rw [State.endHeld_of_room rfl rfl held room]
      rfl
    · rw [State.endHeld_of_noRoom rfl rfl held full]
      rfl
  refine ⟨?_, ?_, ?_, ?_, fun r => ?_⟩
  · rw [pool, Pool.giveBack, List.length_append]
  · rw [pool, Pool.giveBack_usage, if_pos rfl]
  · intro r other
    rw [pool, Pool.giveBack_usage, if_neg other.symm]
  · rw [pool]
    rfl
  · rw [State.countEviction_port]
    rcases Nat.lt_or_ge ((s.port (s.ctx e).port).answers.length + (s.port (s.ctx e).port).reservations) 64 with room | full
    · rw [State.endHeld_of_room rfl rfl held room]
      exact sides r _ (by rfl) (by rfl) _ fun _ => by rfl
    · rw [State.endHeld_of_noRoom rfl rfl held full]
      exact sides r _ (by rfl) (by rfl) _ fun _ => by rfl

theorem State.evictOne_ctx_other (s : State) {p : PortId} {e d : Entry} (other : e ≠ d) :
    ((s.endHeld .evicted e).countEviction p).ctx d = s.ctx d := by
  rw [State.countEviction_ctx, State.endHeld_ctx, if_neg fun h => other h.1]

/-- All the HELD contexts of a port evicted, the test of R37 is as R44 makes it. -/
theorem SameTest.evictAll {p : PortId} {es : List Entry} (once : es.Nodup) :
    ∀ {s : State}, (∀ e ∈ es, (s.ctx e).state = .held ∧ (s.ctx e).port = p) →
      SameTest s (s.evictAll p es) p (es.map fun e => (s.ctx e).pages.length).sum
        (es.map fun e => (s.ctx e).pageCount).sum := by
  induction es with
  | nil => exact fun _ => .refl _ p
  | cons e es ih =>
    intro s here
    obtain ⟨absent, once⟩ := List.nodup_cons.1 once
    obtain ⟨held, owner⟩ := here e (List.mem_cons_self ..)
    have same : ∀ d ∈ es, ((s.endHeld .evicted e).countEviction p).ctx d = s.ctx d := fun d hd =>
      s.evictOne_ctx_other fun h => absent (h ▸ hd)
    have rest := ih once (s := (s.endHeld .evicted e).countEviction p) fun d hd => by
      rw [same d hd]
      exact here d (List.mem_cons_of_mem _ hd)
    have pages : (es.map fun d => (((s.endHeld .evicted e).countEviction p).ctx d).pages.length) =
        es.map fun d => (s.ctx d).pages.length := List.map_congr_left fun d hd => by rw [same d hd]
    have counts : (es.map fun d => (((s.endHeld .evicted e).countEviction p).ctx d).pageCount) =
        es.map fun d => (s.ctx d).pageCount := List.map_congr_left fun d hd => by rw [same d hd]
    rw [pages, counts] at rest
    exact (SameTest.evictOne held owner).trans rest

theorem filter_erase_of_not {α : Type} [DecidableEq α] {keep : α → Bool} {a : α} (h : keep a = false) (l : List α) :
    (l.erase a).filter keep = l.filter keep := by
  induction l with
  | nil => rfl
  | cons b l ih =>
    rcases eq_or_ne b a with rfl | other
    · rw [List.erase_cons_head, List.filter_cons_of_neg (by simp [h])]
    · rw [List.erase_cons_tail (by simpa using other), List.filter_cons, List.filter_cons, ih]

/-- The end of a tombstone leaves the HELD contexts and their order. -/
theorem State.endTombstone_candidates (s : State) (e : Entry) (p : PortId) :
    (s.endTombstone e).candidates p .held = s.candidates p .held := by
  by_cases solved : (s.ctx e).state = .solved
  · have list : (s.endTombstone e).expiry.list = s.expiry.list.erase e := by
      rw [State.endTombstone_of_solved rfl rfl solved]
      rfl
    have kept : ∀ a, (((s.endTombstone e).ctx a).port == p && ((s.endTombstone e).ctx a).state == .held) =
        ((s.ctx a).port == p && (s.ctx a).state == .held) := by
      intro a
      rw [State.endTombstone_ctx]
      split
      · next h => rw [← h.1, solved, show (Context.free.state == CtxState.held) = (CtxState.solved == CtxState.held) from rfl,
          show (CtxState.solved == CtxState.held) = false from rfl, Bool.and_false, Bool.and_false]
      · rfl
    rw [State.candidates, State.candidates, list]
    simp only [kept]
    exact filter_erase_of_not (by simp [solved]) _
  · rw [State.endTombstone, if_neg solved]

theorem State.endTombstones_candidates (es : List Entry) (p : PortId) (s : State) :
    (es.foldl (fun t e => t.endTombstone e) s).candidates p .held = s.candidates p .held := by
  induction es generalizing s with
  | nil => rfl
  | cons e es ih => rw [List.foldl_cons, ih, State.endTombstone_candidates]

section
variable {s : State} {p : PortId} {n : Nat}

theorem State.relievePages_of_can (own : (s.port p).profile.evictionPolicy = .evictOwn)
    (can : s.evictionCanSucceed p n = true) :
    s.relievePages p n = s.evictForPages p n (s.candidates p .held) := by
  simp only [State.relievePages, own, can, if_true]

theorem State.relievePages_of_cannot (own : (s.port p).profile.evictionPolicy = .evictOwn)
    (cannot : s.evictionCanSucceed p n ≠ true) : s.relievePages p n = s := by
  simp only [State.relievePages, own, if_neg cannot]

theorem State.evictionCanSucceed_iff : s.evictionCanSucceed p n = true ↔
    n ≤ s.pool.freeList.length + ((s.candidates p .held).map fun e => (s.ctx e).pageCount).sum ∧
      s.pool.usageOf p - ((s.candidates p .held).map fun e => (s.ctx e).pageCount).sum + n ≤ (s.port p).profile.cap ∧
      s.unmetOthers p + ((s.port p).profile.reserve -
          (s.pool.usageOf p - ((s.candidates p .held).map fun e => (s.ctx e).pageCount).sum + n)) ≤
        s.pool.freeList.length + ((s.candidates p .held).map fun e => (s.ctx e).pageCount).sum - n +
          s.pool.shortfall := by
  rw [State.evictionCanSucceed, State.grantOk_iff]

theorem State.mem_candidates_held {e : Entry} (h : e ∈ s.candidates p .held) :
    (s.ctx e).state = .held ∧ (s.ctx e).port = p := by
  have := (List.mem_filter.1 h).2
  rw [Bool.and_eq_true] at this
  exact ⟨by simpa using this.2, by simpa using this.1⟩

/-- Where the test of R44 passes, evicting every HELD context of the port certainly makes the grant. -/
theorem State.grants_evictAll (pool : PoolLaw s) (expiry : ExpiryLaw s) (can : s.evictionCanSucceed p n = true) :
    (s.evictAll p (s.candidates p .held)).grants p n = true := by
  have test := SameTest.evictAll (s := s) (p := p) (es := s.candidates p .held) (expiry.once.filter _)
    fun e he => State.mem_candidates_held he
  have sizes : ((s.candidates p .held).map fun e => (s.ctx e).pages.length) =
      (s.candidates p .held).map fun e => (s.ctx e).pageCount := List.map_congr_left fun e he => by
    rw [pool.listLength, (State.mem_candidates_held he).1]
    rfl
  rw [← can, State.evictionCanSucceed, test.grants_iff, sizes]

end

/-- Settles O34. -/
theorem evictionRelievesShortages : Obligations.EvictionRelievesShortages := by
  refine ⟨State.entryAvailable_iff, ?_, ?_⟩
  · rintro s u e c q here side rfl
    have left : s.heldGivenBack e = (s.setExpiryList (s.expiry.list.erase e)).setPool
        (s.pool.giveBack c.port c.pages c.pageCount) := by
      rw [State.heldGivenBack, here]
    refine ⟨fun held room => ?_, fun held full => ?_, State.endTombstone_of_solved here side⟩
    · rw [State.endHeld_of_room here side held room, left]
      rfl
    · rw [State.endHeld_of_noRoom here side held full, left]
      rfl
  · rintro s p n H unmet tombs helds can pool expiry rfl rfl rfl rfl rfl
    have canIff := State.evictionCanSucceed_iff (s := s) (p := p) (n := n)
    rw [State.unmetOthers_eq_sum] at canIff
    refine ⟨fun refuse => ⟨by simp only [State.relievePages, refuse], by simp only [State.relieveEntries, refuse]⟩,
      fun own => ⟨fun cannot => ?_, fun can => ?_, ?_⟩⟩
    · exact State.relievePages_of_cannot own fun can => cannot (canIff.1 can)
    · have succeeds := canIff.2 can
      rw [State.relievePages_of_can own succeeds]
      obtain ⟨k, short, ran, before, last⟩ := s.evictForPages_stops p n (s.candidates p .held)
      refine ⟨?_, k, short, ran, before⟩
      rcases last with rfl | granted
      · rw [ran, List.take_length]
        exact State.grants_evictAll pool expiry succeeds
      · exact granted
    · obtain ⟨j, shortT, ranT, beforeT, lastT⟩ := s.evictTombstones_stops p (s.candidates p .solved)
      have kept : (s.evictTombstones p (s.candidates p .solved)).candidates p .held = s.candidates p .held := by
        rw [ranT, State.endTombstones_candidates]
      obtain ⟨k, shortH, ranH, beforeH, lastH⟩ :=
        (s.evictTombstones p (s.candidates p .solved)).evictForEntry_stops p (s.candidates p .held)
      have relieved : s.relieveEntries p =
          (s.evictTombstones p (s.candidates p .solved)).evictForEntry p (s.candidates p .held) := by
        simp only [State.relieveEntries, own, kept]
      have allTombs : 0 < k → j = (s.candidates p .solved).length := fun some => by
        rcases lastT with h | available
        · exact h
        · have none : (s.evictTombstones p (s.candidates p .solved)).entryAvailable p = false := beforeH 0 some
          rw [none] at available
          cases available
      refine ⟨j, k, shortT, shortH, by rw [relieved, ranH, ranT]; rfl, beforeT, allTombs, fun i hi => ?_, fun none => ?_⟩
      · have := beforeH i hi
        rw [ranT, allTombs (Nat.lt_of_le_of_lt (Nat.zero_le i) hi), List.take_length] at this
        exact this
      · rw [relieved] at none
        have allHelds : k = (s.candidates p .held).length := lastH.resolve_right fun h => by
          rw [none] at h
          cases h
        refine ⟨?_, allHelds⟩
        rcases Nat.eq_zero_or_pos k with rfl | some
        · refine lastT.resolve_right fun h => ?_
          rw [ranH] at none
          rw [show (s.evictTombstones p (s.candidates p .solved)).entryAvailable p = false from none] at h
          cases h
        · exact allTombs some

end Sys2Proof.Machine
end

section
/-! SUPPORT. The evaluation of a queue head and the dispatch event (spec/04 R74 to R84). -/

namespace Sys2Proof.Machine

theorem Units.assign_one {us : Units} (apart : us.isPaired = false) (j : Job) (u v : UnitId) :
    (us.assign (.one u) j).isPaired = false ∧ (us.assign (.one u) j).job v = if v = u then some j else us.job v := by
  cases us with
  | paired k => cases apart
  | apart a b => cases u <;> cases v <;> exact ⟨rfl, rfl⟩

theorem Units.idle_iff (us : Units) (u : UnitId) : us.idle u = true ↔ us.job u = none := by
  rw [Units.idle, Option.isNone_iff_eq_none]

theorem Units.bothIdle_iff (us : Units) : us.bothIdle = true ↔ us.job .du0 = none ∧ us.job .du1 = none := by
  rw [Units.bothIdle, Bool.and_eq_true, Units.idle_iff, Units.idle_iff]

/-- The lower-numbered IDLE unit (R79). -/
theorem Units.firstIdle?_eq (us : Units) :
    (us.job .du0 = none → us.firstIdle? = some .du0) ∧
    (us.job .du0 ≠ none → us.job .du1 = none → us.firstIdle? = some .du1) ∧
    (us.job .du0 ≠ none → us.job .du1 ≠ none → us.firstIdle? = none) := by
  simp only [Units.firstIdle?, Units.idle_iff]
  exact ⟨fun a => if_pos a, fun a b => by rw [if_neg a, if_pos b], fun a b => by rw [if_neg a, if_neg b]⟩

theorem State.freeSlot?_of_none {s : State} {p : PortId} (none : ∀ i, (s.port p).outSlot i ≠ .free) :
    s.freeSlot? p = Option.none := by
  rw [State.freeSlot?, List.find?_eq_none]
  exact fun i _ => by simpa using none i

theorem State.freeSlot?_of_first {s : State} {p : PortId} {i : SlotId} (free : (s.port p).outSlot i = .free)
    (first : ∀ k, k < i → (s.port p).outSlot k ≠ .free) : s.freeSlot? p = some i := by
  refine List.find?_eq_some_iff_getElem.2 ⟨by simp [free], i.val, by simp, by simp, ?_⟩
  intro k hk
  simpa using first ⟨k, hk.trans i.isLt⟩ hk

section
variable {s : State} {p : PortId} {e : Entry} {rest : List Entry} {d : PendingDecode} {i : SlotId}

theorem State.evaluateHead_of_empty (empty : s.dispatchQueue p = []) : s.evaluateHead p = .passedOver := by
  rw [State.evaluateHead, empty]
  rfl

theorem State.evaluateHead_of_noSlot (none : s.freeSlot? p = none) : s.evaluateHead p = .passedOver := by
  rw [State.evaluateHead, none]
  cases (s.dispatchQueue p).head? <;> rfl

/-- A head with a slot goes by its units (R79, R80, Table 4-1). -/
theorem State.evaluateHead_of_slot (queue : s.dispatchQueue p = e :: rest) (slot : s.freeSlot? p = some i)
    (queued : (s.ctx e).state = .queued) (owed : (s.ctx e).pendingDecode = some d) :
    s.evaluateHead p =
      if (s.ctx e).K ≤ 4096 then
        s.units.firstIdle?.elim .passedOver fun u => .dispatched e d i (.one u)
      else if s.units.bothIdle then .dispatched e d i .pair else .pairWait := by
  simp only [State.evaluateHead, queue, List.head?_cons, slot, queued, owed, Config.singleUnitK]
  cases s.units.firstIdle? <;> rfl

theorem State.evaluateHead_of_small (queue : s.dispatchQueue p = e :: rest) (slot : s.freeSlot? p = some i)
    (queued : (s.ctx e).state = .queued) (owed : (s.ctx e).pendingDecode = some d) (small : (s.ctx e).K ≤ 4096) :
    (s.units.job .du0 = none → s.evaluateHead p = .dispatched e d i (.one .du0)) ∧
    (s.units.job .du0 ≠ none → s.units.job .du1 = none → s.evaluateHead p = .dispatched e d i (.one .du1)) ∧
    (s.units.job .du0 ≠ none → s.units.job .du1 ≠ none → s.evaluateHead p = .passedOver) := by
  obtain ⟨lower, upper, neither⟩ := s.units.firstIdle?_eq
  rw [State.evaluateHead_of_slot queue slot queued owed, if_pos small]
  exact ⟨fun a => by rw [lower a, Option.elim], fun a b => by rw [upper a b, Option.elim],
    fun a b => by rw [neither a b, Option.elim]⟩

theorem State.evaluateHead_of_large (queue : s.dispatchQueue p = e :: rest) (slot : s.freeSlot? p = some i)
    (queued : (s.ctx e).state = .queued) (owed : (s.ctx e).pendingDecode = some d) (large : 4096 < (s.ctx e).K) :
    (s.units.job .du0 = none → s.units.job .du1 = none → s.evaluateHead p = .dispatched e d i .pair) ∧
    (s.units.job .du0 ≠ none ∨ s.units.job .du1 ≠ none → s.evaluateHead p = .pairWait) := by
  rw [State.evaluateHead_of_slot queue slot queued owed, if_neg (Nat.not_le.2 large)]
  refine ⟨fun a b => if_pos (s.units.bothIdle_iff.2 ⟨a, b⟩), fun busy => if_neg fun idle => ?_⟩
  obtain ⟨a, b⟩ := s.units.bothIdle_iff.1 idle
  exact busy.elim (fun h => h a) fun h => h b

/-- Only with both units IDLE is a head dispatched on the pair (Table 4-1). -/
theorem State.bothIdle_of_pair (h : s.evaluateHead p = .dispatched e d i .pair) : s.units.bothIdle = true := by
  unfold State.evaluateHead at h
  split at h
  · split at h
    · split at h
      · split at h <;> cases h
      · split at h
        · assumption
        · cases h
    · cases h
  · cases h

end

theorem exec_dispatch_of_none {s : State} (none : s.opportunity = false) : exec .dispatch s = .next s := by
  simp only [exec, execDispatch, none, if_false, Bool.false_eq_true]

theorem exec_dispatch_of_normal {s : State} (due : s.opportunity = true) (normal : s.dispatcher.mode = .normal) :
    exec .dispatch s = .next ((s.scanOn scansAtMost).setOpportunity false) := by
  simp only [exec, execDispatch, due, if_true, State.handleOpportunity, normal]

theorem exec_dispatch_of_pairWait {s : State} {p : PortId} (due : s.opportunity = true)
    (waits : s.dispatcher.mode = .pairWait p) : exec .dispatch s = .next ((s.tryHeld p).setOpportunity false) := by
  simp only [exec, execDispatch, due, if_true, State.handleOpportunity, waits]

theorem State.tryHeld_of_busy {s : State} {p : PortId} (busy : s.units.bothIdle ≠ true) : s.tryHeld p = s := by
  unfold State.tryHeld
  split
  · next h => exact absurd (State.bothIdle_of_pair h) busy
  · rfl
  · rfl
  · rfl

theorem State.tryHeld_of_pair {s : State} {p : PortId} {e : Entry} {d : PendingDecode} {slot : SlotId}
    (h : s.evaluateHead p = .dispatched e d slot .pair) :
    s.tryHeld p = (s.dispatched p e d slot .pair).scanOn scansAtMost := by
  simp only [State.tryHeld, h, State.dispatchHead_eq]

theorem State.dispatchRemove_of_head {s : State} {p : PortId} {e : Entry} {rest : List Entry}
    (queue : s.dispatchQueue p = e :: rest) :
    s.dispatchRemove p e = (s.setDispatcher { s.dispatcher with
      mode := if s.dispatcher.mode = .pairWait p then .normal else s.dispatcher.mode
      queues := s.dispatcher.queues.set p.val rest p.isLt }).setOpportunity true := by
  simp only [State.dispatchRemove, queue, List.head?_cons, if_true, List.erase_cons_head]
  rfl

theorem State.dispatchRemove_of_notHead {s : State} {p : PortId} {e : Entry} (behind : (s.dispatchQueue p).head? ≠ some e) :
    s.dispatchRemove p e = s.setDispatcher { s.dispatcher with
      queues := s.dispatcher.queues.set p.val ((s.dispatchQueue p).erase e) p.isLt } := by
  simp only [State.dispatchRemove, if_neg behind]
  rfl

/-- Settles O45. -/
theorem dispatchFollowsTheTable : Obligations.DispatchFollowsTheTable := by
  refine ⟨fun us j => ⟨fun apart u v => Units.assign_one apart j u v, rfl, fun u => by cases u <;> rfl⟩,
    ⟨rfl, rfl, rfl, rfl, fun u => rfl⟩, fun s p => ⟨State.evaluateHead_of_empty, ?_, exec_dispatch_of_none,
      ⟨_, s.scanOn_scansAtMost⟩, ?_, ?_, fun e => ⟨rfl, fun rest => State.dispatchRemove_of_head,
        State.dispatchRemove_of_notHead⟩⟩⟩
  · rintro e rest c d queue rfl queued owed
    refine ⟨fun none => State.evaluateHead_of_noSlot (State.freeSlot?_of_none none), fun i free first => ?_⟩
    have slot := State.freeSlot?_of_first free first
    exact ⟨State.evaluateHead_of_small queue slot queued owed, State.evaluateHead_of_large queue slot queued owed⟩
  · intro t due normal scans
    rw [exec_dispatch_of_normal due normal, scans.unique s.scanOn_scansAtMost]
  · intro due waits
    rw [exec_dispatch_of_pairWait due waits]
    refine ⟨fun busy _ => ?_, fun e d slot t head scans => ?_⟩
    · rw [State.tryHeld_of_busy fun idle => ?_]
      obtain ⟨a, b⟩ := s.units.bothIdle_iff.1 idle
      exact busy.elim (fun h => h a) fun h => h b
    · rw [State.tryHeld_of_pair head, scans.unique (State.scanOn_scansAtMost _)]

end Sys2Proof.Machine
end

section
/-! SUPPORT. The positions and the pages of a half-iteration (spec/01 R28, spec/05 R94, R97, R98, R111). -/

namespace Sys2Proof.Machine

/-! ### The permutation of pass 2 (spec/01 R28) -/

theorem permute_lt {K : Nat} (pos : 0 < K) (a b t : Nat) : permute K a b t < K := Nat.mod_lt _ pos

theorem permute_inj {K a : Nat} (coprime : Nat.gcd a K = 1) (b : Nat) {t u : Nat} (ht : t < K) (hu : u < K)
    (same : permute K a b t = permute K a b u) : t = u := by
  have sum : a * t + b ≡ a * u + b [MOD K] := same
  have product : a * t ≡ a * u [MOD K] := Nat.ModEq.add_right_cancel' b sum
  have steps : t ≡ u [MOD K] := Nat.ModEq.cancel_left_of_coprime (by rwa [Nat.gcd_comm]) product
  exact Nat.ModEq.eq_of_lt_of_lt steps ht hu

theorem permute_surj {K a : Nat} (pos : 0 < K) (coprime : Nat.gcd a K = 1) (b : Nat) {x : Nat} (hx : x < K) :
    ∃ t, t < K ∧ permute K a b t = x := by
  have injective : Function.Injective fun t : Fin K => (⟨permute K a b t, permute_lt pos a b t⟩ : Fin K) :=
    fun t u same => Fin.ext (permute_inj coprime b t.isLt u.isLt (Fin.mk.inj_iff.1 same))
  obtain ⟨t, ht⟩ := Finite.surjective_of_injective injective ⟨x, hx⟩
  exact ⟨t.val, t.isLt, Fin.mk.inj_iff.1 ht⟩

/-- The systematic positions of a pass are those below K. -/
theorem Job.exists_position_iff {j : Job} (pos : 0 < j.K) (coprime : Nat.gcd j.permA j.K = 1) (second : Bool) (x : Nat) :
    (∃ t, t < j.K ∧ j.position second t = x) ↔ x < j.K := by
  cases second with
  | false => exact ⟨fun ⟨t, ht, h⟩ => h ▸ ht, fun h => ⟨x, h, rfl⟩⟩
  | true => exact ⟨fun ⟨t, _, h⟩ => h ▸ permute_lt pos .., fun h => permute_surj pos coprime _ h⟩

/-! ### The pages read -/

theorem Job.second_iff (j : Job) : j.second = decide (j.h % 2 ≠ 0) := by
  rw [Job.second, Bool.eq_iff_iff]
  simp

/-- The pages of a part of a half-iteration, once it is known which places in the page list the part uses. -/
theorem Job.readList_eq {j : Job} {p : Part} {uses : Nat → Bool}
    (h : ∀ i, uses i = true ↔ ∃ x ∈ j.positions p, x / 512 = i) :
    j.readList p = ((List.range j.pages.length).filter uses).filterMap (j.pages[·]?) := by
  rw [Job.readList]
  refine congrArg (List.filterMap _) (List.filter_congr fun i _ => ?_)
  rw [Bool.eq_iff_iff, h, List.contains_iff_mem, List.mem_map]
  rfl

theorem Job.mem_positions (j : Job) (p : Part) (x : Nat) :
    x ∈ j.positions p ↔ (∃ t ∈ p.steps j.K, j.position j.second t = x) ∨
      (∃ t ∈ p.steps j.K, j.parityBase j.second + t = x) ∨
      (p.hasTail = true ∧ ∃ r, r < 8 ∧ j.tailBase j.second + r = x) := by
  rw [Job.positions, List.mem_append, List.mem_append, List.mem_map, List.mem_map, or_assoc]
  cases p.hasTail <;> simp

/-- Whether a record position is used by a pass (R94, R97). -/
def Job.uses (j : Job) (pos : Nat) : Bool :=
  if j.h % 2 = 0 then decide (pos < 2 * j.K) || (decide (3 * j.K ≤ pos) && decide (pos < 3 * j.K + 8))
  else decide (pos < j.K) || (decide (2 * j.K ≤ pos) && decide (pos < 3 * j.K)) ||
    (decide (3 * j.K + 8 ≤ pos) && decide (pos < 3 * j.K + 16))

theorem Job.mem_positions_whole {j : Job} (pos : 0 < j.K) (coprime : Nat.gcd j.permA j.K = 1) (x : Nat) :
    x ∈ j.positions .whole ↔ j.uses x = true := by
  have parity : (∃ t, t < j.K ∧ j.parityBase j.second + t = x) ↔
      j.parityBase j.second ≤ x ∧ x < j.parityBase j.second + j.K :=
    ⟨fun ⟨t, ht, h⟩ => by omega, fun h => ⟨x - j.parityBase j.second, by omega, by omega⟩⟩
  have tail : (∃ r, r < 8 ∧ j.tailBase j.second + r = x) ↔
      j.tailBase j.second ≤ x ∧ x < j.tailBase j.second + 8 :=
    ⟨fun ⟨t, ht, h⟩ => by omega, fun h => ⟨x - j.tailBase j.second, by omega, by omega⟩⟩
  simp only [Job.mem_positions, Part.steps, List.mem_range, Job.exists_position_iff pos coprime, parity, Part.hasTail,
    true_and, tail, Job.uses]
  rw [Job.second_iff]
  by_cases even : j.h % 2 = 0
  · simp [even, Job.parityBase, Job.tailBase]
    omega
  · simp [even, Job.parityBase, Job.tailBase]
    omega

theorem Job.uses_lt {j : Job} {x : Nat} (h : j.uses x = true) : x < 3 * j.K + 16 := by
  unfold Job.uses at h
  split at h <;> simp at h <;> omega

theorem Job.readList_whole {j : Job} (pos : 0 < j.K) (coprime : Nat.gcd j.permA j.K = 1) :
    j.readList .whole =
      ((List.range j.pages.length).filter fun i =>
        (List.range (3 * j.K + 16)).any fun x => j.uses x && x / 512 == i).filterMap (j.pages[·]?) := by
  refine Job.readList_eq fun i => ?_
  simp only [List.any_eq_true, List.mem_range, Bool.and_eq_true, beq_iff_eq, Job.mem_positions_whole pos coprime]
  exact ⟨fun ⟨x, _, used, page⟩ => ⟨x, used, page⟩, fun ⟨x, used, page⟩ => ⟨x, Job.uses_lt used, used, page⟩⟩

/-- Whether an information step takes a value of a page (R98). -/
def Job.holds (j : Job) (i t : Nat) : Bool :=
  if j.h % 2 = 0 then t / 512 == i || (j.K + t) / 512 == i
  else (j.permA * t + j.permB) % j.K / 512 == i || (2 * j.K + t) / 512 == i

theorem Job.holds_iff (j : Job) (i t : Nat) :
    j.holds i t = true ↔ j.position j.second t / 512 = i ∨ (j.parityBase j.second + t) / 512 = i := by
  rw [Job.holds, Job.second_iff]
  by_cases even : j.h % 2 = 0
  · simp [even, Job.position, Job.parityBase]
  · simp [even, Job.position, Job.parityBase, permute]

theorem Job.readList_first (j : Job) :
    j.readList .first =
      ((List.range j.pages.length).filter fun i => (List.range (j.K / 2)).any (j.holds i)).filterMap (j.pages[·]?) := by
  refine Job.readList_eq fun i => ?_
  simp only [List.any_eq_true, List.mem_range, Job.holds_iff, Job.mem_positions, Part.steps, Part.hasTail,
    Bool.false_eq_true, false_and, or_false]
  constructor
  · rintro ⟨t, ht, h | h⟩
    · exact ⟨_, .inl ⟨t, ht, rfl⟩, h⟩
    · exact ⟨_, .inr ⟨t, ht, rfl⟩, h⟩
  · rintro ⟨x, ⟨t, ht, rfl⟩ | ⟨t, ht, rfl⟩, h⟩
    · exact ⟨t, ht, .inl h⟩
    · exact ⟨t, ht, .inr h⟩

theorem mem_steps_second (K t : Nat) : t ∈ Part.second.steps K ↔ t < K ∧ K / 2 ≤ t := by
  simp only [Part.steps, List.mem_map, List.mem_range]
  exact ⟨fun ⟨n, hn, h⟩ => by omega, fun ⟨h, g⟩ => ⟨t - K / 2, by omega, by omega⟩⟩

theorem Job.readList_second (j : Job) :
    j.readList .second =
      ((List.range j.pages.length).filter fun i =>
        ((List.range j.K).any fun t => decide (j.K / 2 ≤ t) && j.holds i t) ||
          (List.range 8).any fun r => ((if j.h % 2 = 0 then 3 * j.K else 3 * j.K + 8) + r) / 512 == i).filterMap
        (j.pages[·]?) := by
  have tail : j.tailBase j.second = if j.h % 2 = 0 then 3 * j.K else 3 * j.K + 8 := by
    rw [Job.tailBase, Job.second_iff]
    by_cases even : j.h % 2 = 0 <;> simp [even]
  refine Job.readList_eq fun i => ?_
  simp only [Bool.or_eq_true, List.any_eq_true, List.mem_range, Bool.and_eq_true, decide_eq_true_eq, beq_iff_eq,
    Job.holds_iff, Job.mem_positions, mem_steps_second, Part.hasTail, true_and, ← tail]
  constructor
  · rintro (⟨t, ht, late, h | h⟩ | ⟨r, hr, h⟩)
    · exact ⟨_, .inl ⟨t, ⟨ht, late⟩, rfl⟩, h⟩
    · exact ⟨_, .inr (.inl ⟨t, ⟨ht, late⟩, rfl⟩), h⟩
    · exact ⟨_, .inr (.inr ⟨r, hr, rfl⟩), h⟩
  · rintro ⟨x, ⟨t, ⟨ht, late⟩, rfl⟩ | ⟨t, ⟨ht, late⟩, rfl⟩ | ⟨r, hr, rfl⟩, h⟩
    · exact .inl ⟨t, ht, late, .inl h⟩
    · exact .inl ⟨t, ht, late, .inr h⟩
    · exact .inr ⟨r, hr, h⟩

theorem exec_decodePageReadEnd {s : State} {u : UnitId} {j : Job} {pg : Page} {rest : List Page}
    (unit : s.units.job u = some j) (reading : (j.readsOf (s.units.part u)).openReads = pg :: rest) (passed : Bool) :
    exec (.decodePageReadEnd u passed) s =
      .next (s.setUnits (s.units.setJob u (j.readEnded (s.units.part u) passed pg rest))) := by
  simp only [exec, execDecodePageReadEnd, unit, reading]

theorem Job.setReads_damaged (j : Job) (p : Part) (r : Reads) : { j.setReads p r with damaged := j.damaged } = j.setReads p r := by
  cases p <;> rfl

/-- Settles O46. -/
theorem decodeReadsThePagesItUses : Obligations.DecodeReadsThePagesItUses := by
  refine ⟨fun us => by cases us <;> exact ⟨rfl, rfl⟩, fun j r => ⟨rfl, rfl, rfl, rfl, rfl, rfl⟩, ?_, ?_, ?_⟩
  · rintro j used pos coprime rfl
    exact ⟨Job.readList_whole pos coprime, rfl, rfl⟩
  · rintro j holds pos coprime rfl
    exact ⟨j.readList_first, j.readList_second⟩
  · rintro s u j r part pg rest unit rfl rfl reading
    refine ⟨exec_decodePageReadEnd unit reading false, fun found => ?_, fun sound => ?_⟩
    · rw [exec_decodePageReadEnd unit reading true, Job.readEnded]
      simp only [if_true, Job.setReads_damaged, Reads.afterEnd, Bool.true_and, List.isEmpty_iff, if_neg found]
    · rw [exec_decodePageReadEnd unit reading true, Job.readEnded]
      simp only [if_true, Job.setReads_damaged, Reads.afterEnd, Bool.true_and, List.isEmpty_iff, if_pos sound]

end Sys2Proof.Machine
end

section
/-! SUPPORT. The arithmetic of a pass: the branches of a step, the metrics of a boundary, the runs of a pass and where its results stand (spec/05 R94 to R99). -/

namespace Sys2Proof.Machine

/-! ### Branches and metrics -/

theorem mem_infoBranches (b : Branch) : b ∈ infoBranches ↔ ∃ σ u, σ < 16 ∧ b = branchOf σ u := by
  simp only [infoBranches, List.mem_flatMap, List.mem_range, List.mem_cons, List.not_mem_nil, or_false]
  constructor
  · rintro ⟨σ, h, rfl | rfl⟩
    · exact ⟨σ, false, h, rfl⟩
    · exact ⟨σ, true, h, rfl⟩
  · rintro ⟨σ, u, h, rfl⟩
    cases u
    · exact ⟨σ, h, .inl rfl⟩
    · exact ⟨σ, h, .inr rfl⟩

theorem mem_tailBranches (b : Branch) : b ∈ tailBranches ↔ ∃ σ, σ < 16 ∧ b = branchOf σ (tailInput σ) := by
  simp only [tailBranches, List.mem_map, List.mem_range, eq_comm]

/-- Every state is reached by a branch. -/
theorem exists_branch_to {τ : Nat} (h : τ < 16) : ∃ σ u, σ < 16 ∧ (branchOf σ u).target = τ := by
  have every : ∀ τ : Fin 16, ∃ (σ : Fin 16) (u : Bool), (branchOf σ.val u).target = τ.val := by decide
  obtain ⟨σ, u, target⟩ := every ⟨τ, h⟩
  exact ⟨σ.val, u, σ.isLt, target⟩

/-- The largest of some numbers, one for each member of a list that passes a test. -/
theorem largest_filter_map {α : Type} {l : List α} {keep : α → Bool} {f : α → Int} {P : Int → Prop}
    (values : ∀ y, P y ↔ ∃ b ∈ l, keep b = true ∧ y = f b) (some : ∃ y, P y) :
    IsLargest P (largest ((l.filter keep).map f)) := by
  have members : ∀ y, y ∈ (l.filter keep).map f ↔ P y := fun y => by
    rw [values, List.mem_map]
    simp only [List.mem_filter, and_assoc, eq_comm]
  obtain ⟨y, hy⟩ := some
  exact (largest_isLargest _ (List.ne_nil_of_mem ((members y).2 hy))).congr members

theorem forwardStep_metrics (m : List Int) (v : StepValues) :
    BoundaryMetrics (fun τ y => ∃ σ u, σ < 16 ∧ (branchOf σ u).target = τ ∧
      y = m.getD σ 0 + branchMetric v (branchOf σ u)) (forwardStep m v) := by
  refine normalise_boundaryMetrics _ _ fun τ hτ => largest_filter_map (fun y => ?_) ?_
  · simp only [mem_infoBranches, beq_iff_eq]
    constructor
    · rintro ⟨σ, u, hσ, target, rfl⟩
      exact ⟨_, ⟨σ, u, hσ, rfl⟩, target, rfl⟩
    · rintro ⟨_, ⟨σ, u, hσ, rfl⟩, target, rfl⟩
      exact ⟨σ, u, hσ, target, rfl⟩
  · obtain ⟨σ, u, hσ, target⟩ := exists_branch_to hτ
    exact ⟨_, σ, u, hσ, target, rfl⟩

theorem backwardStep_metrics (m : List Int) (v : StepValues) :
    BoundaryMetrics (fun σ y => ∃ u, y = m.getD (branchOf σ u).target 0 + branchMetric v (branchOf σ u))
      (backwardStep infoBranches v m) := by
  refine normalise_boundaryMetrics _ _ fun σ hσ => largest_filter_map (fun y => ?_) ⟨_, false, rfl⟩
  simp only [mem_infoBranches, beq_iff_eq]
  constructor
  · rintro ⟨u, rfl⟩
    exact ⟨_, ⟨σ, u, hσ, rfl⟩, rfl, rfl⟩
  · rintro ⟨_, ⟨_, u, _, rfl⟩, rfl, rfl⟩
    exact ⟨u, rfl⟩

theorem backwardStep_tail_metrics (m : List Int) (v : StepValues) :
    BoundaryMetrics (fun σ y => ∃ u, u = tailInput σ ∧
      y = m.getD (branchOf σ u).target 0 + branchMetric v (branchOf σ u)) (backwardStep tailBranches v m) := by
  refine normalise_boundaryMetrics _ _ fun σ hσ => largest_filter_map (fun y => ?_) ⟨_, _, rfl, rfl⟩
  simp only [mem_tailBranches, beq_iff_eq]
  constructor
  · rintro ⟨_, rfl, rfl⟩
    exact ⟨_, ⟨σ, hσ, rfl⟩, rfl, rfl⟩
  · rintro ⟨_, ⟨_, _, rfl⟩, rfl, rfl⟩
    exact ⟨_, rfl, rfl⟩

theorem bestOver_isLargest (u : Bool) (v : StepValues) (fw bw : List Int) :
    IsLargest (fun y => ∃ σ, σ < 16 ∧
      y = fw.getD σ 0 + (if (branchOf σ u).parity then -v.y else v.y) + bw.getD (branchOf σ u).target 0)
      (bestOver u v fw bw) := by
  refine largest_filter_map (fun y => ?_) ⟨_, 0, by decide, rfl⟩
  simp only [mem_infoBranches, beq_iff_eq]
  constructor
  · rintro ⟨σ, hσ, rfl⟩
    exact ⟨_, ⟨σ, u, hσ, rfl⟩, rfl, rfl⟩
  · rintro ⟨_, ⟨σ, _, hσ, rfl⟩, rfl, rfl⟩
    exact ⟨σ, hσ, rfl⟩

/-! ### The runs of a pass -/

theorem singlePass_runs (info tail : List StepValues) : ∃ fw bw ends,
    ForwardRun info edgeMetrics fw ∧ BackwardRun tailBranches tail edgeMetrics ends ∧
      BackwardRun infoBranches info (ends 0) bw ∧ ExtrinsicRun info fw bw (singlePass info tail) := by
  obtain ⟨fw, forward, lf, hf, -⟩ := forwards_run info edgeMetrics
  obtain ⟨ends, tailRun, -, -, start⟩ := backwards_run tailBranches tail edgeMetrics
  obtain ⟨bw, backward, lb, hb, -⟩ := backwards_run infoBranches info (tailMetrics tail)
  refine ⟨fw, bw, ends, forward, tailRun, ?_, extrinsics_run info _ _ fw bw lf lb hf hb⟩
  rw [← start]
  exact backward

theorem pairPass_runs (first second tail : List StepValues) (m : PairMetrics) : ∃ fw0 bw0 fw1 bw1 ends es0 es1,
    ForwardRun first edgeMetrics fw0 ∧ BackwardRun infoBranches first m.backward bw0 ∧
      ForwardRun second m.forward fw1 ∧ BackwardRun tailBranches tail edgeMetrics ends ∧
      BackwardRun infoBranches second (ends 0) bw1 ∧ ExtrinsicRun first fw0 bw0 es0 ∧
      ExtrinsicRun second fw1 bw1 es1 ∧
      pairPass first second tail m = (es0 ++ es1, ⟨fw0 first.length, bw1 0⟩) := by
  obtain ⟨fw0, forward0, lf0, hf0, end0⟩ := forwards_run first edgeMetrics
  obtain ⟨bw0, backward0, lb0, hb0, -⟩ := backwards_run infoBranches first m.backward
  obtain ⟨fw1, forward1, lf1, hf1, -⟩ := forwards_run second m.forward
  obtain ⟨ends, tailRun, -, -, start⟩ := backwards_run tailBranches tail edgeMetrics
  obtain ⟨bw1, backward1, lb1, hb1, start1⟩ := backwards_run infoBranches second (tailMetrics tail)
  refine ⟨fw0, bw0, fw1, bw1, ends, _, _, forward0, backward0, forward1, tailRun, start ▸ backward1,
    extrinsics_run first _ _ fw0 bw0 lf0 lb0 hf0 hb0, extrinsics_run second _ _ fw1 bw1 lf1 lb1 hf1 hb1, ?_⟩
  rw [← end0, ← start1]
  rfl

/-! ### The steps of a pass -/

/-- The information steps of a pass (R94). -/
theorem Job.infoSteps_eq (j : Job) (record : Array Int) (second : Bool) (start n : Nat) :
    j.infoSteps record j.extrinsic.toArray second start n = (List.range n).map fun t =>
      ⟨record.getD (j.position second (start + t)) 0, record.getD (j.parityBase second + (start + t)) 0,
        j.extrinsic.getD (j.position second (start + t)) 0⟩ := by
  refine List.map_congr_left fun t _ => ?_
  rw [Job.infoStep]
  simp

theorem range_take_drop (K n : Nat) (h : n ≤ K) :
    (List.range K).take n = List.range n ∧ (List.range K).drop n = (List.range (K - n)).map (n + ·) := by
  have split : List.range K = List.range n ++ (List.range (K - n)).map (n + ·) := by
    rw [← List.range_add, Nat.add_sub_cancel' h]
  rw [split]
  exact ⟨by rw [List.take_left' List.length_range], by rw [List.drop_left' List.length_range]⟩

/-! ### Where the results of a pass stand -/

/-- Writing at places that are all different leaves each value at its place. -/
theorem scatter_getElem? {α : Type} {places : List (Nat × α)} (apart : (places.map Prod.fst).Nodup) (start : Array α)
    {k : Nat} {v : α} (listed : (k, v) ∈ places) (inside : k < start.size) : (scatter start places)[k]? = some v := by
  induction places generalizing start with
  | nil => cases listed
  | cons x places ih =>
    obtain ⟨absent, apart⟩ := List.nodup_cons.1 apart
    have keeps : ∀ (ps : List (Nat × α)) (m : Array α), (∀ y ∈ ps, y.1 ≠ k) → (scatter m ps)[k]? = m[k]? := by
      intro ps
      induction ps with
      | nil => exact fun _ _ => rfl
      | cons y ps ih =>
        intro m other
        refine (ih (m.setIfInBounds y.1 y.2) fun z hz => other z (List.mem_cons_of_mem _ hz)).trans ?_
        rw [Array.getElem?_setIfInBounds_ne (other y (List.mem_cons_self ..))]
    rcases List.mem_cons.1 listed with rfl | later
    · refine (keeps places (start.setIfInBounds k v) fun y hy same => absent ?_).trans ?_
      · exact List.mem_map.2 ⟨y, hy, same⟩
      · rw [Array.getElem?_setIfInBounds_self_of_lt inside]
    · refine ih apart (start.setIfInBounds x.1 x.2) later ?_
      rw [Array.size_setIfInBounds]
      exact inside

theorem Job.position_inj {j : Job} (coprime : Nat.gcd j.permA j.K = 1) (second : Bool) {t u : Nat} (ht : t < j.K)
    (hu : u < j.K) (same : j.position second t = j.position second u) : t = u := by
  cases second with
  | false => exact same
  | true => exact permute_inj coprime _ ht hu same

theorem Job.position_lt {j : Job} (pos : 0 < j.K) (second : Bool) {t : Nat} (ht : t < j.K) :
    j.position second t < j.K := by
  cases second with
  | false => exact ht
  | true => exact permute_lt pos ..

/-- The values of a pass, each at the position of its step. -/
theorem Job.scatter_steps {α β : Type} {j : Job} (pos : 0 < j.K) (coprime : Nat.gcd j.permA j.K = 1) (second : Bool)
    {es : List β} (size : es.length = j.K) (start : Array α) (room : start.size = j.K) (f : β × Nat → α) {t : Nat} {e : β}
    (at_t : es[t]? = some e) :
    (scatter start (es.zipIdx.map fun x => (j.position second x.2, f x)))[j.position second t]? = some (f (e, t)) := by
  have ht : t < j.K := size ▸ (List.getElem?_eq_some_iff.1 at_t).1
  refine scatter_getElem? ?_ start (List.mem_map.2 ⟨(e, t), List.mk_mem_zipIdx_iff_getElem?.2 at_t, rfl⟩)
    (room ▸ Job.position_lt pos second ht)
  rw [List.map_map]
  have places : (Prod.fst ∘ fun x : β × Nat => (j.position second x.2, f x)) = fun x => j.position second x.2 := rfl
  have steps : es.zipIdx.map (fun x => j.position second x.2) = (List.range j.K).map (j.position second) := by
    have indices : es.zipIdx.map Prod.snd = List.range j.K := by
      rw [List.zipIdx_map_snd, List.range_eq_range', size]
    rw [← indices, List.map_map]
    rfl
  rw [places, steps]
  exact List.Nodup.map_on (fun a ha b hb => Job.position_inj coprime second (List.mem_range.1 ha) (List.mem_range.1 hb))
    List.nodup_range

/-- The extrinsic store after a pass holds the damped values at the positions of their steps (R94, R96). -/
theorem Job.storeExtrinsic_getElem? {j : Job} (pos : 0 < j.K) (coprime : Nat.gcd j.permA j.K = 1) (second : Bool)
    {es : List Int} (size : es.length = j.K) (room : j.extrinsic.length = j.K) {t : Nat} {e : Int}
    (at_t : es[t]? = some e) : (j.storeExtrinsic second es)[j.position second t]? = some (j.damp e) := by
  rw [Job.storeExtrinsic, Array.getElem?_toList]
  exact Job.scatter_steps pos coprime second size j.extrinsic.toArray (by simpa using room) (fun x => j.damp x.1) at_t

/-- The hard decisions after pass 2 (R99). -/
theorem Job.decisions_getElem? {j : Job} (pos : 0 < j.K) (coprime : Nat.gcd j.permA j.K = 1) (record : Array Int)
    {es : List Int} (size : es.length = j.K) {t : Nat} {e : Int} (at_t : es[t]? = some e) :
    (j.decisions record es)[j.position true t]? =
      some (decide (record.getD (j.position true t) 0 + j.extrinsic.getD (j.position true t) 0 + e < 0)) := by
  rw [Job.decisions]
  dsimp only
  rw [Array.getElem?_toList]
  refine (Job.scatter_steps pos coprime true size (Array.replicate j.K false) Array.size_replicate (fun x =>
    decide ((j.infoStep record j.extrinsic.toArray true x.2).x + (j.infoStep record j.extrinsic.toArray true x.2).A + x.1 <
      0)) at_t).trans ?_
  simp [Job.infoStep]

theorem Job.damp_eq (j : Job) (e : Int) :
    j.damp e = (e * ((j.damping.getD (if j.h < 11 then j.h else 11) 0 : Nat) : Int)).tdiv 32 := by
  have last : min j.h 11 = if j.h < 11 then j.h else 11 := by
    rw [Nat.min_def]
    split <;> split <;> omega
  rw [Job.damp, last]

theorem Job.position_eq (j : Job) (second : Bool) (t : Nat) :
    j.position second t = if second then (j.permA * t + j.permB) % j.K else t := rfl

/-- Settles O47. -/
theorem passArithmetic : Obligations.PassArithmetic := by
  refine ⟨?_, fun v b => rfl, ⟨rfl, rfl, ?_⟩, fun m v => ⟨forwardStep_metrics m v, backwardStep_metrics m v,
    backwardStep_tail_metrics m v⟩, ?_, singlePass_runs, pairPass_runs, ?_, ?_⟩
  · rintro s1 s2 s3 s4 u a rfl
    revert s1 s2 s3 s4 u
    decide
  · intro σ above below
    have every : ∀ σ : Fin 16, 0 < σ → edgeMetrics.getD σ.val 0 = -65535 := by decide
    exact every ⟨σ, below⟩ above
  · rintro fw bw v sums rfl
    exact ⟨_, _, bestOver_isLargest false v fw bw, bestOver_isLargest true v fw bw, rfl⟩
  · rintro j record second info tail place base m rfl rfl rfl rfl rfl
    have steps := j.infoSteps_eq record second 0 j.K
    have firstHalf := j.infoSteps_eq record second 0 (j.K / 2)
    have lastHalf := j.infoSteps_eq record second (j.K / 2) (j.K - j.K / 2)
    obtain ⟨taken, dropped⟩ := range_take_drop j.K (j.K / 2) (Nat.div_le_self ..)
    simp only [Nat.zero_add] at steps firstHalf
    refine ⟨?_, ?_⟩
    · rw [Job.runPass]
      simp only [Bool.false_eq_true, if_false, steps]
      rfl
    · rw [Job.runPass, ← List.map_take, ← List.map_drop, taken, dropped, List.map_map]
      simp only [if_true, firstHalf, lastHalf]
      rfl
  · rintro j second es record t pos e K coprime size room at_t rfl
    refine ⟨?_, ?_⟩
    · rw [← Job.position_eq, Job.storeExtrinsic_getElem? K coprime second size room at_t, Job.damp_eq]
    · rintro rfl
      exact Job.decisions_getElem? K coprime record size at_t

end Sys2Proof.Machine
end

section
/-! SUPPORT. The end of pass 1 and what a decode is judged by (spec/01 R2, spec/05 R92, R97, R100 to R105). -/

namespace Sys2Proof.Machine

/-! ### The record that a pass computes on -/

theorem length_flatMap_blocks {α β : Type} {l : List α} {f : α → List β} {n : Nat} (size : ∀ x ∈ l, (f x).length = n) :
    (l.flatMap f).length = n * l.length := by
  induction l with
  | nil => rfl
  | cons x l ih =>
    rw [List.flatMap_cons, List.length_append, size x (List.mem_cons_self ..),
      ih fun y hy => size y (List.mem_cons_of_mem _ hy), List.length_cons, Nat.mul_succ, Nat.add_comm]

theorem getElem?_flatMap_blocks {α β : Type} {l : List α} {f : α → List β} {n : Nat} (some : 0 < n)
    (size : ∀ x, (f x).length = n) {i : Nat} {x : α} (block : l[i / n]? = Option.some x) :
    (l.flatMap f)[i]? = (f x)[i % n]? := by
  induction l generalizing i with
  | nil => cases block
  | cons y l ih =>
    rw [List.flatMap_cons]
    rcases Nat.lt_or_ge i n with first | later
    · rw [Nat.div_eq_of_lt first] at block
      cases block
      rw [List.getElem?_append_left (by rw [size]; exact first), Nat.mod_eq_of_lt first]
    · obtain ⟨k, rfl⟩ := Nat.exists_eq_add_of_le later
      rw [Nat.add_div_left k some, List.getElem?_cons_succ] at block
      rw [List.getElem?_append_right (by rw [size]; exact Nat.le_add_right ..), size, Nat.add_sub_cancel_left, ih block,
        Nat.add_mod_left]

theorem recordValues_length {pages : List Page} {L : Nat} (fits : L ≤ 512 * pages.length) (store : List Host.Cell) :
    (recordValues store pages L).length = L := by
  rw [recordValues, List.length_map, List.length_take,
    length_flatMap_blocks fun _ _ => Memory.readRange_length ..]
  exact Nat.min_eq_left fits

theorem recordValues_getElem? (store : List Host.Cell) {pages : List Page} {L p : Nat} {pg : Page} (inside : p < L)
    (page : pages[p / 512]? = some pg) :
    (recordValues store pages L)[p]? = some (Memory.read store (512 * pg.val + p % 512)).toInt := by
  have stored : (pages.flatMap fun pg => Memory.readRange store (pageBase pg) Config.pageValues)[p]? =
      some (Memory.read store (512 * pg.val + p % 512)) := by
    refine (getElem?_flatMap_blocks (n := 512) (by decide) (fun _ => Memory.readRange_length ..) page).trans ?_
    exact Memory.readRange_getElem? _ _ _ _ (Nat.mod_lt _ (by decide))
  rw [recordValues, List.getElem?_map, List.getElem?_take_of_lt inside, stored]
  rfl

theorem Job.halfDone_iff (j : Job) :
    (j.halfDone false = true ↔
      j.damaged = [] ∧ j.reads.openReads = [] ∧ j.reads.ended = (j.readList .whole).length) ∧
    (j.halfDone true = true ↔
      j.damaged = [] ∧ j.reads.openReads = [] ∧ j.reads.ended = (j.readList .first).length ∧
        j.readsPartner.openReads = [] ∧ j.readsPartner.ended = (j.readList .second).length) := by
  simp only [Job.halfDone, Job.readsDone, Job.readsOf, if_true, Bool.false_eq_true, if_false, Bool.and_eq_true,
    List.isEmpty_iff, beq_iff_eq, and_assoc, and_self]

theorem Units.setJob_isPaired (us : Units) (u : UnitId) (j : Job) : (us.setJob u j).isPaired = us.isPaired := by
  cases us <;> cases u <;> rfl

theorem Units.setJob_job (us : Units) (u v : UnitId) (j : Job) :
    (us.setJob u j).job v = if us.isPaired = true ∨ v = u then some j else us.job v := by
  cases us <;> cases u <;> cases v <;> rfl

/-- Settles O48. -/
theorem halfIterationGoesOn : Obligations.HalfIterationGoesOn := by
  refine ⟨fun store pages L => ⟨fun fits => recordValues_length fits store, fun p pg => recordValues_getElem? store⟩,
    Job.halfDone_iff, fun us u j => ⟨us.setJob_isPaired u j, fun v => us.setJob_job u v j⟩, ?_⟩
  rintro s u j pass unit decoding done first run rfl
  exact (exec_halfIterationEnd_of_due unit done first decoding).2 run

/-! ### The verdict -/

theorem stopEvaluation_steps (mode : StopMode) (present passes agrees atLimit : Bool) :
    ((present = true ∧ passes = true ∧ (mode = .check ∨ mode = .either)) →
      stopEvaluation mode present passes agrees atLimit = some .pass) ∧
    (¬ (present = true ∧ passes = true ∧ (mode = .check ∨ mode = .either)) → agrees = true →
      (mode = .agree ∨ mode = .either) →
      stopEvaluation mode present passes agrees atLimit =
        some (if present = false ∨ passes = true then .pass else .fail)) ∧
    (¬ (present = true ∧ passes = true ∧ (mode = .check ∨ mode = .either)) →
      ¬ (agrees = true ∧ (mode = .agree ∨ mode = .either)) →
      (atLimit = true →
        stopEvaluation mode present passes agrees atLimit =
          some (if (if present then passes else agrees) then .pass else .fail)) ∧
      (atLimit = false → stopEvaluation mode present passes agrees atLimit = none)) := by
  have checks : (present && passes && (mode == .check || mode == .either)) = true ↔
      present = true ∧ passes = true ∧ (mode = .check ∨ mode = .either) := by
    simp only [Bool.and_eq_true, Bool.or_eq_true, beq_iff_eq, and_assoc]
  have settles : (agrees && (mode == .agree || mode == .either)) = true ↔
      agrees = true ∧ (mode = .agree ∨ mode = .either) := by
    simp only [Bool.and_eq_true, Bool.or_eq_true, beq_iff_eq]
  refine ⟨fun check => if_pos (checks.2 check), fun noCheck agree how => ?_, fun noCheck noAgree =>
    ⟨fun limit => ?_, fun noLimit => ?_⟩⟩
  · rw [stopEvaluation, if_neg (mt checks.1 noCheck), if_pos (settles.2 ⟨agree, how⟩)]
    cases present <;> cases passes <;> rfl
  · rw [stopEvaluation, if_neg (mt checks.1 noCheck), if_neg (mt settles.1 noAgree), if_pos limit]
    cases present <;> rfl
  · rw [stopEvaluation, if_neg (mt checks.1 noCheck), if_neg (mt settles.1 noAgree),
      if_neg (by rw [noLimit]; exact Bool.false_ne_true)]

theorem checksumStep_eq {stages : List Bool} (size : stages.length = 24) (bit : Bool) :
    checksumStep stages bit =
      (List.range 24).map fun i => xor (if i = 0 then false else stages.getD (i - 1) false)
        ((xor bit (stages.getD 23 false)) && [0, 3, 8, 11, 17, 22].contains i) := by
  refine List.ext_getElem (by simp [checksumStep, size]) fun i here there => ?_
  rw [List.length_map, List.length_range] at there
  simp only [checksumStep, List.getElem_map, List.getElem_zipIdx, List.getElem_range, List.getElem_take, Nat.zero_add]
  cases i with
  | zero => rfl
  | succ i =>
    have inside : i < stages.length := by omega
    rw [List.getElem_cons_succ, if_neg (Nat.succ_ne_zero i), Nat.add_sub_cancel, List.getD_eq_getElem _ _ inside]

theorem checksumPasses_iff {info tail : List Bool} (size : tail.length = 24) :
    checksumPasses (info ++ tail) = true ↔ tail = (info.foldl checksumStep (List.replicate 24 false)).reverse := by
  have cut : (info ++ tail).length - 24 = info.length := by
    rw [List.length_append, size, Nat.add_sub_cancel]
  rw [checksumPasses, cut, List.take_left, List.drop_left, beq_iff_eq, checksumOf]
  exact eq_comm

theorem mismatchCount_cons (v : Int) (bit : Bool) (vs : List Int) (bits : List Bool) :
    mismatchCount (v :: vs) (bit :: bits) =
      mismatchCount vs bits + if (0 < v ∧ bit = true) ∨ (v < 0 ∧ bit = false) then 1 else 0 := by
  simp only [mismatchCount, List.zip_cons_cons, List.filter_cons, Bool.or_eq_true, Bool.and_eq_true, decide_eq_true_eq,
    Bool.not_eq_true']
  split <;> rfl

theorem zeroCount_cons (v : Int) (vs : List Int) : zeroCount (v :: vs) = zeroCount vs + if v = 0 then 1 else 0 := by
  simp only [zeroCount, List.filter_cons, beq_iff_eq]
  split <;> rfl

/-! ### The payload (R105) -/

theorem byteOfBits_getLsbD (b7 b6 b5 b4 b3 b2 b1 b0 : Bool) (k : Nat) (hk : k < 8) :
    (byteOfBits b7 b6 b5 b4 b3 b2 b1 b0).getLsbD k = [b0, b1, b2, b3, b4, b5, b6, b7].getD k false := by
  revert b7 b6 b5 b4 b3 b2 b1 b0
  interval_cases k <;> decide

theorem exists_eight_of_length {bits : List Bool} (long : 8 ≤ bits.length) :
    ∃ b0 b1 b2 b3 b4 b5 b6 b7 rest, bits = b0 :: b1 :: b2 :: b3 :: b4 :: b5 :: b6 :: b7 :: rest := by
  match bits, long with
  | [], long | [_], long | [_, _], long | [_, _, _], long | [_, _, _, _], long | [_, _, _, _, _], long
  | [_, _, _, _, _, _], long | [_, _, _, _, _, _, _], long => simp at long
  | _ :: _ :: _ :: _ :: _ :: _ :: _ :: _ :: _, _ => exact ⟨_, _, _, _, _, _, _, _, _, rfl⟩

/-- Eight bits to a byte, the first in bit 0 (R105). -/
theorem packBits_bit {bits : List Bool} (whole : bits.length % 8 = 0) :
    (packBits bits).length = bits.length / 8 ∧
      ∀ j bit, bits[j]? = some bit → ((packBits bits).getD (j / 8) 0).getLsbD (j % 8) = bit := by
  induction bits using packBits.induct with
  | case1 b0 b1 b2 b3 b4 b5 b6 b7 rest ih =>
    have size : (b0 :: b1 :: b2 :: b3 :: b4 :: b5 :: b6 :: b7 :: rest).length = 8 + rest.length := by
      simp only [List.length_cons]
      omega
    obtain ⟨len, bits⟩ := ih (by omega)
    rw [packBits]
    refine ⟨by rw [List.length_cons, len, size]; omega, fun j bit at_j => ?_⟩
    rcases Nat.lt_or_ge j 8 with first | later
    · rw [Nat.div_eq_of_lt first, Nat.mod_eq_of_lt first, List.getD_cons_zero, byteOfBits_getLsbD _ _ _ _ _ _ _ _ j first]
      have front : [b0, b1, b2, b3, b4, b5, b6, b7][j]? = some bit := by
        rw [← List.getElem?_append_left (l₂ := rest) (by simpa using first)]
        exact at_j
      rw [List.getD_eq_getElem?_getD, front, Option.getD_some]
    · obtain ⟨k, rfl⟩ := Nat.exists_eq_add_of_le' later
      rw [Nat.add_div_right k (by decide), Nat.add_mod_right, List.getD_cons_succ]
      exact bits k bit at_j
  | case2 bits short =>
    have few : bits.length < 8 := by
      by_contra long
      obtain ⟨b0, b1, b2, b3, b4, b5, b6, b7, rest, rfl⟩ := exists_eight_of_length (Nat.not_lt.1 long)
      exact short b0 b1 b2 b3 b4 b5 b6 b7 rest rfl
    have none : bits = [] := List.length_eq_zero_iff.1 (by omega)
    subst none
    exact ⟨rfl, fun j bit h => by cases h⟩

theorem payloadOf_eq {bits : List Bool} (whole : bits.length % 8 = 0) (fits : bits.length ≤ 8192) :
    (payloadOf bits).length = 1024 ∧
    (∀ j bit, bits[j]? = some bit → ((payloadOf bits).getD (j / 8) 0).getLsbD (j % 8) = bit) ∧
    ∀ i, bits.length / 8 ≤ i → (payloadOf bits).getD i 0 = 0 := by
  obtain ⟨size, packed⟩ := packBits_bit whole
  have pad : payloadOf bits = packBits bits ++ List.replicate (1024 - bits.length / 8) 0 := by
    rw [payloadOf, padTo, size]
    rfl
  rw [pad]
  refine ⟨?_, fun j bit at_j => ?_, fun i late => ?_⟩
  · rw [List.length_append, size, List.length_replicate]
    omega
  · have inside := (List.getElem?_eq_some_iff.1 at_j).1
    rw [List.getD_append _ _ _ _ (by rw [size]; omega), packed j bit at_j]
  · rw [List.getD_append_right _ _ _ _ (by rw [size]; exact late), List.getD_eq_getElem?_getD, List.getElem?_replicate]
    split <;> rfl

/-- Settles O51. -/
theorem decodeVerdict : Obligations.DecodeVerdict := by
  refine ⟨stopEvaluation_steps, fun stages bit feed size fed => ?_, fun info tail => checksumPasses_iff,
    fun v bit vs bits => ⟨mismatchCount_cons v bit vs bits, zeroCount_cons v vs⟩, ⟨rfl, rfl⟩,
    fun bits => payloadOf_eq⟩
  rw [fed, checksumStep_eq size]

end Sys2Proof.Machine
end

section
/-! SUPPORT. The visits of an attempt (spec/03 R62). -/

namespace Sys2Proof.Machine

/-- How many values the next visit takes. -/
def visitLength (L position left : Nat) : Nat := min (min (512 - position % 512) (L - position)) left

theorem visitsFrom_succ (L fuel j position left : Nat) :
    visitsFrom L (fuel + 1) j position left =
      if visitLength L position left = 0 then [] else
        ⟨j, visitLength L position left, position⟩ ::
          visitsFrom L fuel (j + visitLength L position left) ((position + visitLength L position left) % L)
            (left - visitLength L position left) := rfl

/-- What a visit takes: to the end of its page, or of the record, or of the attempt. -/
theorem visitLength_cases {L position left : Nat} (inside : position < L) (more : 0 < left) :
    0 < visitLength L position left ∧ visitLength L position left ≤ left ∧
      position + visitLength L position left ≤ L ∧ position % 512 + visitLength L position left ≤ 512 ∧
      (visitLength L position left = left ∨ position + visitLength L position left = L ∨
        position % 512 + visitLength L position left = 512) := by
  have page : position % 512 < 512 := Nat.mod_lt _ (by decide)
  unfold visitLength
  omega

/-- Where the visit after one that is not the last begins. -/
theorem next_position {L position left : Nat} (inside : position < L)
    (notLast : visitLength L position left ≠ left) (more : 0 < left) :
    ((position + visitLength L position left) % L = 0 ∧ position + visitLength L position left = L) ∨
    ((position + visitLength L position left) % L = position + visitLength L position left ∧
      position + visitLength L position left < L ∧
      (position + visitLength L position left) / 512 = position / 512 + 1) := by
  obtain ⟨some, -, record, page, stop⟩ := visitLength_cases inside more
  rcases Nat.lt_or_ge (position + visitLength L position left) L with before | at_end
  · have full := (stop.resolve_left notLast).resolve_left (Nat.ne_of_lt before)
    exact .inr ⟨Nat.mod_eq_of_lt before, before, by omega⟩
  · have whole : position + visitLength L position left = L := Nat.le_antisymm record at_end
    exact .inl ⟨by rw [whole, Nat.mod_self], whole⟩

/-- The first visit, and the visits after it. -/
theorem visitsFrom_induction {L : Nat} {P : Nat → Nat → Nat → List Visit → Prop} (none : ∀ j position, P j position 0 [])
    (visit : ∀ j position left vs, position < L → 0 < left →
      P (j + visitLength L position left) ((position + visitLength L position left) % L)
        (left - visitLength L position left) vs →
      P j position left (⟨j, visitLength L position left, position⟩ :: vs)) :
    ∀ fuel j position left, position < L → left ≤ fuel → P j position left (visitsFrom L fuel j position left) := by
  intro fuel
  induction fuel with
  | zero =>
    intro j position left _ few
    obtain rfl := Nat.le_zero.1 few
    exact none j position
  | succ fuel ih =>
    intro j position left inside few
    rw [visitsFrom_succ]
    rcases Nat.eq_zero_or_pos left with rfl | more
    · rw [if_pos (by unfold visitLength; omega)]
      exact none j position
    · obtain ⟨some, within, -⟩ := visitLength_cases inside more
      rw [if_neg (Nat.ne_of_gt some)]
      exact visit j position left _ inside more
        (ih _ _ _ (Nat.mod_lt _ (Nat.lt_of_le_of_lt (Nat.zero_le _) inside)) (by omega))

/-- Every visit lies in the record, in one page, and among the values that are left. -/
theorem visitsFrom_bounds (L : Nat) : ∀ fuel j position left, position < L → left ≤ fuel →
    ∀ v ∈ visitsFrom L fuel j position left,
      0 < v.length ∧ v.position + v.length ≤ L ∧ v.position % 512 + v.length ≤ 512 ∧ j ≤ v.first ∧
        v.first + v.length ≤ j + left := by
  refine visitsFrom_induction (P := fun j position left vs => ∀ v ∈ vs, 0 < v.length ∧ v.position + v.length ≤ L ∧
    v.position % 512 + v.length ≤ 512 ∧ j ≤ v.first ∧ v.first + v.length ≤ j + left) ?_ ?_
  · exact fun _ _ v hv => nomatch hv
  · intro j position left vs inside more rest v hv
    obtain ⟨some, within, record, page, -⟩ := visitLength_cases inside more
    rcases List.mem_cons.1 hv with rfl | hv
    · exact ⟨some, record, page, Nat.le_refl j, Nat.add_le_add_left within j⟩
    · obtain ⟨a, b, c, later, last⟩ := rest v hv
      exact ⟨a, b, c, by omega, by omega⟩

/-- Every value is in a visit. -/
theorem visitsFrom_covers (L : Nat) : ∀ fuel j position left, position < L → left ≤ fuel →
    ∀ i, j ≤ i → i < j + left → ∃ v ∈ visitsFrom L fuel j position left, v.first ≤ i ∧ i < v.first + v.length := by
  refine visitsFrom_induction (P := fun j position left vs => ∀ i, j ≤ i → i < j + left →
    ∃ v ∈ vs, v.first ≤ i ∧ i < v.first + v.length) ?_ ?_
  · intro j position i low high
    omega
  · intro j position left vs inside more rest i low high
    obtain ⟨-, within, -⟩ := visitLength_cases inside more
    rcases Nat.lt_or_ge i (j + visitLength L position left) with first | later
    · exact ⟨_, List.mem_cons_self .., low, first⟩
    · obtain ⟨v, hv, inside⟩ := rest i later (by omega)
      exact ⟨v, List.mem_cons_of_mem _ hv, inside⟩

/-- The visits follow one another. -/
theorem visitsFrom_ordered (L : Nat) : ∀ fuel j position left, position < L → left ≤ fuel →
    (visitsFrom L fuel j position left).Pairwise (fun a b => a.first + a.length ≤ b.first) ∧
      ∀ v ∈ visitsFrom L fuel j position left, j ≤ v.first := by
  refine visitsFrom_induction (P := fun j position left vs => vs.Pairwise (fun a b => a.first + a.length ≤ b.first) ∧
    ∀ v ∈ vs, j ≤ v.first) ?_ ?_
  · exact fun _ _ => ⟨List.Pairwise.nil, fun v hv => nomatch hv⟩
  · rintro j position left vs inside more ⟨ordered, later⟩
    refine ⟨List.Pairwise.cons later ordered, fun v hv => ?_⟩
    rcases List.mem_cons.1 hv with rfl | hv
    · exact Nat.le_refl j
    · exact Nat.le_trans (Nat.le_add_right ..) (later v hv)

/-- Each value goes to its position of the record, wrapping at its end. -/
theorem visitsFrom_positions (L : Nat) : ∀ fuel j position left, position < L → left ≤ fuel →
    ∀ v ∈ visitsFrom L fuel j position left, j ≤ v.first ∧ ∀ i, v.first ≤ i → i < v.first + v.length →
      (position + (i - j)) % L = v.position + (i - v.first) := by
  refine visitsFrom_induction (P := fun j position left vs => ∀ v ∈ vs, j ≤ v.first ∧ ∀ i, v.first ≤ i →
    i < v.first + v.length → (position + (i - j)) % L = v.position + (i - v.first)) ?_ ?_
  · exact fun _ _ v hv => nomatch hv
  · intro j position left vs inside more rest v hv
    obtain ⟨-, -, record, -⟩ := visitLength_cases inside more
    rcases List.mem_cons.1 hv with rfl | hv
    · exact ⟨Nat.le_refl j, fun i low high => Nat.mod_eq_of_lt (by simp only at low high; omega)⟩
    · obtain ⟨later, placed⟩ := rest v hv
      refine ⟨by omega, fun i low high => ?_⟩
      rw [← placed i low high, Nat.mod_add_mod]
      congr 1
      omega

/-- Between a visit and the next a page boundary or the end of the record is passed. -/
theorem visitsFrom_boundaries (L : Nat) : ∀ fuel j position left, position < L → left ≤ fuel →
    (∀ i a b, (visitsFrom L fuel j position left)[i]? = some a → (visitsFrom L fuel j position left)[i + 1]? = some b →
      b.first = a.first + a.length ∧ (b.position = 0 ∨ b.position / 512 ≠ a.position / 512)) ∧
    ∀ v, (visitsFrom L fuel j position left)[0]? = some v → v.first = j ∧ v.position = position ∧ 0 < left := by
  refine visitsFrom_induction (P := fun j position left vs => (∀ i a b, vs[i]? = some a → vs[i + 1]? = some b →
      b.first = a.first + a.length ∧ (b.position = 0 ∨ b.position / 512 ≠ a.position / 512)) ∧
    ∀ v, vs[0]? = some v → v.first = j ∧ v.position = position ∧ 0 < left) ?_ ?_
  · exact fun _ _ => ⟨fun i a b h => by simp at h, fun v h => by simp at h⟩
  · rintro j position left vs inside more ⟨boundaries, head⟩
    refine ⟨fun i a b here next => ?_, fun v here => ?_⟩
    · cases i with
      | zero =>
        cases here
        obtain ⟨first, place, further⟩ := head b next
        refine ⟨first, ?_⟩
        rw [place]
        rcases next_position inside (by omega) more with ⟨wrap, -⟩ | ⟨goesOn, -, page⟩
        · exact .inl wrap
        · exact .inr (by rw [goesOn, page]; exact Nat.succ_ne_self _)
      | succ i => exact boundaries i a b here next
    · cases here
      exact ⟨rfl, rfl, more⟩

/-- How many visits the values that are left can take: the pages up to their end, and from page 0 again where they wrap. -/
theorem visitsFrom_length (L : Nat) : ∀ fuel j position left, position < L → left ≤ fuel →
    (left = 0 → (visitsFrom L fuel j position left).length = 0) ∧ (left ≤ L → (position + left ≤ L →
        (visitsFrom L fuel j position left).length ≤ (position + left + 511) / 512 - position / 512) ∧
      (L < position + left → (visitsFrom L fuel j position left).length ≤
        (L + 511) / 512 - position / 512 + (position + left - L + 511) / 512)) := by
  refine visitsFrom_induction (P := fun j position left vs => (left = 0 → vs.length = 0) ∧ (left ≤ L → (position + left ≤ L →
      vs.length ≤ (position + left + 511) / 512 - position / 512) ∧ (L < position + left →
        vs.length ≤ (L + 511) / 512 - position / 512 + (position + left - L + 511) / 512))) ?_ ?_
  · exact fun _ _ => ⟨fun _ => rfl, fun _ => ⟨fun _ => Nat.zero_le _, fun _ => Nat.zero_le _⟩⟩
  · rintro j position left vs inside more ⟨empty, rest⟩
    refine ⟨fun none => absurd none (Nat.ne_of_gt more), fun short => ?_⟩
    obtain ⟨some, within, record, page, stop⟩ := visitLength_cases inside more
    rw [List.length_cons]
    by_cases last : visitLength L position left = left
    · rw [empty (by omega)]
      exact ⟨fun fits => by omega, fun past => by omega⟩
    · obtain ⟨straight, wraps⟩ := rest (by omega)
      rcases next_position inside last more with ⟨wrap, whole⟩ | ⟨goesOn, before, next⟩
      · rw [wrap] at straight wraps
        have len := straight (by omega)
        refine ⟨fun fits => by omega, fun past => ?_⟩
        omega
      · rw [goesOn] at straight wraps
        refine ⟨fun fits => ?_, fun past => ?_⟩
        · have len := straight (by omega)
          omega
        · have len := wraps (by omega)
          omega

/-- Settles O41. -/
theorem visitsPlaceEveryValue : Obligations.VisitsPlaceEveryValue := by
  rintro L start count vs inside short rfl
  have bounds := visitsFrom_bounds L count 0 start count inside (Nat.le_refl _)
  have covers : ∀ i, 0 ≤ i → i < 0 + count → ∃ v ∈ visits L start count, v.first ≤ i ∧ i < v.first + v.length :=
    visitsFrom_covers L count 0 start count inside (Nat.le_refl _)
  have ordered : (visits L start count).Pairwise (fun a b => a.first + a.length ≤ b.first) :=
    (visitsFrom_ordered L count 0 start count inside (Nat.le_refl _)).1
  have positions := visitsFrom_positions L count 0 start count inside (Nat.le_refl _)
  have boundaries := (visitsFrom_boundaries L count 0 start count inside (Nat.le_refl _)).1
  obtain ⟨straight, wraps⟩ := (visitsFrom_length L count 0 start count inside (Nat.le_refl _)).2 short
  refine ⟨fun v hv => ?_, fun j hj => ?_, fun v hv j low high => ?_, boundaries, ?_⟩
  · obtain ⟨a, b, c, -, d⟩ := bounds v hv
    exact ⟨a, b, c, by omega⟩
  · obtain ⟨v, hv, low, high⟩ := covers j (Nat.zero_le j) (by omega)
    refine ⟨v, ⟨hv, low, high⟩, fun w ⟨hw, lowW, highW⟩ => ?_⟩
    by_contra other
    obtain ⟨i, hi, rfl⟩ := List.getElem_of_mem hw
    obtain ⟨k, hk, rfl⟩ := List.getElem_of_mem hv
    have follows := List.pairwise_iff_getElem.1 ordered
    rcases Nat.lt_trichotomy i k with before | rfl | after
    · have := follows i k hi hk before
      omega
    · exact other rfl
    · have := follows k i hk hi after
      omega
  · exact (positions v hv).2 j low high
  · rcases Nat.lt_or_ge L (start + count) with past | fits
    · have len := wraps past
      rw [visits]
      omega
    · have len := straight fits
      rw [visits]
      omega

end Sys2Proof.Machine
end

section
/-! SUPPORT. A device in which nothing is in progress keeps every law, and so does the device after power-on (spec/02 R33, spec/10 R201). -/

namespace Sys2Proof.Machine

/-- Nothing is in progress: every entry FREE, every port OFF, the shared blocks IDLE and every list of contexts empty. -/
structure State.AllOff (s : State) : Prop where
  contexts : ∀ e, s.ctx e = Context.free
  ports : ∀ p, s.port p = Port.offWith (s.port p).profile (s.port p).bus
  engine : s.engine.combine = none
  units : s.units = .apart none none
  queues : ∀ p, s.dispatchQueue p = []
  mode : s.dispatcher.mode = .normal
  expiry : s.expiry.list = []

section
variable {s : State}

theorem State.AllOff.portState (h : s.AllOff) (p : PortId) : (s.port p).state = .off := by
  rw [h.ports p]
  rfl

theorem State.AllOff.key (h : s.AllOff) : KeyLaw s :=
  fun e d used => absurd (by rw [h.contexts e]; rfl) used

theorem State.AllOff.free (h : s.AllOff) : FreeLaw s := fun e _ => h.contexts e

theorem State.AllOff.noJob (h : s.AllOff) (u : UnitId) : s.units.job u = none := by
  rw [h.units]
  cases u <;> rfl

theorem State.AllOff.fields (h : s.AllOff) : FieldLaw s where
  pending e some := by rw [h.contexts e] at some; cases some
  release e some := by rw [h.contexts e] at some; cases some
  notice e := by rw [h.contexts e]; exact ⟨fun h => (nomatch h), fun h => nomatch h⟩
  deadline e _ _ := by rw [h.contexts e]; rfl
  stopping u j unit := by rw [h.noJob u] at unit; cases unit

theorem State.AllOff.expiryLaw (h : s.AllOff) : ExpiryLaw s where
  once := by rw [h.expiry]; exact List.nodup_nil
  members e := by
    rw [h.expiry, h.contexts e]
    exact ⟨fun h => (nomatch h), fun h => h.elim (fun h => nomatch h) fun h => nomatch h⟩

theorem State.AllOff.dispatch (h : s.AllOff) : DispatchLaw s where
  once p := by rw [h.queues p]; exact List.nodup_nil
  members p e := by
    rw [h.queues p, h.contexts e]
    exact ⟨fun h => (nomatch h), fun h => nomatch h.1⟩
  owed e queued := by rw [h.contexts e] at queued; cases queued
  held p waits := by rw [h.mode] at waits; cases waits

theorem State.AllOff.noClosing (h : s.AllOff) (p : PortId) : (s.port p).closing = [] := by
  rw [h.ports p]
  rfl

theorem State.AllOff.closing (h : s.AllOff) : ClosingLaw s where
  once p := by rw [h.noClosing p]; exact List.nodup_nil
  members p e := by
    rw [h.noClosing p, h.contexts e]
    exact ⟨fun h => (nomatch h), fun h => nomatch h.1⟩

theorem State.AllOff.engineLaw (h : s.AllOff) : EngineLaw s := by
  rw [EngineLaw, h.engine]
  exact fun e here => by rw [h.contexts e] at here; cases here

theorem State.AllOff.unitLaw (h : s.AllOff) : UnitLaw s where
  decoding e := by
    rw [h.contexts e]
    refine ⟨fun h => (nomatch h), fun ⟨u, assigned⟩ => ?_⟩
    rw [Units.assigned, h.noJob u] at assigned
    cases assigned
  port u j unit := by rw [h.noJob u] at unit; cases unit
  single a b both := by rw [h.units] at both; cases both
  paired u j unit := by rw [h.noJob u] at unit; cases unit
  field e := by rw [h.contexts e, h.units]; rfl

theorem State.AllOff.portLaw (h : s.AllOff) : PortLaw s where
  off p _ := h.ports p
  offContexts p e _ _ := by rw [h.contexts e]; rfl
  resetting p is := by rw [h.portState p] at is; cases is
  resettingContexts p e is := by rw [h.portState p] at is; cases is
  resettingEngine c busy := by rw [h.engine] at busy; cases busy
  resettingUnits u j unit := by rw [h.noJob u] at unit; cases unit

theorem sum_map_eq_zero {α : Type} {l : List α} {f : α → Nat} (none : ∀ a ∈ l, f a = 0) : (l.map f).sum = 0 :=
  List.sum_eq_zero fun n hn => by
    obtain ⟨a, ha, rfl⟩ := List.mem_map.1 hn
    exact none a ha

theorem State.AllOff.owed (h : s.AllOff) (p : PortId) : s.owed p = 0 := by
  have contexts : ((allEntries.filter fun e => (s.ctx e).port == p).map fun e => (s.ctx e).owes).sum = 0 :=
    sum_map_eq_zero fun e _ => by rw [h.contexts e]; rfl
  rw [State.owed, contexts, Engine.owes, h.engine, h.units, h.ports p]
  rfl

theorem State.AllOff.answers (h : s.AllOff) : AnswerLaw s where
  reserved p _ := by
    rw [h.owed p, h.ports p]
    rfl
  fits p := by
    rw [h.ports p]
    exact Nat.zero_le _
  head p reserved := by rw [h.ports p] at reserved; cases reserved
  waiting p some := absurd (h.noClosing p) some

theorem State.AllOff.budget (h : s.AllOff) (unused : ∀ p, s.pool.usageOf p = 0) : BudgetLaw s where
  contexts p := by
    have none : s.contextCount p = 0 := by
      rw [State.contextCount, List.filter_eq_nil_iff.2 fun e _ => ?_, List.length_nil]
      rw [h.contexts e]
      exact Bool.false_ne_true
    rw [none]
    exact Nat.zero_le _
  attempts e used := absurd (by rw [h.contexts e]; rfl) used
  slot p r taken := by
    rw [h.ports p] at taken
    exact taken.elim (fun h => nomatch h) fun h => nomatch h
  cap p := by rw [unused p]; exact Nat.zero_le _
  reserve := by
    rw [List.filter_eq_nil_iff.2 fun p _ => by rw [h.portState p]; exact Bool.false_ne_true]
    exact Nat.zero_le _

/-- The page laws of a device whose contexts hold no page. -/
theorem State.AllOff.poolLaw (h : s.AllOff) (unused : ∀ p, s.pool.usageOf p = 0)
    (onePlace : ∀ pg, s.pool.freeList.count pg + s.pool.spareList.count pg + s.pool.retiredList.count pg = 1)
    (retired : s.pool.spareList.length + s.pool.retiredList.length = 64 + s.pool.shortfall) : PoolLaw s where
  onePlace pg := by
    have none : (allEntries.map fun e => (s.ctx e).pages.count pg).sum = 0 :=
      sum_map_eq_zero fun e _ => by rw [h.contexts e]; rfl
    rw [State.pageCopies, none, onePlace pg]
  listLength e := by rw [h.contexts e]; rfl
  usage p := by
    rw [unused p, State.heldPages]
    exact (sum_map_eq_zero fun e _ => by rw [h.contexts e]; rfl).symm
  retired := retired

theorem State.AllOff.laws (h : s.AllOff) (pool : PoolLaw s) (unused : ∀ p, s.pool.usageOf p = 0) (store : StoreLaw s) :
    Laws s :=
  ⟨pool, store, h.key, h.free, h.fields, h.expiryLaw, h.dispatch, h.closing, h.engineLaw, h.unitLaw, h.portLaw,
    h.answers, h.budget unused⟩

end

/-! ### After power-on -/

theorem State.reset_allOff : State.reset.AllOff where
  contexts := State.ctx_of_free (by rw [State.reset])
  ports p := by
    rw [State.reset_port]
    rfl
  engine := by rw [State.reset]
  units := by rw [State.reset]
  queues p := Vector.get_replicate_four [] p
  mode := by rw [State.reset, Dispatcher.powerOn]
  expiry := by rw [State.reset]

theorem Pool.powerOn_usageOf (p : PortId) : Pool.powerOn.usageOf p = 0 := Vector.get_replicate_four 0 p

theorem count_allPages (pg : Page) : allPages.count pg = 1 :=
  List.count_eq_one_of_mem (List.nodup_finRange 2112) (List.mem_finRange pg)

theorem Pool.powerOn_count (pg : Page) :
    Pool.powerOn.freeList.count pg + Pool.powerOn.spareList.count pg + Pool.powerOn.retiredList.count pg = 1 := by
  rw [← count_allPages pg, ← (List.filter_append_perm (fun q : Page => decide (q.val < Config.servicePages))
    allPages).count_eq pg, List.count_append, Pool.powerOn, List.count_nil, Nat.add_zero]

theorem Pool.powerOn_retired :
    Pool.powerOn.spareList.length + Pool.powerOn.retiredList.length = 64 + Pool.powerOn.shortfall := by
  have size := congrArg List.length Pool.powerOn_spareList
  rw [List.length_map, List.length_map, List.length_range] at size
  have retired : Pool.powerOn.retiredList = [] := by rw [Pool.powerOn]
  have shortfall : Pool.powerOn.shortfall = 0 := by rw [Pool.powerOn]
  rw [size, retired, shortfall, List.length_nil]

theorem State.reset_pool : State.reset.pool = Pool.powerOn := by rw [State.reset]

theorem State.reset_poolLaw : PoolLaw State.reset :=
  State.reset_allOff.poolLaw (by rw [State.reset_pool]; exact Pool.powerOn_usageOf)
    (by rw [State.reset_pool]; exact Pool.powerOn_count) (by rw [State.reset_pool]; exact Pool.powerOn_retired)

theorem State.reset_laws : Laws State.reset :=
  State.reset_allOff.laws State.reset_poolLaw (by rw [State.reset_pool]; exact Pool.powerOn_usageOf) State.reset_store_wf

theorem State.reset_geometryLaw : GeometryLaw State.reset := by
  have none : State.reset.geometry = [] := by rw [State.reset]
  refine ⟨?_, ?_, ?_⟩ <;> rw [none]
  · exact List.Pairwise.nil
  · exact Nat.zero_le _
  · exact fun g hg => nomatch hg

/-- Settles O15. -/
theorem resetKeepsEveryLaw : Obligations.ResetKeepsEveryLaw :=
  ⟨State.reset_laws, State.reset_geometryLaw, DecodeLaw.reset⟩

end Sys2Proof.Machine
end

section
/-! SUPPORT. How one context at a time changes: what a change of one entry does to the lists, the pool, the engine and the units, and the laws that every such change keeps (spec/01 R3, R4, R8, section 1.2, spec/02 R32, R35, R46, spec/04 R75, R76, R81, spec/06 R119). -/

namespace Sys2Proof.Machine

/-! ### Lists that name contexts -/

/-- A list loses an entry, gains it, or stands as it is; the first flag tells whether the entry belongs in the old list, the second whether it belongs in the new one. -/
inductive ListMove (l l' : List Entry) (e : Entry) : Bool → Bool → Prop
  | out : l' = l → ListMove l l' e false false
  | stays : l' = l → ListMove l l' e true true
  | leaves : l' = l.erase e → ListMove l l' e true false
  | joins : l'.Perm (e :: l) → ListMove l l' e false true

theorem ListMove.same {l l' : List Entry} {e : Entry} {a b : Bool} (same : l' = l) (flags : b = a) :
    ListMove l l' e a b := by
  subst flags
  cases b with
  | false => exact .out same
  | true => exact .stays same

theorem ListMove.nodup {l l' : List Entry} {e : Entry} {a b : Bool} (h : ListMove l l' e a b) (once : l.Nodup)
    (here : e ∈ l ↔ a = true) : l'.Nodup := by
  cases h with
  | out same => exact same ▸ once
  | stays same => exact same ▸ once
  | leaves gone => exact gone ▸ once.erase e
  | joins perm =>
    exact perm.nodup_iff.2 (List.nodup_cons.2 ⟨fun listed => Bool.false_ne_true (here.1 listed), once⟩)

theorem ListMove.mem {l l' : List Entry} {e : Entry} {a b : Bool} (h : ListMove l l' e a b) (once : l.Nodup)
    (here : e ∈ l ↔ a = true) (d : Entry) : d ∈ l' ↔ if e = d then b = true else d ∈ l := by
  cases h with
  | out same =>
    subst same
    split
    · next is => exact is ▸ here
    · exact Iff.rfl
  | stays same =>
    subst same
    split
    · next is => exact is ▸ here
    · exact Iff.rfl
  | leaves gone =>
    subst gone
    rw [once.mem_erase_iff]
    split
    · next is => simp [is]
    · next other => exact ⟨fun h => h.2, fun h => ⟨fun is => other is.symm, h⟩⟩
  | joins perm =>
    rw [perm.mem_iff, List.mem_cons]
    split
    · next is => simp [is]
    · next other => exact ⟨fun h => h.resolve_left fun is => other is.symm, .inr⟩

/-- Whether a context in a state stands in the expiry list (R119). -/
def CtxState.expires : CtxState → Bool
  | .held | .solved => true
  | .free | .combining | .queued | .decoding | .closing => false

theorem CtxState.expires_iff (x : CtxState) : x.expires = true ↔ x = .held ∨ x = .solved := by
  cases x <;> simp [CtxState.expires]

/-- Whether a context stands in a port's dispatch queue (R75). -/
def Context.queuedFor (c : Context) (p : PortId) : Bool := c.state == .queued && c.port == p

theorem Context.queuedFor_iff (c : Context) (p : PortId) : c.queuedFor p = true ↔ c.state = .queued ∧ c.port = p := by
  rw [Context.queuedFor, Bool.and_eq_true, beq_iff_eq, beq_iff_eq]

/-! ### The page pool -/

/-- What a change of one context does to the pool (R3, R35 to R40, R46 to R48). -/
inductive PoolMove (pl pl' : Pool) (x c : Context) : Prop
  | keeps : pl' = pl → c.pages = x.pages → c.port = x.port → c.pageCount = x.pageCount →
    c.state.holdsPages = x.state.holdsPages → PoolMove pl pl' x c
  | none : pl' = pl → x.state.holdsPages = false → c.state.holdsPages = false → c.pages = [] → PoolMove pl pl' x c
  | back (report : List Page) : x.state.holdsPages = true → c.state.holdsPages = false → c.pages = [] →
    pl' = (Pool.retireAll report x.pages pl).2.giveBack x.port (Pool.retireAll report x.pages pl).1 x.pageCount →
    PoolMove pl pl' x c
  | takes : x.state = .free → c.state.holdsPages = true → c.pageCount ≤ pl.freeList.length →
    c.pages = pl.freeList.take c.pageCount → pl' = pl.take c.port c.pageCount → PoolMove pl pl' x c

/-! ### The engine and the units -/

/-- What the laws read of a combine record. -/
def Combine.owner (k : Combine) : PortId × Entry × Action := (k.port, k.entry, k.action)

/-- What a change of one context does to the engine (spec/03 R53, spec/01 R11 to R13). -/
inductive EngineMove (a b : Option Combine) (e : Entry) (x c : Context) : Prop
  | still : b = a → x.state ≠ .combining → c.state ≠ .combining → EngineMove a b e x c
  | keeps : b = a → x.state = .combining → c.state = .combining → c.port = x.port →
    c.pendingDecode = x.pendingDecode → EngineMove a b e x c
  | begins (k : Combine) : a = none → b = some k → c.state = .combining → k.owner = (c.port, e, k.action) →
    (k.action = .decode → c.pendingDecode.isSome) → EngineMove a b e x c
  | ends (k : Combine) : a = some k → k.entry = e → c.state ≠ .combining → b = none → EngineMove a b e x c

/-- What the laws read of a unit record. -/
def Job.owner (j : Job) : Entry × PortId := (j.entry, j.port)

/-- The units decode for the same contexts. -/
structure UnitsKeep (us us' : Units) : Prop where
  paired : us'.isPaired = us.isPaired
  owners : ∀ u, (us'.job u).map Job.owner = (us.job u).map Job.owner

/-- What a change of one context does to the units (spec/04 R81, spec/01 R18). -/
inductive UnitMove (us us' : Units) (e : Entry) (x c : Context) : Prop
  | still : us' = us → x.state ≠ .decoding → c.state ≠ .decoding → c.units = x.units ∨ c.units = UnitSet.none →
    UnitMove us us' e x c
  | keeps : UnitsKeep us us' → x.state = .decoding → c.state = .decoding → c.port = x.port → c.K = x.K →
    c.units = x.units → UnitMove us us' e x c
  | begins (a : Assignment) (j : Job) : us' = us.assign a j → x.state ≠ .decoding → c.state = .decoding →
    c.units = a.unitSet → j.owner = (e, c.port) → us.isPaired = false →
    (∀ u, a = .one u → us.job u = none ∧ c.K ≤ 4096) →
    (a = .pair → us.job .du0 = none ∧ us.job .du1 = none ∧ 4096 < c.K) → UnitMove us us' e x c
  | ends (u : UnitId) (j : Job) : us.job u = some j → j.entry = e → us' = us.clear u → c.state ≠ .decoding →
    c.units = UnitSet.none → UnitMove us us' e x c

/-! ### A change of one entry -/

/-- One entry of the Context Table changes to a context, with all that names it. -/
structure EntryMove (s t : State) (e : Entry) (c : Context) : Prop where
  ctx : ∀ d, t.ctx d = if e = d then c else s.ctx d
  key : c = Context.free ∨ c.state ≠ .free ∧
    ((s.ctx e).state ≠ .free ∧ c.port = (s.ctx e).port ∧ c.tag = (s.ctx e).tag ∨
      (s.ctx e).state = .free ∧ ∀ d, ¬ s.hasKey d c.port c.tag)
  pool : PoolMove s.pool t.pool (s.ctx e) c
  expiry : ListMove s.expiry.list t.expiry.list e (s.ctx e).state.expires c.state.expires
  queues : DispatchLaw s → ∀ p,
    ListMove (s.dispatchQueue p) (t.dispatchQueue p) e ((s.ctx e).queuedFor p) (c.queuedFor p)
  owed : c.state = .queued → c.pendingDecode.isSome
  mode : ∀ p, t.dispatcher.mode = .pairWait p →
    s.dispatcher.mode = .pairWait p ∧ (s.dispatchQueue p ≠ [] → t.dispatchQueue p ≠ [])
  engine : EngineMove s.engine.combine t.engine.combine e (s.ctx e) c
  units : UnitMove s.units t.units e (s.ctx e) c

section
variable {s t : State} {e : Entry} {c : Context}

theorem EntryMove.here (h : EntryMove s t e c) : t.ctx e = c := by rw [h.ctx, if_pos rfl]

theorem EntryMove.other (h : EntryMove s t e c) {d : Entry} (other : e ≠ d) : t.ctx d = s.ctx d := by
  rw [h.ctx, if_neg other]

/-! ### Keys (R4, R8) -/

theorem EntryMove.keyLaw (h : EntryMove s t e c) (law : KeyLaw s) : KeyLaw t := by
  have apart : ∀ b, e ≠ b → c.state ≠ .free → (s.ctx b).state ≠ .free → c.port = (s.ctx b).port →
      c.tag = (s.ctx b).tag → False := by
    intro b other used usedB port tag
    rcases h.key with rfl | ⟨-, ⟨was, samePort, sameTag⟩ | ⟨-, new⟩⟩
    · exact used rfl
    · exact other (law e b was usedB (samePort ▸ port) (sameTag ▸ tag))
    · exact new b ⟨usedB, port.symm, tag.symm⟩
  intro a b usedA usedB port tag
  rcases eq_or_ne e a with rfl | otherA
  · by_contra otherB
    rw [h.here] at usedA port tag
    rw [h.other otherB] at usedB port tag
    exact apart b otherB usedA usedB port tag
  · rcases eq_or_ne e b with rfl | otherB
    · rw [h.here] at usedB port tag
      rw [h.other otherA] at usedA port tag
      exact (apart a otherA usedB usedA port.symm tag.symm).elim
    · rw [h.other otherA] at usedA port tag
      rw [h.other otherB] at usedB port tag
      exact law a b usedA usedB port tag

theorem EntryMove.freeLaw (h : EntryMove s t e c) (law : FreeLaw s) : FreeLaw t := by
  intro d free
  rcases eq_or_ne e d with rfl | other
  · rw [h.here] at free ⊢
    exact h.key.resolve_right fun used => used.1 free
  · rw [h.other other] at free ⊢
    exact law d free

/-! ### Lists (R75, R76, R119) -/

theorem EntryMove.expiryLaw (h : EntryMove s t e c) (law : ExpiryLaw s) : ExpiryLaw t where
  once := h.expiry.nodup law.once (by rw [law.members, CtxState.expires_iff])
  members d := by
    rw [h.expiry.mem law.once (by rw [law.members, CtxState.expires_iff]) d, h.ctx]
    split
    · rw [CtxState.expires_iff]
    · exact law.members d

theorem EntryMove.dispatchLaw (h : EntryMove s t e c) (law : DispatchLaw s) : DispatchLaw t where
  once p := (h.queues law p).nodup (law.once p) (by rw [law.members, Context.queuedFor_iff])
  members p d := by
    rw [(h.queues law p).mem (law.once p) (by rw [law.members, Context.queuedFor_iff]) d, h.ctx]
    split
    · rw [Context.queuedFor_iff]
    · exact law.members p d
  owed d queued := by
    rcases eq_or_ne e d with rfl | other
    · rw [h.here] at queued ⊢
      exact h.owed queued
    · rw [h.other other] at queued ⊢
      exact law.owed d queued
  held p waits := by
    obtain ⟨waited, kept⟩ := h.mode p waits
    exact kept (law.held p waited)

/-! ### The engine (spec/03 R53) -/

theorem EngineLaw.of_none (idle : s.engine.combine = none) (none : ∀ e, (s.ctx e).state ≠ .combining) :
    EngineLaw s := by
  rw [EngineLaw, idle]
  exact none

theorem EngineLaw.of_some {k : Combine} (busy : s.engine.combine = some k) (port : (s.ctx k.entry).port = k.port)
    (one : ∀ e, (s.ctx e).state = .combining ↔ e = k.entry)
    (owed : k.action = .decode → (s.ctx k.entry).pendingDecode.isSome) : EngineLaw s := by
  rw [EngineLaw, busy]
  exact ⟨port, one, owed⟩

theorem EngineLaw.idle (law : EngineLaw s) (idle : s.engine.combine = none) (e : Entry) :
    (s.ctx e).state ≠ .combining := by
  rw [EngineLaw, idle] at law
  exact law e

theorem EngineLaw.busy (law : EngineLaw s) {k : Combine} (busy : s.engine.combine = some k) :
    (s.ctx k.entry).port = k.port ∧ (∀ e, (s.ctx e).state = .combining ↔ e = k.entry) ∧
      (k.action = .decode → (s.ctx k.entry).pendingDecode.isSome) := by
  rw [EngineLaw, busy] at law
  exact law

theorem EntryMove.engineLaw (h : EntryMove s t e c) (law : EngineLaw s) : EngineLaw t := by
  have at_ : ∀ d, (t.ctx d).state = if e = d then c.state else (s.ctx d).state := fun d => by
    rw [h.ctx]
    split <;> rfl
  rcases h.engine with ⟨same, was, is⟩ | ⟨same, was, is, port, pending⟩ | ⟨k, idle, busy, is, owner, owed⟩ |
    ⟨k, busy, rfl, is, idle⟩
  · cases engine : s.engine.combine with
    | none =>
      refine .of_none (same.trans engine) fun d => ?_
      rw [at_]
      split
      · exact is
      · exact law.idle engine d
    | some k =>
      obtain ⟨port, one, owed⟩ := law.busy engine
      have other : e ≠ k.entry := fun here => was ((one e).2 here)
      refine .of_some (same.trans engine) (by rw [h.other other]; exact port) (fun d => ?_)
        (by rw [h.other other]; exact owed)
      rw [at_]
      split
      · next here => exact ⟨fun h => absurd h is, fun h => absurd (here.trans h) other⟩
      · exact one d
  · cases engine : s.engine.combine with
    | none => exact absurd was (law.idle engine e)
    | some k =>
      obtain ⟨portK, one, owed⟩ := law.busy engine
      have here : e = k.entry := (one e).1 was
      subst here
      refine .of_some (same.trans engine) (by rw [h.here, port]; exact portK) (fun d => ?_)
        (by rw [h.here, pending]; exact owed)
      rw [at_]
      split
      · next same => exact ⟨fun _ => same.symm, fun _ => is⟩
      · exact one d
  · obtain ⟨port, entry, -⟩ : k.port = c.port ∧ k.entry = e ∧ k.action = k.action := by
      simpa [Combine.owner] using owner
    subst entry
    refine .of_some busy (by rw [h.here, port]) (fun d => ?_) (by rw [h.here]; exact owed)
    rw [at_]
    split
    · next same => exact ⟨fun _ => same.symm, fun _ => is⟩
    · next other => exact ⟨fun h => absurd h (law.idle idle d), fun h => absurd h.symm other⟩
  · obtain ⟨-, one, -⟩ := law.busy busy
    refine .of_none idle fun d => ?_
    rw [at_]
    split
    · exact is
    · next other => exact fun h => other ((one d).1 h).symm

end

end Sys2Proof.Machine
end

section
/-! SUPPORT. The assignment of units through a change of one entry (spec/04 R81, spec/01 R18). -/

namespace Sys2Proof.Machine

theorem Units.assigned_eq_some (us : Units) (u : UnitId) (e : Entry) :
    us.assigned u = some e ↔ ∃ j, us.job u = some j ∧ j.entry = e := by
  rw [Units.assigned, Option.map_eq_some_iff]

theorem Units.unitsOf_eq_none {us : Units} {e : Entry} (none : ∀ u, us.assigned u ≠ some e) :
    us.unitsOf e = UnitSet.none := by
  rw [Units.unitsOf, beq_eq_false_iff_ne.2 (none .du0), beq_eq_false_iff_ne.2 (none .du1)]
  rfl

theorem Units.unitsOf_congr {us us' : Units} {e d : Entry}
    (same : ∀ u, us'.assigned u = some e ↔ us.assigned u = some d) : us'.unitsOf e = us.unitsOf d := by
  have flag (u : UnitId) : (us'.assigned u == some e) = (us.assigned u == some d) := by
    rw [Bool.eq_iff_iff, beq_iff_eq, beq_iff_eq, same u]
  rw [Units.unitsOf, Units.unitsOf, flag, flag]

theorem UnitsKeep.refl (us : Units) : UnitsKeep us us := ⟨rfl, fun _ => rfl⟩

theorem UnitsKeep.job {us us' : Units} (h : UnitsKeep us us') {u : UnitId} {j : Job} (unit : us'.job u = some j) :
    ∃ k, us.job u = some k ∧ k.entry = j.entry ∧ k.port = j.port := by
  have owner := h.owners u
  rw [unit, Option.map_some] at owner
  obtain ⟨k, here, same⟩ := Option.map_eq_some_iff.1 owner.symm
  exact ⟨k, here, congrArg Prod.fst same, congrArg Prod.snd same⟩

theorem UnitsKeep.assigned {us us' : Units} (h : UnitsKeep us us') (u : UnitId) : us'.assigned u = us.assigned u := by
  have owner := congrArg (Option.map Prod.fst) (h.owners u)
  rw [Option.map_map, Option.map_map] at owner
  exact owner

theorem Units.apart_of_jobs {us : Units} (apart : us.isPaired = false) {a b : Job} (lower : us.job .du0 = some a)
    (upper : us.job .du1 = some b) : us = .apart (some a) (some b) := by
  cases us with
  | paired j => cases apart
  | apart x y =>
    cases lower
    cases upper
    rfl

section
variable {s t : State}

theorem UnitLaw.decodingJob (law : UnitLaw s) {u : UnitId} {j : Job} (unit : s.units.job u = some j) :
    (s.ctx j.entry).state = .decoding :=
  (law.decoding j.entry).2 ⟨u, (s.units.assigned_eq_some u _).2 ⟨j, unit, rfl⟩⟩

theorem UnitLaw.distinct (law : UnitLaw s) (apart : s.units.isPaired = false) {u v : UnitId} {j k : Job}
    (unitU : s.units.job u = some j) (unitV : s.units.job v = some k) (other : u ≠ v) : j.entry ≠ k.entry := by
  cases u <;> cases v
  · exact absurd rfl other
  · exact law.single j k (Units.apart_of_jobs apart unitU unitV)
  · exact (law.single k j (Units.apart_of_jobs apart unitV unitU)).symm
  · exact absurd rfl other

/-- The units decode for the same contexts, and these stay as they are. -/
theorem UnitLaw.of_keep (law : UnitLaw s)
    (decoding : ∀ d, (t.ctx d).state = .decoding ↔ (s.ctx d).state = .decoding)
    (same : ∀ d, (s.ctx d).state = .decoding → (t.ctx d).port = (s.ctx d).port ∧ (t.ctx d).K = (s.ctx d).K)
    (units : ∀ d, (t.ctx d).units = (s.ctx d).units ∨ (s.ctx d).state ≠ .decoding ∧ (t.ctx d).units = UnitSet.none)
    (keep : UnitsKeep s.units t.units) : UnitLaw t where
  decoding d := by
    rw [decoding, law.decoding]
    simp only [keep.assigned]
  port u j unit := by
    obtain ⟨k, here, entry, port⟩ := keep.job unit
    rw [← entry, (same _ (law.decodingJob here)).1, law.port u k here, port]
  single a b both := by
    have paired : s.units.isPaired = false := by
      rw [← keep.paired, both]
      rfl
    obtain ⟨j, lower, entryJ, -⟩ := keep.job (u := .du0) (j := a) (by rw [both]; rfl)
    obtain ⟨k, upper, entryK, -⟩ := keep.job (u := .du1) (j := b) (by rw [both]; rfl)
    rw [← entryJ, ← entryK]
    exact law.distinct paired lower upper (by decide)
  paired u j unit := by
    obtain ⟨k, here, entry, -⟩ := keep.job unit
    rw [keep.paired, ← entry, (same _ (law.decodingJob here)).2]
    exact law.paired u k here
  field d := by
    have unitsOf : t.units.unitsOf d = s.units.unitsOf d := Units.unitsOf_congr fun u => by rw [keep.assigned]
    rcases units d with same | ⟨idle, none⟩
    · rw [same, unitsOf, law.field]
    · rw [none, unitsOf, Units.unitsOf_eq_none fun u assigned => idle ((law.decoding d).2 ⟨u, assigned⟩)]

section
variable {e : Entry} {c : Context}

theorem EntryMove.unitLaw_of_start (h : EntryMove s t e c) (law : UnitLaw s) {a : Assignment} {j : Job}
    (assigned : t.units = s.units.assign a j) (was : (s.ctx e).state ≠ .decoding) (is : c.state = .decoding)
    (set : c.units = a.unitSet) (owner : j.owner = (e, c.port)) (apart : s.units.isPaired = false)
    (one : ∀ u, a = .one u → s.units.job u = none ∧ c.K ≤ 4096)
    (pair : a = .pair → s.units.job .du0 = none ∧ s.units.job .du1 = none ∧ 4096 < c.K) : UnitLaw t := by
  have entry : j.entry = e := congrArg Prod.fst owner
  have port : j.port = c.port := congrArg Prod.snd owner
  have elsewhere : ∀ {u k}, s.units.job u = some k → e ≠ k.entry := fun unit here =>
    was (here ▸ law.decodingJob unit)
  cases a with
  | pair =>
    obtain ⟨lower, upper, large⟩ := pair rfl
    have idle : ∀ u, s.units.job u = none := fun u => by cases u <;> assumption
    have job : ∀ u, t.units.job u = some j := fun u => by rw [assigned]; rfl
    have paired : t.units.isPaired = true := by rw [assigned]; rfl
    refine ⟨fun d => ?_, fun u k unit => ?_, fun a b both => ?_, fun u k unit => ?_, fun d => ?_⟩
    · simp only [Units.assigned_eq_some, job, h.ctx]
      split
      · next here => exact ⟨fun _ => ⟨.du0, j, rfl, entry.trans here⟩, fun _ => is⟩
      · next other =>
        rw [law.decoding]
        constructor
        · rintro ⟨u, assigned⟩
          rw [Units.assigned, idle u] at assigned
          cases assigned
        · rintro ⟨u, k, same, here⟩
          cases same
          exact absurd (entry.symm.trans here) other
    · cases (job u).symm.trans unit
      rw [entry, h.here, port]
    · rw [both] at paired
      cases paired
    · cases (job u).symm.trans unit
      rw [entry, h.here]
      exact ⟨fun _ => large, fun _ => paired⟩
    · have none : s.units.unitsOf d = UnitSet.none := Units.unitsOf_eq_none fun u assigned => by
        rw [Units.assigned, idle u] at assigned
        cases assigned
      have unitsOf : t.units.unitsOf d = if e = d then ⟨true, true⟩ else UnitSet.none := by
        rw [Units.unitsOf, Units.assigned, Units.assigned, job, job, Option.map_some, entry]
        split
        · next here => simp [here]
        · next other => simp [other, UnitSet.none]
      rw [unitsOf, h.ctx]
      split
      · exact set
      · rw [law.field, none]
  | one w =>
    obtain ⟨idle, small⟩ := one w rfl
    have job : ∀ u, t.units.job u = if u = w then some j else s.units.job u := fun u => by
      rw [assigned, (Units.assign_one apart j w u).2]
    have paired : t.units.isPaired = false := by rw [assigned, (Units.assign_one apart j w w).1]
    have assigned' : ∀ u d, t.units.assigned u = some d ↔ u = w ∧ e = d ∨ s.units.assigned u = some d := by
      intro u d
      rw [Units.assigned, job, Units.assigned]
      split
      · next here =>
        subst here
        simp [idle, entry]
      · next other => simp [other]
    refine ⟨fun d => ?_, fun u k unit => ?_, fun a b both => ?_, fun u k unit => ?_, fun d => ?_⟩
    · simp only [assigned', h.ctx]
      split
      · next here => exact ⟨fun _ => ⟨w, .inl ⟨rfl, here⟩⟩, fun _ => is⟩
      · next other =>
        rw [law.decoding]
        exact ⟨fun ⟨u, at_u⟩ => ⟨u, .inr at_u⟩, fun ⟨u, at_u⟩ => ⟨u, at_u.resolve_left fun h => other h.2⟩⟩
    · rw [job] at unit
      split at unit
      · cases unit
        rw [entry, h.here, port]
      · rw [h.other (elsewhere unit)]
        exact law.port u k unit
    · have lower := job .du0
      have upper := job .du1
      rw [both] at lower upper
      cases w with
      | du0 =>
        cases lower
        exact fun same => elsewhere upper.symm (entry.symm.trans same)
      | du1 =>
        cases upper
        exact fun same => elsewhere lower.symm (entry.symm.trans same.symm)
    · rw [job] at unit
      rw [paired]
      split at unit
      · cases unit
        rw [entry, h.here]
        exact ⟨fun h => (nomatch h), fun large => absurd large (Nat.not_lt.2 small)⟩
      · rw [h.other (elsewhere unit), ← law.paired u k unit, apart]
    · rw [h.ctx]
      split
      · next here =>
        subst here
        have never : ∀ u, s.units.assigned u ≠ some e := fun u assigned => was ((law.decoding e).2 ⟨u, assigned⟩)
        have flag (u : UnitId) : (t.units.assigned u == some e) = decide (u = w) := by
          rw [Bool.eq_iff_iff, beq_iff_eq, assigned', decide_eq_true_iff]
          exact ⟨fun h => (h.resolve_right (never u)).1, fun h => .inl ⟨h, rfl⟩⟩
        rw [set, Units.unitsOf, flag, flag]
        cases w <;> rfl
      · next other =>
        rw [law.field]
        refine (Units.unitsOf_congr fun u => ?_).symm
        rw [assigned']
        exact ⟨fun h => h.resolve_left fun h => other h.2, .inr⟩

theorem EntryMove.unitLaw_of_end (h : EntryMove s t e c) (law : UnitLaw s) {w : UnitId} {k : Job}
    (unit : s.units.job w = some k) (entry : k.entry = e) (cleared : t.units = s.units.clear w)
    (is : c.state ≠ .decoding) (set : c.units = UnitSet.none) : UnitLaw t := by
  subst entry
  have job : ∀ u, t.units.job u = if s.units.isPaired = true ∨ u = w then none else s.units.job u := fun u => by
    rw [cleared, Units.clear_job]
  have paired : t.units.isPaired = false := by rw [cleared, Units.clear_isPaired]
  have stays : ∀ {u j}, t.units.job u = some j →
      s.units.job u = some j ∧ s.units.isPaired = false ∧ k.entry ≠ j.entry := by
    intro u j at_u
    rw [job] at at_u
    split at at_u
    · cases at_u
    · next kept =>
      have apart : s.units.isPaired = false := by
        rw [Bool.eq_false_iff]
        exact fun h => kept (.inl h)
      exact ⟨at_u, apart, law.distinct apart unit at_u fun h => kept (.inr h.symm)⟩
  have assigned : ∀ u d, t.units.assigned u = some d ↔ s.units.assigned u = some d ∧ k.entry ≠ d := by
    intro u d
    rw [Units.assigned_eq_some, Units.assigned_eq_some]
    constructor
    · rintro ⟨j, at_u, rfl⟩
      obtain ⟨was, -, other⟩ := stays at_u
      exact ⟨⟨j, was, rfl⟩, other⟩
    · rintro ⟨⟨j, was, rfl⟩, other⟩
      refine ⟨j, ?_, rfl⟩
      rw [job, if_neg, was]
      rintro (both | rfl)
      · rw [Units.job_of_paired both u w, unit] at was
        cases was
        exact other rfl
      · rw [unit] at was
        cases was
        exact other rfl
  refine ⟨fun d => ?_, fun u j at_u => ?_, fun a b both => ?_, fun u j at_u => ?_, fun d => ?_⟩
  · simp only [assigned, h.ctx]
    split
    · next here => exact ⟨fun h => absurd h is, fun ⟨_, _, other⟩ => absurd here other⟩
    · next other =>
      rw [law.decoding]
      exact ⟨fun ⟨u, at_u⟩ => ⟨u, at_u, other⟩, fun ⟨u, at_u, _⟩ => ⟨u, at_u⟩⟩
  · obtain ⟨was, -, other⟩ := stays at_u
    rw [h.other other]
    exact law.port u j was
  · obtain ⟨lower, apart, -⟩ := stays (u := .du0) (j := a) (by rw [both]; rfl)
    obtain ⟨upper, -, -⟩ := stays (u := .du1) (j := b) (by rw [both]; rfl)
    exact law.distinct apart lower upper (by decide)
  · obtain ⟨was, apart, other⟩ := stays at_u
    rw [paired, h.other other, ← law.paired u j was, apart]
  · rw [h.ctx]
    split
    · next here =>
      rw [set, Units.unitsOf_eq_none]
      exact fun u at_u => ((assigned u d).1 at_u).2 here
    · next other =>
      rw [law.field]
      exact (Units.unitsOf_congr fun u => by rw [assigned]; exact ⟨fun h => h.1, fun h => ⟨h, other⟩⟩).symm

theorem EntryMove.unitLaw (h : EntryMove s t e c) (law : UnitLaw s) : UnitLaw t := by
  rcases h.units with ⟨same, was, is, units⟩ | ⟨keep, was, is, port, size, units⟩ |
    ⟨a, j, assigned, was, is, set, owner, apart, one, pair⟩ | ⟨u, j, unit, entry, cleared, is, set⟩
  · refine law.of_keep (fun d => ?_) (fun d decoding => ?_) (fun d => ?_) (same ▸ .refl _)
    · rw [h.ctx]
      split
      · next here => exact ⟨fun h => absurd h is, fun h => absurd (here ▸ h) was⟩
      · exact Iff.rfl
    · rw [h.other fun here => was (here ▸ decoding)]
      exact ⟨rfl, rfl⟩
    · rw [h.ctx]
      split
      · next here => exact units.imp (here ▸ ·) fun none => ⟨here ▸ was, none⟩
      · exact .inl rfl
  · refine law.of_keep (fun d => ?_) (fun d _ => ?_) (fun d => ?_) keep
    · rw [h.ctx]
      split
      · next here => exact ⟨fun _ => here ▸ was, fun _ => is⟩
      · exact Iff.rfl
    · rw [h.ctx]
      split
      · next here => exact here ▸ ⟨port, size⟩
      · exact ⟨rfl, rfl⟩
    · rw [h.ctx]
      split
      · next here => exact .inl (here ▸ units)
      · exact .inl rfl
  · exact h.unitLaw_of_start law assigned was is set owner apart one pair
  · exact h.unitLaw_of_end law unit entry cleared is set

end

end

end Sys2Proof.Machine
end

section
/-! SUPPORT. The pages of the pool through a change of one entry, and what the laws of the pool say of its totals (spec/01 R3, spec/02 R32, R35 to R40, R46 to R49). -/

namespace Sys2Proof.Machine

/-! ### Sums over the entries -/

theorem sum_map_filter {α : Type} (l : List α) (k : α → Bool) (f : α → Nat) :
    ((l.filter k).map f).sum = (l.map fun a => if k a = true then f a else 0).sum := by
  induction l with
  | nil => rfl
  | cons a l ih =>
    rw [List.filter_cons, List.map_cons, List.sum_cons, ← ih]
    split
    · rw [List.map_cons, List.sum_cons]
    · rw [Nat.zero_add]

/-- Two sums that differ at one entry. -/
theorem sum_allEntries_replace {f g : Entry → Nat} {e : Entry} (same : ∀ d, e ≠ d → f d = g d) :
    (allEntries.map f).sum + g e = (allEntries.map g).sum + f e := by
  rw [← List.sum_map_erase f (mem_allEntries e), ← List.sum_map_erase g (mem_allEntries e)]
  have others : (allEntries.erase e).map f = (allEntries.erase e).map g :=
    List.map_congr_left fun d listed => same d ((allEntries_nodup.mem_erase_iff.1 listed).1.symm)
  rw [others]
  omega

/-- A sum port by port is the whole sum. -/
theorem sum_allPorts_filter {α : Type} (l : List α) (owner : α → PortId) (f : α → Nat) :
    (allPorts.map fun p => ((l.filter fun a => owner a == p).map f).sum).sum = (l.map f).sum := by
  induction l with
  | nil => rfl
  | cons a l ih =>
    have split (p : PortId) : (((a :: l).filter fun a => owner a == p).map f).sum =
        (if owner a = p then f a else 0) + ((l.filter fun a => owner a == p).map f).sum := by
      rw [List.filter_cons]
      by_cases here : owner a = p
      · rw [if_pos (beq_iff_eq.2 here), if_pos here, List.map_cons, List.sum_cons]
      · rw [if_neg fun h => here (beq_iff_eq.1 h), if_neg here, Nat.zero_add]
    have mine : (allPorts.map fun p => if owner a = p then f a else 0).sum = f a := by
      generalize owner a = p
      fin_cases p <;> simp [allPorts]
    rw [List.map_congr_left fun p _ => split p, List.sum_map_add, mine, ih, List.map_cons, List.sum_cons]

theorem sum_allPages_count (l : List Page) : (allPages.map fun pg => l.count pg).sum = l.length := by
  have total := Multiset.sum_count_eq_card (s := Finset.univ) (m := (l : Multiset Page)) fun _ _ => Finset.mem_univ _
  rw [allPages, ← Fin.sum_univ_def]
  simpa using total

/-! ### The pool's operations -/

/-- Retirement moves pages and loses none: the places of every page, the usage, and the balance of the lists. -/
structure Pool.SamePages (pages left : List Page) (pl pl' : Pool) : Prop where
  places : ∀ pg, pl'.freeList.count pg + pl'.spareList.count pg + pl'.retiredList.count pg + left.count pg =
    pl.freeList.count pg + pl.spareList.count pg + pl.retiredList.count pg + pages.count pg
  usage : pl'.usage = pl.usage
  retired : pl'.spareList.length + pl'.retiredList.length + pl.shortfall =
    pl.spareList.length + pl.retiredList.length + pl'.shortfall
  stock : pl'.freeList.length + pl'.shortfall + left.length = pl.freeList.length + pl.shortfall + pages.length

theorem Pool.retire_samePages {pages : List Page} {pg : Page} (listed : pg ∈ pages) (pl : Pool) :
    Pool.SamePages pages (pages.erase pg) pl (pl.retire pg) := by
  have count : ∀ q, (pages.erase pg).count q + [pg].count q = pages.count q := by
    intro q
    have perm := (List.perm_cons_erase listed).count_eq q
    rw [List.count_cons] at perm
    rw [List.count_singleton]
    omega
  have length : (pages.erase pg).length + 1 = pages.length := by
    rw [List.length_erase_of_mem listed]
    have := List.length_pos_of_mem listed
    omega
  rw [Pool.retire]
  cases spares : pl.spareList with
  | nil =>
    refine ⟨fun q => ?_, rfl, ?_, ?_⟩
    · have := count q
      simp only [spares, List.count_append, List.count_nil]
      omega
    · simp only [spares, List.length_append, List.length_cons, List.length_nil]
      omega
    · simp only
      omega
  | cons sp rest =>
    refine ⟨fun q => ?_, rfl, ?_, ?_⟩
    · have := count q
      simp only [spares, List.count_append, List.count_cons, List.count_nil] at this ⊢
      omega
    · simp only [spares, List.length_append, List.length_cons, List.length_nil]
      omega
    · simp only [List.length_append, List.length_cons, List.length_nil]
      omega

theorem Pool.retireAll_samePages (report : List Page) : ∀ (pages : List Page) (pl : Pool),
    Pool.SamePages pages (Pool.retireAll report pages pl).1 pl (Pool.retireAll report pages pl).2 := by
  induction report with
  | nil => exact fun pages pl => ⟨fun _ => rfl, rfl, rfl, rfl⟩
  | cons pg report ih =>
    intro pages pl
    rw [Pool.retireAll]
    split
    · next listed =>
      have first := Pool.retire_samePages listed pl
      have later := ih (pages.erase pg) (pl.retire pg)
      refine ⟨fun q => (later.places q).trans (first.places q), later.usage.trans first.usage, ?_,
        later.stock.trans first.stock⟩
      have := first.retired
      have := later.retired
      omega
    · exact ih pages pl

/-! ### A change of one entry -/

section
variable {s t : State} {e : Entry} {c : Context}

theorem State.heldPages_eq (s : State) (p : PortId) :
    s.heldPages p = (allEntries.map fun e => if (s.ctx e).port = p then (s.ctx e).pages.length else 0).sum := by
  rw [State.heldPages, sum_map_filter]
  simp only [beq_iff_eq]

theorem EntryMove.copies (h : EntryMove s t e c) (pg : Page) :
    (allEntries.map fun d => (t.ctx d).pages.count pg).sum + (s.ctx e).pages.count pg =
      (allEntries.map fun d => (s.ctx d).pages.count pg).sum + c.pages.count pg := by
  have moved := sum_allEntries_replace (f := fun d => (t.ctx d).pages.count pg) (g := fun d => (s.ctx d).pages.count pg)
    (e := e) fun d other => by rw [h.other other]
  rw [h.here] at moved
  exact moved

theorem EntryMove.held (h : EntryMove s t e c) (p : PortId) :
    t.heldPages p + (if (s.ctx e).port = p then (s.ctx e).pages.length else 0) =
      s.heldPages p + (if c.port = p then c.pages.length else 0) := by
  have moved := sum_allEntries_replace (e := e)
    (f := fun d => if (t.ctx d).port = p then (t.ctx d).pages.length else 0)
    (g := fun d => if (s.ctx d).port = p then (s.ctx d).pages.length else 0) fun d other => by rw [h.other other]
  rw [h.here, ← State.heldPages_eq, ← State.heldPages_eq] at moved
  exact moved

/-- A change of one entry keeps the laws of the pool when its own page list keeps its length, and the pool and the list together keep the places and the usage. -/
theorem PoolLaw.of_move (law : PoolLaw s) (h : EntryMove s t e c)
    (length : c.pages.length = if c.state.holdsPages then c.pageCount else 0)
    (places : ∀ pg, t.pool.freeList.count pg + t.pool.spareList.count pg + t.pool.retiredList.count pg +
      c.pages.count pg = s.pool.freeList.count pg + s.pool.spareList.count pg + s.pool.retiredList.count pg +
        (s.ctx e).pages.count pg)
    (usage : ∀ p, t.pool.usageOf p + (if (s.ctx e).port = p then (s.ctx e).pages.length else 0) =
      s.pool.usageOf p + (if c.port = p then c.pages.length else 0))
    (retired : t.pool.spareList.length + t.pool.retiredList.length + s.pool.shortfall =
      s.pool.spareList.length + s.pool.retiredList.length + t.pool.shortfall) : PoolLaw t where
  onePlace pg := by
    have before := law.onePlace pg
    have here := places pg
    have moved := h.copies pg
    rw [State.pageCopies] at before ⊢
    omega
  listLength d := by
    rcases eq_or_ne e d with rfl | other
    · rw [h.here]
      exact length
    · rw [h.other other]
      exact law.listLength d
  usage p := by
    have before := law.usage p
    have here := usage p
    have moved := h.held p
    omega
  retired := by
    have before := law.retired
    omega

theorem PoolLaw.length_of_holds (law : PoolLaw s) (holds : (s.ctx e).state.holdsPages = true) :
    (s.ctx e).pages.length = (s.ctx e).pageCount := by
  rw [law.listLength, if_pos holds]

theorem PoolLaw.pages_of_holds_not (law : PoolLaw s) (none : (s.ctx e).state.holdsPages = false) :
    (s.ctx e).pages = [] :=
  List.eq_nil_of_length_eq_zero (by rw [law.listLength, none]; rfl)

/-- The pages a port holds are at least those of each of its contexts. -/
theorem State.length_le_heldPages (s : State) (e : Entry) : (s.ctx e).pages.length ≤ s.heldPages (s.ctx e).port := by
  rw [State.heldPages]
  refine List.single_le_sum (fun _ _ => Nat.zero_le _) _ (List.mem_map.2 ⟨e, List.mem_filter.2 ⟨mem_allEntries e, ?_⟩, rfl⟩)
  exact beq_self_eq_true _

theorem EntryMove.poolLaw (h : EntryMove s t e c) (law : PoolLaw s) : PoolLaw t := by
  rcases h.pool with ⟨pool, pages, port, count, holds⟩ | ⟨pool, was, is, pages⟩ | ⟨report, was, is, pages, pool⟩ |
    ⟨was, is, enough, pages, pool⟩
  · refine law.of_move h ?_ (fun pg => by rw [pool, pages]) (fun p => by rw [pool, pages, port]) (by rw [pool])
    rw [pages, count, holds, law.listLength]
  · have none := law.pages_of_holds_not was
    refine law.of_move h ?_ (fun pg => by rw [pool, pages, none]) (fun p => ?_) (by rw [pool])
    · rw [pages, is]
      rfl
    · rw [pool, pages, none]
      simp
  · obtain ⟨places, usage, retired, -⟩ := Pool.retireAll_samePages report (s.ctx e).pages s.pool
    generalize Pool.retireAll report (s.ctx e).pages s.pool = back at pool places usage retired
    refine law.of_move h ?_ (fun pg => ?_) (fun p => ?_) ?_
    · rw [pages, is]
      rfl
    · rw [pool, pages, ← places pg]
      simp only [Pool.giveBack, List.count_append, List.count_nil]
      omega
    · have low := s.length_le_heldPages e
      have counted := law.length_of_holds was
      have same : ∀ p, back.2.usageOf p = s.pool.usageOf p := fun p => by rw [Pool.usageOf, usage, Pool.usageOf]
      rw [pool, pages, Pool.giveBack_usage, same, same, counted]
      rw [← law.usage] at low
      simp only [List.length_nil, ite_self, Nat.add_zero]
      split
      · next here =>
        rw [← here]
        omega
      · rfl
    · rw [pool]
      exact retired
  · have none : (s.ctx e).pages = [] := law.pages_of_holds_not (by rw [was]; rfl)
    have taken : c.pages.length = c.pageCount := by rw [pages, List.length_take, Nat.min_eq_left enough]
    refine law.of_move h (by rw [taken, if_pos is]) (fun pg => ?_) (fun p => ?_) (by rw [pool]; rfl)
    · have both : (s.pool.freeList.take c.pageCount).count pg + (s.pool.freeList.drop c.pageCount).count pg =
          s.pool.freeList.count pg := by
        rw [← List.count_append, List.take_append_drop]
      rw [pool, none, pages]
      simp only [Pool.take, List.count_nil]
      omega
    · rw [pool, none, taken, Pool.take_usage]
      simp only [List.length_nil, ite_self, Nat.add_zero]
      split
      · next here => rw [here]
      · rfl

end

/-! ### Totals (R49) -/

theorem PoolLaw.total {s : State} (law : PoolLaw s) :
    s.pool.freeList.length + (allEntries.map fun e => (s.ctx e).pages.length).sum + s.pool.shortfall = 2048 := by
  have all : (allPages.map fun pg => s.pageCopies pg).sum = 2112 := by
    rw [List.map_congr_left fun pg _ => law.onePlace pg, List.map_const', List.sum_replicate, allPages,
      List.length_finRange]
    rfl
  have swap : (allPages.map fun pg => (allEntries.map fun e => (s.ctx e).pages.count pg).sum).sum =
      (allEntries.map fun e => (s.ctx e).pages.length).sum := by
    rw [List.map_congr_left fun e _ => (sum_allPages_count (s.ctx e).pages).symm, allPages, allEntries]
    simp only [← Fin.sum_univ_def]
    exact Finset.sum_comm
  have parts : (allPages.map fun pg => s.pageCopies pg).sum = s.pool.freeList.length + s.pool.spareList.length +
      s.pool.retiredList.length + (allEntries.map fun e => (s.ctx e).pages.length).sum := by
    rw [← swap, ← sum_allPages_count, ← sum_allPages_count, ← sum_allPages_count]
    simp only [State.pageCopies, List.sum_map_add]
  have retired := law.retired
  omega

theorem PoolLaw.usageTotal {s : State} (law : PoolLaw s) :
    (allPorts.map s.pool.usageOf).sum = (allEntries.map fun e => (s.ctx e).pages.length).sum := by
  rw [List.map_congr_left fun p _ => law.usage p]
  exact sum_allPorts_filter allEntries (fun e => (s.ctx e).port) fun e => (s.ctx e).pages.length

end Sys2Proof.Machine
end

section
/-! SUPPORT. The other two ways a state changes: it keeps what the laws of contexts read, or the contexts of a port in some states end together; and the laws that these changes keep (spec/01 R24, spec/02 R41, spec/09 R178, R181). -/

namespace Sys2Proof.Machine

/-! ### Nothing that the laws of contexts read changes -/

/-- The contexts, the pool, the lists of contexts and the owners of the engine and the units stay; a PAIR_WAIT may begin for a port with a head. -/
structure Still (s t : State) : Prop where
  ctx : ∀ e, t.ctx e = s.ctx e
  pool : t.pool = s.pool
  expiry : t.expiry.list = s.expiry.list
  queues : ∀ p, t.dispatchQueue p = s.dispatchQueue p
  mode : ∀ p, t.dispatcher.mode = .pairWait p → s.dispatcher.mode = .pairWait p ∨ s.dispatchQueue p ≠ []
  engine : t.engine.combine.map Combine.owner = s.engine.combine.map Combine.owner
  units : UnitsKeep s.units t.units

section
variable {s t u : State}

/-- A change outside the parts that the laws of contexts read. -/
theorem Still.of_eq (contexts : t.contexts = s.contexts) (pool : t.pool = s.pool) (expiry : t.expiry.list = s.expiry.list)
    (dispatcher : t.dispatcher = s.dispatcher) (engine : t.engine.combine = s.engine.combine) (units : t.units = s.units) :
    Still s t where
  ctx e := congrArg (·.get e) contexts
  pool := pool
  expiry := expiry
  queues p := congrArg (·.queues.get p) dispatcher
  mode _ waits := .inl (dispatcher ▸ waits)
  engine := congrArg (Option.map Combine.owner) engine
  units := units ▸ .refl _

theorem Still.refl (s : State) : Still s s := .of_eq rfl rfl rfl rfl rfl rfl

theorem UnitsKeep.trans {us vs ws : Units} (h : UnitsKeep us vs) (g : UnitsKeep vs ws) : UnitsKeep us ws :=
  ⟨g.paired.trans h.paired, fun u => (g.owners u).trans (h.owners u)⟩

theorem UnitsKeep.of_map (us : Units) {f : Job → Job} (owner : ∀ j, (f j).owner = j.owner) : UnitsKeep us (us.map f) where
  paired := us.isPaired_map f
  owners u := by
    rw [us.job_map, Option.map_map]
    congr 1
    exact funext owner

theorem UnitsKeep.of_setJob {us : Units} {u : UnitId} {j k : Job} (unit : us.job u = some j) (owner : k.owner = j.owner) :
    UnitsKeep us (us.setJob u k) where
  paired := us.setJob_isPaired u k
  owners v := by
    rw [us.job_setJob]
    split
    · next here =>
      have at_v : us.job v = some j := here.elim (fun both => (us.job_of_paired both v u).trans unit) fun h => h ▸ unit
      rw [at_v, Option.map_some, Option.map_some, owner]
    · rfl

theorem Still.trans (h : Still s t) (g : Still t u) : Still s u where
  ctx e := (g.ctx e).trans (h.ctx e)
  pool := g.pool.trans h.pool
  expiry := g.expiry.trans h.expiry
  queues p := (g.queues p).trans (h.queues p)
  mode p waits := (g.mode p waits).elim (h.mode p) fun some => .inr (h.queues p ▸ some)
  engine := g.engine.trans h.engine
  units := h.units.trans g.units

theorem Combine.of_owner {a b : Option Combine} (same : b.map Combine.owner = a.map Combine.owner) :
    (a = none → b = none) ∧ ∀ k, a = some k → ∃ l, b = some l ∧ l.port = k.port ∧ l.entry = k.entry ∧ l.action = k.action := by
  refine ⟨fun idle => ?_, fun k busy => ?_⟩
  · rw [idle] at same
    exact Option.map_eq_none_iff.1 same
  · rw [busy, Option.map_some] at same
    obtain ⟨l, here, owner⟩ := Option.map_eq_some_iff.1 same
    obtain ⟨port, entry, action⟩ : l.port = k.port ∧ l.entry = k.entry ∧ l.action = k.action := by
      simpa [Combine.owner] using owner
    exact ⟨l, here, port, entry, action⟩

theorem EngineLaw.of_owner (law : EngineLaw s) (combining : ∀ e, (t.ctx e).state = .combining ↔ (s.ctx e).state = .combining)
    (same : ∀ e, (s.ctx e).state = .combining → t.ctx e = s.ctx e)
    (engine : t.engine.combine.map Combine.owner = s.engine.combine.map Combine.owner) : EngineLaw t := by
  cases at_s : s.engine.combine with
  | none =>
    refine .of_none ((Combine.of_owner engine).1 at_s) fun e here => ?_
    exact law.idle at_s e ((combining e).1 here)
  | some k =>
    obtain ⟨l, at_t, port, entry, action⟩ := (Combine.of_owner engine).2 k at_s
    obtain ⟨portK, one, owed⟩ := law.busy at_s
    have stays := same k.entry ((one k.entry).2 rfl)
    refine .of_some at_t (by rw [entry, stays, port, portK]) (fun e => ?_) fun decode => ?_
    · rw [combining, entry, one]
    · rw [entry, stays]
      exact owed (action ▸ decode)

theorem Still.keyLaw (h : Still s t) (law : KeyLaw s) : KeyLaw t := by
  intro e d
  rw [h.ctx, h.ctx]
  exact law e d

theorem Still.freeLaw (h : Still s t) (law : FreeLaw s) : FreeLaw t := by
  intro e
  rw [h.ctx]
  exact law e

theorem Still.heldPages (h : Still s t) (p : PortId) : t.heldPages p = s.heldPages p := by
  simp only [State.heldPages, h.ctx]

theorem Still.poolLaw (h : Still s t) (law : PoolLaw s) : PoolLaw t where
  onePlace pg := by
    have here := law.onePlace pg
    simpa only [State.pageCopies, h.pool, h.ctx] using here
  listLength e := by
    rw [h.ctx]
    exact law.listLength e
  usage p := by
    rw [h.pool, h.heldPages]
    exact law.usage p
  retired := by
    rw [h.pool]
    exact law.retired

theorem Still.expiryLaw (h : Still s t) (law : ExpiryLaw s) : ExpiryLaw t where
  once := h.expiry ▸ law.once
  members e := by
    rw [h.expiry, h.ctx]
    exact law.members e

theorem Still.dispatchLaw (h : Still s t) (law : DispatchLaw s) : DispatchLaw t where
  once p := by
    rw [h.queues]
    exact law.once p
  members p e := by
    rw [h.queues, h.ctx]
    exact law.members p e
  owed e := by
    rw [h.ctx]
    exact law.owed e
  held p waits := by
    rw [h.queues]
    exact (h.mode p waits).elim (law.held p) id

theorem Still.engineLaw (h : Still s t) (law : EngineLaw s) : EngineLaw t :=
  law.of_owner (fun e => by rw [h.ctx]) (fun e _ => h.ctx e) h.engine

theorem Still.unitLaw (h : Still s t) (law : UnitLaw s) : UnitLaw t :=
  law.of_keep (fun e => by rw [h.ctx]) (fun e _ => by rw [h.ctx]; exact ⟨rfl, rfl⟩) (fun e => .inl (by rw [h.ctx])) h.units

/-! ### Contexts of a port end together -/

/-- The contexts of a port in some states that are not in progress end silently (R24), their dispatch queue emptied when its contexts are among them. -/
structure Sweep (s t : State) (p : PortId) (k : CtxState → Bool) : Prop where
  spares : k .combining = false ∧ k .decoding = false
  ctx : ∀ e, t.ctx e = if s.inStates p k e = true then Context.free else s.ctx e
  pool : t.pool = (s.endContexts p k).pool
  expiry : t.expiry.list = s.expiry.list.filter fun e => !s.inStates p k e
  queues : ∀ r, t.dispatchQueue r = if k .queued = true ∧ p = r then [] else s.dispatchQueue r
  mode : ∀ r, t.dispatcher.mode = .pairWait r → s.dispatcher.mode = .pairWait r ∧ ¬ (k .queued = true ∧ p = r)
  engine : t.engine.combine.map Combine.owner = s.engine.combine.map Combine.owner
  units : UnitsKeep s.units t.units

section
variable {p : PortId} {k : CtxState → Bool}

theorem Sweep.kept (h : Sweep s t p k) {e : Entry} (stays : ¬ s.inStates p k e = true) : t.ctx e = s.ctx e := by
  rw [h.ctx, if_neg stays]

theorem Sweep.ended (h : Sweep s t p k) {e : Entry} (ends : s.inStates p k e = true) : t.ctx e = Context.free := by
  rw [h.ctx, if_pos ends]

/-- An entry that is not FREE afterwards has been kept. -/
theorem Sweep.used (h : Sweep s t p k) {e : Entry} (used : (t.ctx e).state ≠ .free) :
    ¬ s.inStates p k e = true ∧ t.ctx e = s.ctx e := by
  by_cases ends : s.inStates p k e = true
  · rw [h.ended ends] at used
    exact absurd rfl used
  · exact ⟨ends, h.kept ends⟩

/-- A context in a state that is spared stays, and none enters such a state. -/
theorem Sweep.state_iff (h : Sweep s t p k) {x : CtxState} (spared : k x = false) (used : x ≠ .free) (e : Entry) :
    (t.ctx e).state = x ↔ (s.ctx e).state = x := by
  by_cases ends : s.inStates p k e = true
  · obtain ⟨-, -, ended⟩ := (s.inStates_iff p k e).1 ends
    rw [h.ended ends]
    refine ⟨fun same => absurd same.symm used, fun same => ?_⟩
    rw [same, spared] at ended
    cases ended
  · rw [h.kept ends]

theorem Sweep.keyLaw (h : Sweep s t p k) (law : KeyLaw s) : KeyLaw t := by
  intro e d usedE usedD
  have sameE := (h.used usedE).2
  have sameD := (h.used usedD).2
  rw [sameE] at usedE ⊢
  rw [sameD] at usedD ⊢
  exact law e d usedE usedD

theorem Sweep.freeLaw (h : Sweep s t p k) (law : FreeLaw s) : FreeLaw t := by
  intro e free
  by_cases ends : s.inStates p k e = true
  · exact h.ended ends
  · rw [h.kept ends] at free ⊢
    exact law e free

theorem Sweep.expiryLaw (h : Sweep s t p k) (law : ExpiryLaw s) : ExpiryLaw t where
  once := h.expiry ▸ law.once.filter _
  members e := by
    rw [h.expiry, List.mem_filter, law.members, Bool.not_eq_true', ← Bool.not_eq_true]
    by_cases ends : s.inStates p k e = true
    · rw [h.ended ends]
      exact ⟨fun both => absurd ends both.2, fun none => none.elim (fun h => nomatch h) fun h => nomatch h⟩
    · rw [h.kept ends]
      exact and_iff_left ends

theorem Sweep.dispatchLaw (h : Sweep s t p k) (law : DispatchLaw s) : DispatchLaw t where
  once r := by
    rw [h.queues]
    split
    · exact List.nodup_nil
    · exact law.once r
  members r e := by
    rw [h.queues]
    split
    · next emptied =>
      refine ⟨fun listed => (nomatch listed), fun ⟨queued, port⟩ => ?_⟩
      obtain ⟨stays, same⟩ := h.used (e := e) (by rw [queued]; decide)
      rw [same] at queued port
      exact absurd ((s.inStates_iff p k e).2 ⟨port.trans emptied.2.symm, by rw [queued]; decide, queued ▸ emptied.1⟩) stays
    · next kept =>
      rw [law.members]
      by_cases ends : s.inStates p k e = true
      · obtain ⟨port, -, ended⟩ := (s.inStates_iff p k e).1 ends
        rw [h.ended ends]
        exact ⟨fun ⟨queued, portR⟩ => absurd ⟨queued ▸ ended, port.symm.trans portR⟩ kept, fun none => nomatch none.1⟩
      · rw [h.kept ends]
  owed e queued := by
    obtain ⟨-, same⟩ := h.used (e := e) (by rw [queued]; decide)
    rw [same] at queued ⊢
    exact law.owed e queued
  held r waits := by
    obtain ⟨waited, kept⟩ := h.mode r waits
    rw [h.queues, if_neg kept]
    exact law.held r waited

theorem Sweep.engineLaw (h : Sweep s t p k) (law : EngineLaw s) : EngineLaw t := by
  refine law.of_owner (h.state_iff h.spares.1 (by decide)) (fun e combining => h.kept fun ends => ?_) h.engine
  obtain ⟨-, -, ended⟩ := (s.inStates_iff p k e).1 ends
  rw [combining, h.spares.1] at ended
  cases ended

theorem Sweep.unitLaw (h : Sweep s t p k) (law : UnitLaw s) : UnitLaw t := by
  have spared : ∀ e, (s.ctx e).state = .decoding → ¬ s.inStates p k e = true := fun e decoding ends => by
    obtain ⟨-, -, ended⟩ := (s.inStates_iff p k e).1 ends
    rw [decoding, h.spares.2] at ended
    cases ended
  refine law.of_keep (h.state_iff h.spares.2 (by decide)) (fun e decoding => ?_) (fun e => ?_) h.units
  · rw [h.kept (spared e decoding)]
    exact ⟨rfl, rfl⟩
  · by_cases ends : s.inStates p k e = true
    · exact .inr ⟨fun decoding => spared e decoding ends, by rw [h.ended ends]; rfl⟩
    · exact .inl (by rw [h.kept ends])

/-! #### The pages of the ended contexts -/

/-- The pages of the contexts that end. -/
def State.endedPages (s : State) (p : PortId) (k : CtxState → Bool) : List Page :=
  ((allEntries.filter (s.inStates p k)).filter fun e => (s.ctx e).state.holdsPages).flatMap fun e => (s.ctx e).pages

/-- A measure of the lists of the ended contexts, and of those that stay, is that of all. -/
theorem Sweep.sum_split (h : Sweep s t p k) {f : Context → Nat} (none : f Context.free = 0) :
    (allEntries.map fun e => f (t.ctx e)).sum + ((allEntries.filter (s.inStates p k)).map fun e => f (s.ctx e)).sum =
      (allEntries.map fun e => f (s.ctx e)).sum := by
  rw [sum_map_filter, ← List.sum_map_add]
  refine congrArg List.sum (List.map_congr_left fun e _ => ?_)
  by_cases ends : s.inStates p k e = true
  · rw [h.ended ends, if_pos ends, none, Nat.zero_add]
  · rw [h.kept ends, if_neg ends, Nat.add_zero]

/-- Of the ended contexts, only those in the states that hold pages have any. -/
theorem PoolLaw.sum_holding (law : PoolLaw s) {f : Context → Nat} (none : ∀ e, (s.ctx e).pages = [] → f (s.ctx e) = 0)
    (l : List Entry) :
    ((l.filter fun e => (s.ctx e).state.holdsPages).map fun e => f (s.ctx e)).sum = (l.map fun e => f (s.ctx e)).sum :=
  sum_map_filter_of_zero l _ _ fun e _ idle => none e (law.pages_of_holds_not idle)

theorem Sweep.freeList (h : Sweep s t p k) : t.pool.freeList = s.pool.freeList ++ s.endedPages p k := by
  rw [h.pool]
  rfl

theorem Sweep.usage (h : Sweep s t p k) (law : PoolLaw s) (r : PortId) :
    t.pool.usageOf r = if p = r then s.pool.usageOf p -
      ((allEntries.filter (s.inStates p k)).map fun e => (s.ctx e).pages.length).sum else s.pool.usageOf r := by
  rw [h.pool, show (s.endContexts p k).pool = s.pool.giveBack p _ _ from rfl, Pool.giveBack_usage]
  have counted : (((allEntries.filter (s.inStates p k)).filter fun e => (s.ctx e).state.holdsPages).map
      fun e => (s.ctx e).pageCount).sum =
      ((allEntries.filter (s.inStates p k)).map fun e => (s.ctx e).pages.length).sum := by
    rw [← law.sum_holding (f := fun c => c.pages.length) fun e none => by rw [none]; rfl]
    refine congrArg List.sum (List.map_congr_left fun e holding => ?_)
    rw [law.length_of_holds (List.mem_filter.1 holding).2]
  rw [← counted]

theorem Sweep.heldPages (h : Sweep s t p k) (r : PortId) :
    t.heldPages r + (if p = r then ((allEntries.filter (s.inStates p k)).map fun e => (s.ctx e).pages.length).sum else 0) =
      s.heldPages r := by
  have split := h.sum_split (f := fun c => if c.port = r then c.pages.length else 0) (ite_self 0)
  have own : ((allEntries.filter (s.inStates p k)).map fun e => if (s.ctx e).port = r then (s.ctx e).pages.length else 0).sum =
      if p = r then ((allEntries.filter (s.inStates p k)).map fun e => (s.ctx e).pages.length).sum else 0 := by
    have port : ∀ e ∈ allEntries.filter (s.inStates p k), (s.ctx e).port = p := fun e listed =>
      ((s.inStates_iff p k e).1 (List.mem_filter.1 listed).2).1
    rw [List.map_congr_left fun e listed => by rw [port e listed]]
    split
    · rfl
    · exact sum_map_eq_zero fun _ _ => rfl
  rw [← own, State.heldPages_eq, State.heldPages_eq]
  exact split

theorem Sweep.poolLaw (h : Sweep s t p k) (law : PoolLaw s) : PoolLaw t where
  onePlace pg := by
    have split := h.sum_split (f := fun c => c.pages.count pg) rfl
    have gone : (s.endedPages p k).count pg =
        ((allEntries.filter (s.inStates p k)).map fun e => (s.ctx e).pages.count pg).sum := by
      rw [State.endedPages, List.count_flatMap,
        ← law.sum_holding (f := fun c => c.pages.count pg) fun e none => by rw [none]; rfl]
      rfl
    have before := law.onePlace pg
    have lists : t.pool.spareList = s.pool.spareList ∧ t.pool.retiredList = s.pool.retiredList := by
      rw [h.pool]
      exact ⟨rfl, rfl⟩
    rw [State.pageCopies] at before ⊢
    rw [h.freeList, lists.1, lists.2, List.count_append, gone]
    omega
  listLength e := by
    by_cases ends : s.inStates p k e = true
    · rw [h.ended ends]
      rfl
    · rw [h.kept ends]
      exact law.listLength e
  usage r := by
    have before := law.usage r
    have held := h.heldPages r
    rw [h.usage law]
    split
    · next here =>
      subst here
      rw [if_pos rfl] at held
      omega
    · next other =>
      rw [if_neg other] at held
      omega
  retired := by
    rw [h.pool]
    exact law.retired

end

end

end Sys2Proof.Machine
end

section
/-! SUPPORT. Every change of the contexts is a chain of single moves, and the laws of the pool, of keys, of the lists, of the engine and of the units hold along it. -/

namespace Sys2Proof.Machine

/-- Every item of the contexts is at its power-on value, and the pages have been gathered again (spec/10 R193, R201). -/
structure Restart (s t : State) : Prop where
  off : t.AllOff
  unused : ∀ p, t.pool.usageOf p = 0
  pool : PoolLaw s → PoolLaw t

/-- One move of the contexts. -/
inductive Move (s t : State) : Prop
  | still : Still s t → Move s t
  | entry (e : Entry) (c : Context) : EntryMove s t e c → Move s t
  | sweep (p : PortId) (k : CtxState → Bool) : Sweep s t p k → Move s t
  | restart : Restart s t → Move s t

/-- Moves one after the other. -/
abbrev Chain : State → State → Prop := Relation.ReflTransGen Move

section
variable {s t u : State}

theorem Still.chain (h : Still s t) : Chain s t := .single (.still h)

theorem EntryMove.chain {e : Entry} {c : Context} (h : EntryMove s t e c) : Chain s t := .single (.entry e c h)

theorem Sweep.chain {p : PortId} {k : CtxState → Bool} (h : Sweep s t p k) : Chain s t := .single (.sweep p k h)

/-- A law that every move keeps holds at the end of a chain. -/
theorem Chain.keeps {P : State → Prop} (keep : ∀ {s t}, Move s t → P s → P t) (h : Chain s t) (start : P s) : P t := by
  induction h with
  | refl => exact start
  | tail _ last ih => exact keep last ih

theorem Move.poolLaw (h : Move s t) (law : PoolLaw s) : PoolLaw t := by
  rcases h with h | ⟨e, c, h⟩ | ⟨p, k, h⟩ | h
  · exact h.poolLaw law
  · exact h.poolLaw law
  · exact h.poolLaw law
  · exact h.pool law

theorem Move.keyLaw (h : Move s t) (law : KeyLaw s) : KeyLaw t := by
  rcases h with h | ⟨e, c, h⟩ | ⟨p, k, h⟩ | h
  · exact h.keyLaw law
  · exact h.keyLaw law
  · exact h.keyLaw law
  · exact h.off.key

theorem Move.freeLaw (h : Move s t) (law : FreeLaw s) : FreeLaw t := by
  rcases h with h | ⟨e, c, h⟩ | ⟨p, k, h⟩ | h
  · exact h.freeLaw law
  · exact h.freeLaw law
  · exact h.freeLaw law
  · exact h.off.free

theorem Move.expiryLaw (h : Move s t) (law : ExpiryLaw s) : ExpiryLaw t := by
  rcases h with h | ⟨e, c, h⟩ | ⟨p, k, h⟩ | h
  · exact h.expiryLaw law
  · exact h.expiryLaw law
  · exact h.expiryLaw law
  · exact h.off.expiryLaw

theorem Move.dispatchLaw (h : Move s t) (law : DispatchLaw s) : DispatchLaw t := by
  rcases h with h | ⟨e, c, h⟩ | ⟨p, k, h⟩ | h
  · exact h.dispatchLaw law
  · exact h.dispatchLaw law
  · exact h.dispatchLaw law
  · exact h.off.dispatch

theorem Move.engineLaw (h : Move s t) (law : EngineLaw s) : EngineLaw t := by
  rcases h with h | ⟨e, c, h⟩ | ⟨p, k, h⟩ | h
  · exact h.engineLaw law
  · exact h.engineLaw law
  · exact h.engineLaw law
  · exact h.off.engineLaw

theorem Move.unitLaw (h : Move s t) (law : UnitLaw s) : UnitLaw t := by
  rcases h with h | ⟨e, c, h⟩ | ⟨p, k, h⟩ | h
  · exact h.unitLaw law
  · exact h.unitLaw law
  · exact h.unitLaw law
  · exact h.off.unitLaw

/-! ### Kinds of a change of one entry -/

section
variable {e : Entry} {c : Context}

theorem State.dispatchQueue_congr (same : t.dispatcher = s.dispatcher) (p : PortId) :
    t.dispatchQueue p = s.dispatchQueue p := congrArg (·.queues.get p) same

theorem Context.queuedFor_of_ne (idle : c.state ≠ .queued) (p : PortId) : c.queuedFor p = false := by
  rw [Context.queuedFor, beq_eq_false_iff_ne.2 idle, Bool.false_and]

theorem ListMove.unqueued {x : Context} (same : t.dispatcher = s.dispatcher) (was : x.state ≠ .queued)
    (is : c.state ≠ .queued) (p : PortId) :
    ListMove (s.dispatchQueue p) (t.dispatchQueue p) e (x.queuedFor p) (c.queuedFor p) := by
  rw [Context.queuedFor_of_ne was, Context.queuedFor_of_ne is]
  exact .out (State.dispatchQueue_congr same p)

theorem DispatchMode.kept (same : t.dispatcher = s.dispatcher) (p : PortId) (waits : t.dispatcher.mode = .pairWait p) :
    s.dispatcher.mode = .pairWait p ∧ (s.dispatchQueue p ≠ [] → t.dispatchQueue p ≠ []) := by
  rw [State.dispatchQueue_congr same]
  exact ⟨same ▸ waits, id⟩

theorem ne_of_inFlight {x : CtxState} (idle : inFlight x = false) : x ≠ .combining ∧ x ≠ .queued ∧ x ≠ .decoding := by
  refine ⟨?_, ?_, ?_⟩ <;> rintro rfl <;> cases idle

/-- A context that is in no progress before and after. -/
theorem EntryMove.of_idle (ctx : ∀ d, t.ctx d = if e = d then c else s.ctx d)
    (key : c = Context.free ∨ c.state ≠ .free ∧ (s.ctx e).state ≠ .free ∧ c.port = (s.ctx e).port ∧ c.tag = (s.ctx e).tag)
    (pool : PoolMove s.pool t.pool (s.ctx e) c)
    (expiry : ListMove s.expiry.list t.expiry.list e (s.ctx e).state.expires c.state.expires)
    (dispatcher : t.dispatcher = s.dispatcher) (engine : t.engine.combine = s.engine.combine) (units : t.units = s.units)
    (was : inFlight (s.ctx e).state = false) (is : inFlight c.state = false)
    (set : c.units = (s.ctx e).units ∨ c.units = UnitSet.none) : EntryMove s t e c := by
  obtain ⟨wasCombining, wasQueued, wasDecoding⟩ := ne_of_inFlight was
  obtain ⟨isCombining, isQueued, isDecoding⟩ := ne_of_inFlight is
  exact
    { ctx := ctx, key := key.imp id fun used => ⟨used.1, .inl used.2⟩, pool := pool, expiry := expiry
      queues := fun _ => ListMove.unqueued dispatcher wasQueued isQueued, owed := fun queued => absurd queued isQueued
      mode := DispatchMode.kept dispatcher, engine := .still engine wasCombining isCombining
      units := .still units wasDecoding isDecoding set }

/-- A combine ends, and its context leaves COMBINING for a state that is not QUEUED. -/
theorem EntryMove.of_combineEnd {k : Combine} (busy : s.engine.combine = some k) (ended : t.engine.combine = none)
    (was : (s.ctx k.entry).state = .combining) (is : inFlight c.state = false)
    (ctx : ∀ d, t.ctx d = if k.entry = d then c else s.ctx d)
    (key : c = Context.free ∨ c.state ≠ .free ∧ c.port = (s.ctx k.entry).port ∧ c.tag = (s.ctx k.entry).tag)
    (pool : PoolMove s.pool t.pool (s.ctx k.entry) c)
    (expiry : ListMove s.expiry.list t.expiry.list k.entry false c.state.expires)
    (dispatcher : t.dispatcher = s.dispatcher) (units : t.units = s.units) (set : c.units = UnitSet.none) :
    EntryMove s t k.entry c := by
  obtain ⟨isCombining, isQueued, isDecoding⟩ := ne_of_inFlight is
  exact
    { ctx := ctx, key := key.imp id fun used => ⟨used.1, .inl ⟨by rw [was]; decide, used.2⟩⟩, pool := pool
      expiry := by rw [was]; exact expiry
      queues := fun _ => ListMove.unqueued dispatcher (by rw [was]; decide) isQueued, owed := fun queued => absurd queued isQueued
      mode := DispatchMode.kept dispatcher, engine := .ends k busy rfl isCombining ended
      units := .still units (by rw [was]; decide) isDecoding (.inr set) }

/-- A decode ends, and its context leaves DECODING. -/
theorem EntryMove.of_decodeEnd {u : UnitId} {j : Job} (unit : s.units.job u = some j) (ended : t.units = s.units.clear u)
    (was : (s.ctx j.entry).state = .decoding) (is : inFlight c.state = false)
    (ctx : ∀ d, t.ctx d = if j.entry = d then c else s.ctx d)
    (key : c = Context.free ∨ c.state ≠ .free ∧ c.port = (s.ctx j.entry).port ∧ c.tag = (s.ctx j.entry).tag)
    (pool : PoolMove s.pool t.pool (s.ctx j.entry) c)
    (expiry : ListMove s.expiry.list t.expiry.list j.entry false c.state.expires)
    (dispatcher : t.dispatcher = s.dispatcher) (engine : t.engine = s.engine) (set : c.units = UnitSet.none) :
    EntryMove s t j.entry c := by
  obtain ⟨isCombining, isQueued, isDecoding⟩ := ne_of_inFlight is
  exact
    { ctx := ctx, key := key.imp id fun used => ⟨used.1, .inl ⟨by rw [was]; decide, used.2⟩⟩, pool := pool
      expiry := by rw [was]; exact expiry
      queues := fun _ => ListMove.unqueued dispatcher (by rw [was]; decide) isQueued, owed := fun queued => absurd queued isQueued
      mode := DispatchMode.kept dispatcher
      engine := .still (congrArg Engine.combine engine) (by rw [was]; decide) isCombining
      units := .ends u j unit rfl ended isDecoding set }

end

end

end Sys2Proof.Machine
end

section
/-! SUPPORT. The ends of a HELD context, of a tombstone and of a CLOSING context as changes of one entry (spec/01 R22, R23, R25, spec/02 R43 to R45, spec/06 R123, R124). -/

namespace Sys2Proof.Machine

section
variable {s t : State} {e : Entry} {c : Context}

/-- A HELD context leaves the expiry list and gives its pages back. -/
theorem EntryMove.of_held (held : (s.ctx e).state = .held) (ctx : ∀ d, t.ctx d = if e = d then c else s.ctx d)
    (is : c = Context.free ∨ c.state = .closing ∧ c.port = (s.ctx e).port ∧ c.tag = (s.ctx e).tag ∧ c.pages = [] ∧
      c.units = (s.ctx e).units)
    (pool : t.pool = s.pool.giveBack (s.ctx e).port (s.ctx e).pages (s.ctx e).pageCount)
    (expiry : t.expiry.list = s.expiry.list.erase e) (dispatcher : t.dispatcher = s.dispatcher)
    (engine : t.engine.combine = s.engine.combine) (units : t.units = s.units) : EntryMove s t e c := by
  have state : c.state = .free ∨ c.state = .closing := is.imp (fun free => by rw [free]; rfl) fun closing => closing.1
  have holdsNot : c.state.holdsPages = false := by rcases state with h | h <;> rw [h] <;> rfl
  have expiresNot : c.state.expires = false := by rcases state with h | h <;> rw [h] <;> rfl
  refine .of_idle ctx ?_ (.back [] (by rw [held]; rfl) holdsNot ?_ pool) ?_ dispatcher engine units (by rw [held]; rfl)
    (by rcases state with h | h <;> rw [h] <;> rfl) ?_
  · exact is.imp id fun closing => ⟨by rw [closing.1]; decide, by rw [held]; decide, closing.2.1, closing.2.2.1⟩
  · rcases is with rfl | closing
    · rfl
    · exact closing.2.2.2.1
  · rw [held, expiresNot]
    exact .leaves expiry
  · rcases is with rfl | closing
    · exact .inr rfl
    · exact .inl closing.2.2.2.2

/-- A SOLVED or CLOSING context, which holds no pages, becomes FREE. -/
theorem EntryMove.of_pageless (was : (s.ctx e).state = .solved ∨ (s.ctx e).state = .closing)
    (ctx : ∀ d, t.ctx d = if e = d then Context.free else s.ctx d) (pool : t.pool = s.pool)
    (expiry : t.expiry.list = if (s.ctx e).state = .solved then s.expiry.list.erase e else s.expiry.list)
    (dispatcher : t.dispatcher = s.dispatcher) (engine : t.engine.combine = s.engine.combine) (units : t.units = s.units) :
    EntryMove s t e Context.free := by
  refine .of_idle ctx (.inl rfl) (.none pool (by rcases was with h | h <;> rw [h] <;> rfl) rfl rfl) ?_ dispatcher engine
    units (by rcases was with h | h <;> rw [h] <;> rfl) rfl (.inr rfl)
  rcases was with h | h <;> rw [h] at expiry ⊢
  · exact .leaves expiry
  · exact .out expiry

/-! ### The operations -/

theorem State.endHeld_pool (held : (s.ctx e).state = .held) (k : NoticeKind) :
    (s.endHeld k e).pool = s.pool.giveBack (s.ctx e).port (s.ctx e).pages (s.ctx e).pageCount := by
  rw [State.endHeld, if_pos held]
  split <;> rfl

theorem State.endHeld_expiry (held : (s.ctx e).state = .held) (k : NoticeKind) :
    (s.endHeld k e).expiry.list = s.expiry.list.erase e := by
  rw [State.endHeld, if_pos held]
  split <;> rfl

/-- What the end of a HELD context leaves of it. -/
def State.heldEnd (s : State) (k : NoticeKind) (e : Entry) : Context :=
  if (s.port (s.ctx e).port).room then Context.free else (s.ctx e).closing k

theorem State.heldEnd_cases (s : State) (k : NoticeKind) (e : Entry) :
    s.heldEnd k e = Context.free ∨ s.heldEnd k e = (s.ctx e).closing k := by
  rw [State.heldEnd]
  split
  · exact .inl rfl
  · exact .inr rfl

theorem State.endHeld_move (held : (s.ctx e).state = .held) (k : NoticeKind) :
    EntryMove s (s.endHeld k e) e (s.heldEnd k e) := by
  refine .of_held held (fun d => ?_) ?_ (State.endHeld_pool held k) (State.endHeld_expiry held k)
    (s.endHeld_dispatcher k e) (by rw [State.endHeld_engine]) (s.endHeld_units k e)
  · rw [State.endHeld_ctx, State.heldEnd]
    simp only [held, and_true]
  · refine (s.heldEnd_cases k e).imp id fun closing => ?_
    rw [closing]
    exact ⟨rfl, rfl, rfl, rfl, rfl⟩

theorem State.endTombstone_move (solved : (s.ctx e).state = .solved) : EntryMove s (s.endTombstone e) e Context.free := by
  have same : s.endTombstone e = (s.expiryRemove e).freeContext e := by rw [State.endTombstone, if_pos solved]
  refine .of_pageless (.inl solved) (fun d => ?_) ?_ ?_ ?_ ?_ ?_
  · rw [State.endTombstone_ctx]
    simp only [solved, and_true]
  · rw [same]
    rfl
  · rw [same, if_pos solved]
    rfl
  · rw [same]
    rfl
  · rw [same]
    rfl
  · rw [same]
    rfl

/-- A pop ends the oldest CLOSING context, or touches the port only. -/
theorem State.popAnswer_move (s : State) (p : PortId) :
    Still s (s.popAnswer p) ∨ ∃ e, (s.ctx e).state = .closing ∧ EntryMove s (s.popAnswer p) e Context.free := by
  have engine : (s.popAnswer p).engine.combine = s.engine.combine := by rw [State.popAnswer_engine]
  have list : (s.popAnswer p).expiry.list = s.expiry.list := by rw [State.popAnswer_expiry]
  by_cases pops : ∃ e, (s.port p).closing.head? = some e ∧ (s.ctx e).state = .closing
  · obtain ⟨e, oldest, closing⟩ := pops
    refine .inr ⟨e, closing, .of_pageless (.inr closing) (fun d => ?_) (s.popAnswer_pool p) ?_ (s.popAnswer_dispatcher p)
      engine (s.popAnswer_units p)⟩
    · rw [State.popAnswer_ctx, oldest]
      by_cases here : e = d
      · subst here
        rw [if_pos ⟨rfl, closing⟩, if_pos rfl]
      · rw [if_neg fun both => here (Option.some.inj both.1), if_neg here]
    · rw [list, closing]
      rfl
  · refine .inl (.of_eq (State.contexts_ext fun d => ?_) (s.popAnswer_pool p) list (s.popAnswer_dispatcher p) engine
      (s.popAnswer_units p))
    rw [State.popAnswer_ctx, if_neg fun both => pops ⟨d, both⟩]

/-! ### Evictions -/

theorem State.endHeld_chain (s : State) (k : NoticeKind) (e : Entry) : Chain s (s.endHeld k e) := by
  by_cases held : (s.ctx e).state = .held
  · exact (State.endHeld_move held k).chain
  · rw [State.endHeld, if_neg held]

theorem State.endTombstone_chain (s : State) (e : Entry) : Chain s (s.endTombstone e) := by
  by_cases solved : (s.ctx e).state = .solved
  · exact (State.endTombstone_move solved).chain
  · rw [State.endTombstone, if_neg solved]

theorem State.popAnswer_chain (s : State) (p : PortId) : Chain s (s.popAnswer p) := by
  rcases s.popAnswer_move p with h | ⟨e, -, h⟩
  · exact h.chain
  · exact h.chain

theorem Still.setCounters (s : State) (p : PortId) (k : Counters) : Still s (s.setCounters p k) :=
  .of_eq rfl rfl rfl rfl rfl rfl

end

end Sys2Proof.Machine
end

section
/-! SUPPORT. The intake, the releases and the port life cycle as chains of moves (spec/01 R24 to R26, spec/04 R74, R84, spec/07 R137 to R144, spec/09 R177 to R183). -/

namespace Sys2Proof.Machine

section
variable {s t : State} {e : Entry} {c : Context}

/-! ### A context leaves its dispatch queue (R74, R84) -/

theorem State.dispatchRemove_queue (s : State) (p r : PortId) (e : Entry) :
    (s.dispatchRemove p e).dispatchQueue r = if p = r then (s.dispatchQueue p).erase e else s.dispatchQueue r := by
  have queue : (s.dispatchRemove p e).dispatchQueue r =
      (s.setDispatchQueue p ((s.dispatchQueue p).erase e)).dispatchQueue r := by
    rw [State.dispatchRemove]
    split <;> rfl
  rw [queue]
  split
  · next here => rw [← here, State.setDispatchQueue_same]
  · next other => rw [State.setDispatchQueue_other _ _ _ _ other]

theorem State.dispatchRemove_mode (s : State) (p : PortId) (e : Entry) :
    (s.dispatchRemove p e).dispatcher.mode =
      if (s.dispatchQueue p).head? = some e then s.dispatcher.mode.afterHead p else s.dispatcher.mode := by
  rw [State.dispatchRemove]
  split <;> rfl

theorem DispatchMode.afterHead_eq_pairWait {p r : PortId} {m : DispatchMode} (waits : m.afterHead p = .pairWait r) :
    m = .pairWait r ∧ p ≠ r := by
  rw [DispatchMode.afterHead] at waits
  split at waits
  · cases waits
  · next other => exact ⟨waits, fun here => other (here ▸ waits)⟩

/-- A PAIR_WAIT that stays has its head still. -/
theorem State.dispatchRemove_waits (s : State) (p : PortId) (e : Entry) (r : PortId)
    (waits : (s.dispatchRemove p e).dispatcher.mode = .pairWait r) :
    s.dispatcher.mode = .pairWait r ∧ (s.dispatchQueue r ≠ [] → (s.dispatchRemove p e).dispatchQueue r ≠ []) := by
  rw [State.dispatchRemove_mode] at waits
  rw [State.dispatchRemove_queue]
  split at waits
  · obtain ⟨waited, other⟩ := DispatchMode.afterHead_eq_pairWait waits
    rw [if_neg other]
    exact ⟨waited, id⟩
  · next head =>
    refine ⟨waits, fun some => ?_⟩
    split
    · next here =>
      subst here
      cases queue : s.dispatchQueue p with
      | nil => exact absurd queue some
      | cons d rest =>
        rw [queue, List.head?_cons] at head
        rw [List.erase_cons_tail (by simpa using fun same => head (congrArg _ same))]
        exact List.cons_ne_nil _ _
    · exact some

theorem ListMove.dispatchRemove (queued : (s.ctx e).state = .queued) (is : c.state ≠ .queued) (p : PortId) :
    ListMove (s.dispatchQueue p) ((s.dispatchRemove (s.ctx e).port e).dispatchQueue p) e ((s.ctx e).queuedFor p)
      (c.queuedFor p) := by
  rw [Context.queuedFor_of_ne is, Context.queuedFor, queued, State.dispatchRemove_queue]
  by_cases here : (s.ctx e).port = p
  · subst here
    rw [if_pos rfl, beq_self_eq_true, beq_self_eq_true]
    exact .leaves rfl
  · rw [if_neg here, beq_eq_false_iff_ne.2 here]
    exact .out rfl

/-! ### A release is asked for (R26) -/

/-- A release waits for the end of a combine or a decode. -/
theorem EntryMove.of_releasePending (k : Cookie) (shared : inSharedBlock (s.ctx e).state = true)
    (units : t.units = s.units ∨ (s.ctx e).state = .decoding ∧ UnitsKeep s.units t.units)
    (ctx : ∀ d, t.ctx d = if e = d then { s.ctx e with releasePending := some k } else s.ctx d)
    (pool : t.pool = s.pool) (expiry : t.expiry.list = s.expiry.list) (dispatcher : t.dispatcher = s.dispatcher)
    (engine : t.engine.combine = s.engine.combine) : EntryMove s t e { s.ctx e with releasePending := some k } := by
  have used : (s.ctx e).state ≠ .free ∧ (s.ctx e).state ≠ .queued := by
    rcases (inSharedBlock_iff _).1 shared with h | h <;> rw [h] <;> decide
  refine
    { ctx := ctx, key := .inr ⟨used.1, .inl ⟨used.1, rfl, rfl⟩⟩, pool := .keeps pool rfl rfl rfl rfl
      expiry := .same expiry rfl, queues := fun _ => ListMove.unqueued dispatcher used.2 used.2
      owed := fun queued => absurd queued used.2, mode := DispatchMode.kept dispatcher, engine := ?_, units := ?_ }
  · rcases (inSharedBlock_iff _).1 shared with combining | decoding
    · exact .keeps engine combining combining rfl rfl
    · exact .still engine (by rw [decoding]; decide) (by rw [decoding]; decide)
  · rcases (inSharedBlock_iff _).1 shared with combining | decoding
    · rcases units with same | ⟨decoding, -⟩
      · exact .still same (by rw [combining]; decide) (by rw [combining]; decide) (.inl rfl)
      · rw [combining] at decoding
        cases decoding
    · exact .keeps (units.elim (fun same => same ▸ .refl _) fun keep => keep.2) decoding decoding rfl rfl rfl

/-- A QUEUED context is released. -/
theorem EntryMove.of_queuedReleased (queued : (s.ctx e).state = .queued)
    (ctx : ∀ d, t.ctx d = if e = d then Context.free else s.ctx d)
    (pool : t.pool = s.pool.giveBack (s.ctx e).port (s.ctx e).pages (s.ctx e).pageCount)
    (expiry : t.expiry.list = s.expiry.list) (dispatcher : t.dispatcher = (s.dispatchRemove (s.ctx e).port e).dispatcher)
    (engine : t.engine.combine = s.engine.combine) (units : t.units = s.units) : EntryMove s t e Context.free where
  ctx := ctx
  key := .inl rfl
  pool := .back [] (by rw [queued]; rfl) rfl rfl pool
  expiry := .same expiry (by rw [queued]; rfl)
  queues _ p := by
    rw [State.dispatchQueue_congr dispatcher]
    exact .dispatchRemove queued (by decide) p
  owed free := nomatch free
  mode p waits := by
    rw [State.dispatchQueue_congr dispatcher]
    exact s.dispatchRemove_waits (s.ctx e).port e p (dispatcher ▸ waits)
  engine := .still engine (by rw [queued]; decide) (by decide)
  units := .still units (by rw [queued]; decide) (by decide) (.inr rfl)

theorem UnitsKeep.abandonEntry (s : State) (e : Entry) : UnitsKeep s.units (s.abandonEntry e).units :=
  .of_map _ fun j => by split <;> rfl

theorem UnitsKeep.abandonPort (s : State) (p : PortId) : UnitsKeep s.units (s.abandonPort p).units :=
  .of_map _ fun j => by split <;> rfl

theorem State.release?_chain {p : PortId} {d : Descriptor} (taken : s.release? p d = some t) : Chain s t := by
  unfold State.release? at taken
  cases found : s.lookup p d.tag with
  | none =>
    rw [found] at taken
    cases taken
    exact Still.chain (.of_eq rfl rfl rfl rfl rfl rfl)
  | some e =>
    obtain ⟨-, port, -⟩ := State.hasKey_of_lookup found
    rw [found] at taken
    cases state : (s.ctx e).state with
    | free | closing => simp [state] at taken
    | held =>
      simp only [state, Option.some.injEq] at taken
      subst taken
      exact EntryMove.chain (.of_held state (fun d => State.releasePages_ctx _ e d) (.inl rfl) rfl rfl rfl rfl rfl)
    | solved =>
      simp only [state, Option.some.injEq] at taken
      subst taken
      exact EntryMove.chain (.of_pageless (.inl state) (fun d => State.freeContext_ctx _ e d) rfl (by rw [state]; rfl) rfl
        rfl rfl)
    | queued =>
      simp only [state, Option.some.injEq] at taken
      subst taken port
      refine (EntryMove.of_queuedReleased state (fun d => ?_) ?_ ?_ ?_ ?_ ?_).chain
      · simp [State.releasePages_ctx]
      · simp [State.releasePages, State.giveBack]
      · simp
      · simp
      · simp
      · simp
    | combining =>
      simp only [state] at taken
      cases pending : (s.ctx e).releasePending with
      | some k => simp [pending] at taken
      | none =>
        simp only [pending, Option.some.injEq] at taken
        subst taken
        rw [← state]
        exact EntryMove.chain (.of_releasePending d.cookie (by rw [state]; rfl) (.inl rfl)
          (fun d => State.setCtx_ctx s e d _) rfl rfl rfl rfl)
    | decoding =>
      simp only [state] at taken
      cases pending : (s.ctx e).releasePending with
      | some k => simp [pending] at taken
      | none =>
        simp only [pending, Option.some.injEq] at taken
        subst taken
        rw [← state]
        exact EntryMove.chain (.of_releasePending d.cookie (by rw [state]; rfl) (.inr ⟨state, .abandonEntry _ e⟩)
          (fun d => State.setCtx_ctx s e d _) rfl rfl rfl rfl)

/-! ### The intake -/

theorem Still.onPort (s : State) (p : PortId) (f : Port → Port) : Still s (s.onPort p f) :=
  .of_eq rfl rfl rfl rfl rfl rfl

theorem State.handRelease_chain (s : State) (p : PortId) (d : Descriptor) : Chain s (s.handRelease p d) := by
  have reserved : Chain s (if (s.port p).headReserved then s else s.reserve p) := by
    split
    · exact .refl
    · exact (Still.onPort s p _).chain
  rw [State.handRelease]
  split
  · next u taken => exact (reserved.trans (State.release?_chain taken)).trans (Still.onPort u p _).chain
  · exact reserved.trans ((Still.onPort _ p _).trans (Still.onPort _ p _)).chain

theorem Still.tryAttempt (s : State) (p : PortId) (x : QueueEntry) : Still s (s.tryAttempt p x) := by
  rw [State.tryAttempt]
  split
  · rw [State.refuseHead]
    split <;> exact .of_eq rfl rfl rfl rfl rfl rfl
  · split <;> exact .of_eq rfl rfl rfl rfl rfl rfl

theorem State.tryHead_chain (s : State) (p : PortId) (x : QueueEntry) : Chain s (s.tryHead p x) := by
  have stall (i : IntakeState) : Chain s (s.stall p i) := (Still.onPort s p _).chain
  rw [State.tryHead]
  split
  · exact stall _
  · split
    · exact (Still.tryAttempt s p x).chain
    · exact (Still.tryAttempt s p x).chain
    · split
      · exact stall _
      · exact s.handRelease_chain p x.descriptor
    · split
      · exact stall _
      · exact (Still.of_eq rfl rfl rfl rfl rfl rfl : Still s (s.handQuery p x.descriptor)).chain

/-! ### The port life cycle -/

theorem Sweep.closeDrain (s : State) (p : PortId) : Sweep s (s.closeDrain p) p endedAtClose where
  spares := ⟨rfl, rfl⟩
  ctx := s.closeDrain_ctx p
  pool := rfl
  expiry := rfl
  queues r := by
    rw [if_neg fun both => Bool.false_ne_true both.1]
    rfl
  mode r waits := ⟨waits, fun both => Bool.false_ne_true both.1⟩
  engine := rfl
  units := .refl _

theorem Still.endReset (s : State) (p : PortId) (target : ResetTarget) : Still s (s.endReset p target) := by
  cases target <;> exact .of_eq rfl rfl rfl rfl rfl rfl

theorem State.settle_chain (s : State) (p : PortId) : Chain s (s.settle p) := by
  rw [State.settle]
  split
  · exact .refl
  · exact .refl
  · split
    · exact (Sweep.closeDrain s p).chain
    · exact .refl
  · split
    · exact .refl
    · exact (Still.endReset s p _).chain

theorem Combine.requestAbort_owner (p : PortId) (k : Combine) : (k.requestAbort p).owner = k.owner := by
  rw [Combine.requestAbort]
  split <;> rfl

theorem Sweep.resetBegun (s : State) (p : PortId) (target : ResetTarget) :
    Sweep s (s.resetBegun p target) p endedAtReset where
  spares := ⟨rfl, rfl⟩
  ctx := s.resetBegun_ctx p target
  pool := rfl
  expiry := rfl
  queues r := by
    obtain ⟨own, others⟩ := (s.resetBegun_event p target).queue
    split
    · next here => exact here.2 ▸ own
    · next other => exact others r fun h => other ⟨rfl, h.symm⟩
  mode r waits := by
    obtain ⟨waited, other⟩ := DispatchMode.afterHead_eq_pairWait (show s.dispatcher.mode.afterHead p = _ from waits)
    exact ⟨waited, fun both => other both.2⟩
  engine := by
    show (s.engine.combine.map (·.requestAbort p)).map Combine.owner = _
    rw [Option.map_map]
    congr 1
    exact funext fun k => k.requestAbort_owner p
  units := .abandonPort _ p

theorem State.startReset_chain (s : State) (p : PortId) (target : ResetTarget) : Chain s (s.startReset p target) := by
  rw [State.startReset_eq]
  exact (Sweep.resetBegun s p target).chain.trans (State.settle_chain _ p)

theorem State.portReset_chain {p : PortId} (start : s.portReset p = some t) : Chain s t := by
  rw [State.portReset] at start
  split at start
  · cases start
    exact s.startReset_chain p _
  · cases start
    exact s.startReset_chain p _
  · cases start
  · cases start

end

end Sys2Proof.Machine
end

section
/-! SUPPORT. The selection of an attempt and its admission as chains of moves (spec/01 R11 to R14, spec/02 R42 to R45, spec/03 R53 to R57). -/

namespace Sys2Proof.Machine

section
variable {s t : State} {e : Entry} {c : Context} {p : PortId} {r : Request}

/-! ### The combine record that an admission fills -/

theorem Combine.beginReads_owner (L : Nat) (pages : List Page) (fuel : Nat) (k : Combine) :
    (k.beginReads L pages fuel).owner = k.owner := by
  induction fuel generalizing k with
  | zero => rfl
  | succ fuel ih =>
    rw [Combine.beginReads]
    split
    · rfl
    · split
      · rfl
      · split
        · exact ih _
        · rfl

theorem State.beginCombine_combine (s : State) (p : PortId) (e : Entry) (r : Request) (fresh : Bool) :
    ∃ k, (s.beginCombine p e r fresh).engine.combine = some k ∧ k.owner = (p, e, r.action) := by
  refine ⟨_, rfl, ?_⟩
  split
  · rfl
  · exact Combine.beginReads_owner _ _ _ _

theorem Request.pending_isSome (r : Request) (decode : r.action = .decode) : r.pending.isSome := by
  rw [Request.pending, decode]
  rfl

/-- The engine takes an attempt whose context becomes COMBINING. -/
theorem EngineMove.of_beginCombine {x : Context} {fresh : Bool} {u : State} (idle : s.engine.combine = none)
    (state : c.state = .combining) (port : c.port = p) (owed : r.action = .decode → c.pendingDecode.isSome) :
    EngineMove s.engine.combine (u.beginCombine p e r fresh).engine.combine e x c := by
  obtain ⟨k, busy, owner⟩ := u.beginCombine_combine p e r fresh
  have action : k.action = r.action := congrArg (·.2.2) owner
  exact .begins k idle busy state (by rw [owner, port, action]) fun decode => owed (action ▸ decode)

/-! ### The three ways to be admitted -/

theorem State.continueHeld_move (idle : s.engine.combine = none) (held : (s.ctx e).state = .held)
    (port : (s.ctx e).port = p) :
    EntryMove s (s.continueHeld p e r) e
      { (s.ctx e).admitted r.attempt with deadline := 0, pendingDecode := r.pending } where
  ctx d := State.setCtx_ctx _ e d _
  key := .inr ⟨nofun, .inl ⟨by rw [held]; decide, rfl, rfl⟩⟩
  pool := .keeps rfl rfl rfl rfl (by rw [held]; rfl)
  expiry := by
    rw [held]
    exact .leaves rfl
  queues _ := ListMove.unqueued rfl (by rw [held]; decide) nofun
  owed combining := nomatch combining
  mode := DispatchMode.kept rfl
  engine := .of_beginCombine idle rfl port r.pending_isSome
  units := .still rfl (by rw [held]; decide) nofun (.inl rfl)

/-- What a merge leaves of the context (R13). -/
def mergedContext (r : Request) (c : Context) : Context :=
  { c.admitted r.attempt with pendingDecode := mergedPending r c }

theorem State.mergeQueued_context (s : State) (p : PortId) (e : Entry) (r : Request) :
    s.mergeQueued p e r = (((s.dispatchRemove p e).supersede p (s.ctx e) r).setCtx e
      (mergedContext r (s.ctx e))).beginCombine p e r false := by
  cases action : r.action <;>
    simp only [State.mergeQueued, mergedContext, mergedPending, Request.pending, action]

theorem mergedContext_pending (r : Request) (c : Context) (decode : r.action = .decode) :
    (mergedContext r c).pendingDecode.isSome := by
  rw [mergedContext, mergedPending, decode]
  exact r.pending_isSome decode

/-- SUPERSEDED goes to the context's port, or nothing does. -/
theorem State.supersede_eq (s : State) (p : PortId) (c : Context) (r : Request) :
    ∃ as, s.supersede p c r = s.setPort p ((s.port p).answered as) := by
  have none : s = s.setPort p ((s.port p).answered []) := by rw [Port.answered_nil, State.setPort_self]
  rw [State.supersede]
  split
  · exact ⟨_, rfl⟩
  · exact ⟨[], none⟩
  · exact ⟨[], none⟩

theorem State.mergeQueued_move (idle : s.engine.combine = none) (queued : (s.ctx e).state = .queued)
    (port : (s.ctx e).port = p) : EntryMove s (s.mergeQueued p e r) e (mergedContext r (s.ctx e)) := by
  subst port
  obtain ⟨as, superseded⟩ := (s.dispatchRemove (s.ctx e).port e).supersede_eq (s.ctx e).port (s.ctx e) r
  rw [State.mergeQueued_context, superseded]
  have same (q : Port) : ((((s.dispatchRemove (s.ctx e).port e).setPort (s.ctx e).port q).setCtx e
      (mergedContext r (s.ctx e))).beginCombine (s.ctx e).port e r false).dispatcher =
      (s.dispatchRemove (s.ctx e).port e).dispatcher := rfl
  exact
    { ctx := fun d => by simp [State.setCtx_ctx]
      key := .inr ⟨nofun, .inl ⟨by rw [queued]; decide, rfl, rfl⟩⟩
      pool := .keeps (by simp) rfl rfl rfl (by rw [queued]; rfl)
      expiry := .same (by simp) (by rw [queued]; rfl)
      queues := fun _ q => by
        rw [State.dispatchQueue_congr (same _)]
        exact .dispatchRemove (c := mergedContext r (s.ctx e)) queued nofun q
      owed := fun combining => nomatch combining
      mode := fun q waits => by
        rw [State.dispatchQueue_congr (same _)]
        exact s.dispatchRemove_waits (s.ctx e).port e q (same _ ▸ waits)
      engine := .of_beginCombine idle rfl rfl (mergedContext_pending r _)
      units := .still (by simp) (by rw [queued]; decide) nofun (.inl rfl) }

theorem State.freeEntry?_free (found : s.freeEntry? = some e) : (s.ctx e).state = .free :=
  beq_iff_eq.1 (List.find?_some (p := fun e => (s.ctx e).state == .free) found)

theorem State.grants_le {n : Nat} (granted : s.grants p n = true) : n ≤ s.pool.freeList.length := by
  rw [State.grants, State.grantOk, Bool.and_eq_true, Bool.and_eq_true, decide_eq_true_iff] at granted
  exact granted.1.1

/-- A New attempt opens a FREE entry. -/
theorem State.open_move {g : GeometryEntry} (idle : s.engine.combine = none) (new : ∀ d, ¬ s.hasKey d p r.tag)
    (free : (s.ctx e).state = .free) (enough : pagesFor (recordLength g.K) ≤ s.pool.freeList.length) :
    EntryMove s (((s.setPool (s.pool.take p (pagesFor (recordLength g.K)))).setCtx e
        (newContext p r g (s.pool.freeList.take (pagesFor (recordLength g.K))))).beginCombine p e r true) e
      (newContext p r g (s.pool.freeList.take (pagesFor (recordLength g.K)))) where
  ctx d := State.setCtx_ctx _ e d _
  key := .inr ⟨nofun, .inr ⟨free, new⟩⟩
  pool := .takes free (by rw [newContext]; rfl) enough rfl rfl
  expiry := .same rfl (by rw [free]; rfl)
  queues _ := ListMove.unqueued rfl (by rw [free]; decide) nofun
  owed combining := nomatch combining
  mode := DispatchMode.kept rfl
  engine := .of_beginCombine idle rfl rfl r.pending_isSome
  units := .still rfl (by rw [free]; decide) nofun (.inr rfl)

/-! ### The evictions before an admission -/

/-- What each eviction keeps, the relief of a shortage of entries and of pages keeps. -/
theorem State.relief_induction {P : State → Prop} (p : PortId)
    (held : ∀ s e, P s → P ((s.endHeld .evicted e).countEviction p)) (tombstone : ∀ s e, P s → P (s.endTombstone e))
    (n : Nat) (s : State) (h : P s) : P (s.relieveEntries p) ∧ P (s.relievePages p n) := by
  have tombstones (es : List Entry) : ∀ s, P s → P (s.evictTombstones p es) := by
    induction es with
    | nil => exact fun _ h => h
    | cons e es ih =>
      intro s h
      rw [State.evictTombstones]
      split
      · exact h
      · exact ih _ (tombstone s e h)
  have pages (es : List Entry) : ∀ s, P s → P (s.evictForPages p n es) := by
    induction es with
    | nil => exact fun _ h => h
    | cons e es ih =>
      intro s h
      rw [State.evictForPages]
      split
      · exact h
      · exact ih _ (held s e h)
  rw [State.relieveEntries, State.relievePages]
  split
  · exact ⟨h, h⟩
  · refine ⟨State.evictForEntry_induction p held _ _ (tombstones _ s h), ?_⟩
    split
    · exact pages _ s h
    · exact h

/-- A New attempt of a key may still be admitted, after a chain of evictions. -/
structure Admits (s : State) (p : PortId) (tag : Tag) (t : State) : Prop where
  chain : Chain s t
  idle : t.engine.combine = none
  new : ∀ d, ¬ t.hasKey d p tag

theorem EntryMove.admits {tag : Tag} (h : Admits s p tag t) {u : State} (move : EntryMove t u e c)
    (key : c = Context.free ∨ c.port = (t.ctx e).port ∧ c.tag = (t.ctx e).tag) (used : (t.ctx e).state ≠ .free)
    (engine : u.engine = t.engine) : Admits s p tag u where
  chain := h.chain.trans move.chain
  idle := engine ▸ h.idle
  new d has := by
    rcases eq_or_ne e d with rfl | other
    · obtain ⟨state, port, same⟩ := has
      rw [move.here] at state port same
      rcases key with rfl | ⟨samePort, sameTag⟩
      · exact state rfl
      · exact h.new e ⟨used, samePort ▸ port, sameTag ▸ same⟩
    · rw [State.hasKey, move.other other] at has
      exact h.new d has

theorem Admits.endHeld {tag : Tag} (h : Admits s p tag t) (k : NoticeKind) (e : Entry) :
    Admits s p tag (t.endHeld k e) := by
  by_cases held : (t.ctx e).state = .held
  · refine (State.endHeld_move held k).admits h ((t.heldEnd_cases k e).imp id fun closing => ?_) (by rw [held]; decide)
      (t.endHeld_engine k e)
    rw [closing]
    exact ⟨rfl, rfl⟩
  · rw [State.endHeld, if_neg held]
    exact h

theorem Admits.endTombstone {tag : Tag} (h : Admits s p tag t) (e : Entry) : Admits s p tag (t.endTombstone e) := by
  by_cases solved : (t.ctx e).state = .solved
  · exact (State.endTombstone_move solved).admits h (.inl rfl) (by rw [solved]; decide) (t.endTombstone_engine e)
  · rw [State.endTombstone, if_neg solved]
    exact h

theorem Admits.countEviction {tag : Tag} (h : Admits s p tag t) : Admits s p tag (t.countEviction p) where
  chain := h.chain.trans (Still.setCounters t p _).chain
  idle := h.idle
  new := h.new

theorem Admits.relief {tag : Tag} (h : Admits s p tag t) (n : Nat) :
    Admits s p tag (t.relieveEntries p) ∧ Admits s p tag (t.relievePages p n) :=
  State.relief_induction p (fun _ e h => (h.endHeld .evicted e).countEviction) (fun _ e h => h.endTombstone e) n t h

/-! ### The selection -/

theorem Still.answerUncombined (s : State) (p : PortId) (r : Request) (body : AnswerBody) :
    Still s (s.answerUncombined p r body) := .of_eq rfl rfl rfl rfl rfl rfl

theorem Still.refuseUncombined (s : State) (p : PortId) (r : Request) (why : RefusalReason) :
    Still s (s.refuseUncombined p r why) := .of_eq rfl rfl rfl rfl rfl rfl

theorem Admits.openWithPages (h : Admits s p r.tag t) (g : GeometryEntry) : Chain s (t.openWithPages p r g) := by
  rw [State.openWithPages]
  have relieved : Admits s p r.tag (if t.grants p (pagesFor (recordLength g.K)) then t
      else t.relievePages p (pagesFor (recordLength g.K))) := by
    split
    · exact h
    · exact (h.relief _).2
  generalize (if t.grants p (pagesFor (recordLength g.K)) then t
    else t.relievePages p (pagesFor (recordLength g.K))) = u at relieved ⊢
  split
  · next granted =>
    split
    · exact relieved.chain.trans (Still.refuseUncombined u p r _).chain
    · next e found =>
      exact relieved.chain.trans
        (State.open_move relieved.idle relieved.new (State.freeEntry?_free found) (State.grants_le granted)).chain
  · exact relieved.chain.trans (Still.refuseUncombined u p r _).chain

theorem Admits.openNew (h : Admits s p r.tag t) : Chain s (t.openNew p r) := by
  rw [State.openNew]
  split
  · exact h.chain.trans (Still.refuseUncombined t p r _).chain
  · have relieved : Admits s p r.tag (if t.entryAvailable p then t else t.relieveEntries p) := by
      split
      · exact h
      · exact (h.relief 0).1
    dsimp only
    generalize (if t.entryAvailable p then t else t.relieveEntries p) = u at relieved ⊢
    split
    · exact relieved.openWithPages _
    · exact relieved.chain.trans (Still.refuseUncombined u p r _).chain

theorem State.admitAttempt_chain (idle : s.engine.combine = none) (p : PortId) (r : Request) :
    Chain s (s.admitAttempt p r) := by
  rw [State.admitAttempt]
  split
  · next unknown => exact Admits.openNew ⟨.refl, idle, (s.lookup_eq_none p r.tag).1 unknown⟩
  · next e found =>
    obtain ⟨-, port, -⟩ := State.hasKey_of_lookup found
    dsimp only
    split
    · exact (Still.refuseUncombined s p r _).chain
    · split
      · exact (Still.answerUncombined s p r _).chain
      · next held =>
        split
        · exact (Still.answerUncombined s p r _).chain
        · exact (State.continueHeld_move idle held port).chain
      · next queued =>
        split
        · exact (Still.answerUncombined s p r _).chain
        · exact (State.mergeQueued_move idle queued port).chain
      · exact .refl
      · exact .refl
      · exact .refl
      · exact .refl

theorem Still.scanSlots (ps : List PortId) (s : State) :
    Still s (State.scanSlots ps s).1 ∧ (State.scanSlots ps s).1.engine = s.engine := by
  induction ps generalizing s with
  | nil => exact ⟨.refl s, rfl⟩
  | cons p ps ih =>
    rw [State.scanSlots]
    split
    · exact ih s
    · exact ih s
    · split
      · obtain ⟨still, engine⟩ := ih (s.onPort p fun q => { q with slot := .keyWait _ })
        exact ⟨(Still.onPort s p _).trans still, engine⟩
      · exact ⟨.refl s, rfl⟩

theorem execCombineSelection_chain (run : execCombineSelection s = .next t) : Chain s t := by
  rw [execCombineSelection] at run
  split at run
  · cases run
    exact .refl
  · next idle =>
    obtain ⟨still, engine⟩ := Still.scanSlots (scanOrder s.engine.pointer) s
    split at run
    · next scanned =>
      cases run
      rw [scanned] at still
      exact still.chain
    · next u p r scanned =>
      cases run
      rw [scanned] at still engine
      have taken : Still u (u.takeSlot p) := .of_eq rfl rfl rfl rfl rfl rfl
      have stillIdle : (u.takeSlot p).engine.combine = none := (congrArg Engine.combine engine).trans idle
      exact ((still.trans taken).chain.trans (State.admitAttempt_chain stillIdle p r)).trans (State.settle_chain _ p)

end

end Sys2Proof.Machine
end

section
/-! SUPPORT. The page work and the ends of a combine as moves (spec/01 R15 to R17, R24, spec/03 R61 to R71). -/

namespace Sys2Proof.Machine

section
variable {s t u : State} {k : Combine} {x : Context}

/-! ### Page work -/

theorem Still.setCombine (h : Still s u) (busy : u.engine.combine = some k) {l : Combine} (owner : l.owner = k.owner) :
    Still s (u.setCombine (some l)) where
  ctx := h.ctx
  pool := h.pool
  expiry := h.expiry
  queues := h.queues
  mode := h.mode
  engine := by
    rw [← h.engine, busy]
    exact congrArg some owner
  units := h.units

theorem Still.setStore (s : State) (m : List Host.Cell) : Still s (s.setStore m) := .of_eq rfl rfl rfl rfl rfl rfl

theorem Combine.cleared_owner (L : Nat) (pages : List Page) (k : Combine) : (k.cleared L pages).owner = k.owner := by
  rw [Combine.cleared]
  dsimp only
  split
  · rfl
  · exact Combine.beginReads_owner _ _ _ _

theorem Combine.readEnded_owner (L : Nat) (pages : List Page) (passed : Bool) (pg : Page) (rest : List Page)
    (k : Combine) : (k.readEnded L pages passed pg rest).owner = k.owner := by
  rw [Combine.readEnded]
  dsimp only
  split
  · exact Combine.beginReads_owner _ _ _ _
  · rfl

theorem Combine.visited_owner (L : Nat) (pages : List Page) (v : Visit) (k : Combine) :
    (k.visited L pages v).owner = k.owner := Combine.beginReads_owner _ _ _ _

theorem execClearPageEnd_chain (run : execClearPageEnd s = .next t) : Chain s t := by
  obtain rfl | ⟨k, pg, busy, rfl⟩ := execClearPageEnd_cases run
  · exact .refl
  · exact Still.chain (.setCombine (.setStore s _) (by exact busy) (k.cleared_owner _ _))

theorem execVisitWriteEnd_chain (run : execVisitWriteEnd s = .next t) : Chain s t := by
  obtain rfl | ⟨k, v, pg, busy, -, rfl⟩ := execVisitWriteEnd_cases run
  · exact .refl
  · exact Still.chain (.setCombine (.setStore s _) (by exact busy) (k.visited_owner _ _ v))

theorem execCombinePageReadEnd_chain {passed : Bool} (run : execCombinePageReadEnd passed s = .next t) : Chain s t := by
  rw [execCombinePageReadEnd] at run
  split at run
  · cases run
    exact .refl
  · next k busy =>
    split at run
    · cases run
      exact .refl
    · cases run
      exact Still.chain (.setCombine (.refl s) busy (k.readEnded_owner _ _ _ _ _))

/-! ### Ends of a combine -/

/-- The context of a combine that ends is closed, the pages of a report retired. -/
theorem EntryMove.of_combineClosed {report : List Page} (busy : s.engine.combine = some k)
    (was : (s.ctx k.entry).state = .combining) (contexts : u.contexts = s.contexts) (pool : u.pool = s.pool)
    (expiry : u.expiry = s.expiry) (dispatcher : u.dispatcher = s.dispatcher) (units : u.units = s.units) :
    EntryMove s ((u.closeDamaged k.entry report).endCombine k) k.entry Context.free := by
  have ctx (d : Entry) : u.ctx d = s.ctx d := congrArg (·.get d) contexts
  refine .of_combineEnd busy rfl was rfl (fun d => ?_) (.inl rfl) (.back report (by rw [was]; rfl) rfl rfl ?_)
    (.out (congrArg ExpiryUnit.list expiry)) dispatcher units rfl
  · rw [State.endCombine_ctx, State.closeDamaged_ctx, ctx]
  · show (Pool.retireAll report (u.ctx k.entry).pages u.pool).2.giveBack (u.ctx k.entry).port
      (Pool.retireAll report (u.ctx k.entry).pages u.pool).1 (u.ctx k.entry).pageCount = _
    rw [pool, ctx]

/-- Pages given back without a report are pages given back. -/
theorem State.releasePages_eq_closeDamaged (s : State) (e : Entry) : s.releasePages e = s.closeDamaged e [] := rfl

/-- A context becomes QUEUED as its combine ends. -/
theorem EntryMove.of_combineQueued {d : PendingDecode} (busy : s.engine.combine = some k)
    (here : s.ctx k.entry = x) (was : x.state = .combining) (owed : x.pendingDecode = some d) (gap : Bool)
    (contexts : u.contexts = s.contexts) (pool : u.pool = s.pool) (expiry : u.expiry = s.expiry)
    (dispatcher : u.dispatcher = s.dispatcher) (units : u.units = s.units) :
    EntryMove s ((((u.setCtx k.entry { x with state := .queued, gap := gap }).dispatchAppend x.port k.entry).signal x.port
      x.tag).endCombine k) k.entry { x with state := .queued, gap := gap } := by
  subst here
  have ctx (d : Entry) : u.ctx d = s.ctx d := congrArg (·.get d) contexts
  have queue (p : PortId) : u.dispatchQueue p = s.dispatchQueue p := State.dispatchQueue_congr dispatcher p
  have queues (p : PortId) : (((((u.setCtx k.entry { s.ctx k.entry with state := .queued, gap := gap }).dispatchAppend
      (s.ctx k.entry).port k.entry).signal (s.ctx k.entry).port (s.ctx k.entry).tag).endCombine k).dispatchQueue p) =
      if (s.ctx k.entry).port = p then s.dispatchQueue p ++ [k.entry] else s.dispatchQueue p := by
    rw [State.endCombine_dispatchQueue]
    split
    · next own =>
      subst own
      rw [← queue]
      exact State.setDispatchQueue_same _ _ _
    · next other =>
      rw [← queue]
      exact State.setDispatchQueue_other _ _ _ _ other
  exact
    { ctx := fun d => by
        rw [← ctx d]
        exact State.setCtx_ctx u k.entry d _
      key := .inr ⟨nofun, .inl ⟨by rw [was]; decide, rfl, rfl⟩⟩
      pool := .keeps pool rfl rfl rfl (by rw [was]; rfl)
      expiry := .same (congrArg ExpiryUnit.list expiry) (by rw [was]; rfl)
      queues := fun _ p => by
        rw [queues, Context.queuedFor_of_ne (by rw [was]; decide), Context.queuedFor, beq_self_eq_true, Bool.true_and]
        split
        · next own =>
          rw [beq_iff_eq.2 own]
          exact .joins (List.perm_append_singleton _ _)
        · next other =>
          rw [beq_eq_false_iff_ne.2 other]
          exact .out rfl
      owed := fun _ => by
        rw [owed]
        rfl
      mode := fun p waits => by
        refine ⟨dispatcher ▸ waits, fun some => ?_⟩
        rw [queues]
        split
        · exact List.append_ne_nil_of_left_ne_nil some _
        · exact some
      engine := .ends k busy rfl nofun rfl
      units := .still units (by rw [was]; decide) nofun (.inl rfl) }

/-- A list gains the entry it is inserted into. -/
theorem insertDue_perm (r : Entry → Int) (e : Entry) (l : List Entry) : (insertDue r e l).Perm (e :: l) := by
  induction l with
  | nil => exact .refl _
  | cons x xs ih =>
    rw [insertDue]
    split
    · exact (ih.cons x).trans (.swap e x xs)
    · exact .refl _

/-- A context becomes HELD as its combine ends. -/
theorem EntryMove.of_combineHeld (busy : s.engine.combine = some k) (was : (s.ctx k.entry).state = .combining)
    (contexts : u.contexts = s.contexts) (pool : u.pool = s.pool) (expiry : u.expiry = s.expiry)
    (dispatcher : u.dispatcher = s.dispatcher) (units : u.units = s.units) :
    EntryMove s (((u.enterHeld k.entry).signal (s.ctx k.entry).port (s.ctx k.entry).tag).endCombine k) k.entry
      ((u.enterHeld k.entry).ctx k.entry) := by
  have ctx (d : Entry) : u.ctx d = s.ctx d := congrArg (·.get d) contexts
  have held : (u.enterHeld k.entry).ctx k.entry = { s.ctx k.entry with
      state := .held, gap := false, units := UnitSet.none
      deadline := u.deadlineAfter (u.port (s.ctx k.entry).port).profile.holdLifetime } := by
    rw [State.enterHeld_ctx, if_pos rfl, ctx]
  refine .of_combineEnd busy rfl was (by rw [held]; rfl) (fun d => ?_) (.inr ?_) (.keeps pool ?_ ?_ ?_ ?_) ?_ dispatcher
    units (by rw [held])
  · rw [State.endCombine_ctx, show ∀ t : State, (t.signal (s.ctx k.entry).port (s.ctx k.entry).tag).ctx d = t.ctx d from
      fun _ => rfl, State.enterHeld_ctx]
    split
    · next here => rw [here, State.enterHeld_ctx, if_pos rfl]
    · exact ctx d
  · rw [held]
    exact ⟨nofun, rfl, rfl⟩
  · rw [held]
  · rw [held]
  · rw [held]
  · rw [held, was]
    rfl
  · rw [held]
    rw [← expiry]
    exact .joins (insertDue_perm _ _ _)

theorem State.leaveCombining_chain (busy : s.engine.combine = some k) (was : (s.ctx k.entry).state = .combining) :
    Chain s ((s.leaveCombining k (s.ctx k.entry)).endCombine k) := by
  rw [State.leaveCombining]
  split
  · rw [State.releasePages_eq_closeDamaged]
    exact EntryMove.chain (.of_combineClosed busy was (by simp) (by simp) (by simp) (by simp) (by simp))
  · next owed =>
    exact EntryMove.chain (.of_combineQueued busy rfl was owed _ (by simp) (by simp) (by simp) (by simp) (by simp))
  · exact EntryMove.chain (.of_combineHeld busy was (by simp) (by simp) (by simp) (by simp) (by simp))

theorem execCombineCompletion_chain (run : execCombineCompletion s = .next t) : Chain s t := by
  rw [execCombineCompletion] at run
  split at run
  · cases run
    exact .refl
  · next k busy =>
    split at run
    · next due =>
      cases run
      exact (State.leaveCombining_chain busy due.2.2.2).trans (State.settle_chain _ _)
    · cases run
      exact .refl

theorem execCombineDamage_chain (run : execCombineDamage s = .next t) : Chain s t := by
  rw [execCombineDamage] at run
  split at run
  · cases run
    exact .refl
  · next k busy =>
    dsimp only at run
    split at run
    · next due =>
      cases run
      refine Relation.ReflTransGen.trans (EntryMove.chain (.of_combineClosed busy due.2.2 ?_ ?_ ?_ ?_ ?_))
        (State.settle_chain _ _) <;> split <;> simp [State.answerCombineDamage_eq]
    · cases run
      exact .refl

theorem execCombineAbort_chain (run : execCombineAbort s = .next t) : Chain s t := by
  rw [execCombineAbort] at run
  split at run
  · cases run
    exact .refl
  · next k busy =>
    split at run
    · next due =>
      cases run
      rw [State.releasePages_eq_closeDamaged]
      exact (EntryMove.chain (.of_combineClosed busy due.2.2.2 rfl rfl rfl rfl rfl)).trans (State.settle_chain _ _)
    · cases run
      exact .refl

end

end Sys2Proof.Machine
end

section
/-! SUPPORT. The decodes and the dispatches as moves (spec/01 R18 to R21, spec/04 R77 to R83, spec/05 R92 to R112). -/

namespace Sys2Proof.Machine

section
variable {s t v : State} {u : UnitId} {j : Job}

/-! ### Page reads and passes -/

theorem Still.setJob (unit : s.units.job u = some j) {l : Job} (owner : l.owner = j.owner) :
    Still s (s.setUnits (s.units.setJob u l)) where
  ctx _ := rfl
  pool := rfl
  expiry := rfl
  queues _ := rfl
  mode _ waits := .inl waits
  engine := rfl
  units := .of_setJob unit owner

theorem Job.beginReads_owner (paired : Bool) (j : Job) : (j.beginReads paired).owner = j.owner := by
  rw [Job.beginReads]
  split <;> rfl

theorem Job.setReads_owner (part : Part) (r : Reads) (j : Job) : (j.setReads part r).owner = j.owner := by
  cases part <;> rfl

theorem Job.readEnded_owner (part : Part) (passed : Bool) (pg : Page) (rest : List Page) (j : Job) :
    (j.readEnded part passed pg rest).owner = j.owner := Job.setReads_owner _ _ _

theorem execDecodePageReadEnd_chain {passed : Bool} (run : execDecodePageReadEnd u passed s = .next t) : Chain s t := by
  rw [execDecodePageReadEnd] at run
  split at run
  · cases run
    exact .refl
  · next j unit =>
    split at run
    · cases run
      exact .refl
    · cases run
      exact (Still.setJob unit (j.readEnded_owner _ _ _ _)).chain

/-! ### Ends of a decode -/

/-- What the end of a decode has done before its context ends: the unit is IDLE, and answers may be posted. -/
structure State.DecodeFreed (s : State) (u : UnitId) (v : State) : Prop where
  contexts : v.contexts = s.contexts
  pool : v.pool = s.pool
  expiry : v.expiry = s.expiry
  dispatcher : v.dispatcher = s.dispatcher
  engine : v.engine = s.engine
  units : v.units = s.units.clear u

theorem State.DecodeFreed.ctx (h : s.DecodeFreed u v) (d : Entry) : v.ctx d = s.ctx d := congrArg (·.get d) h.contexts

/-- The context of a decode that ends is closed, the pages of a report retired. -/
theorem State.DecodeFreed.closed (h : s.DecodeFreed u v) (unit : s.units.job u = some j)
    (was : (s.ctx j.entry).state = .decoding) (report : List Page) :
    EntryMove s (v.closeDamaged j.entry report) j.entry Context.free := by
  refine .of_decodeEnd unit h.units was rfl (fun d => ?_) (.inl rfl) (.back report (by rw [was]; rfl) rfl rfl ?_)
    (.out (congrArg ExpiryUnit.list h.expiry)) h.dispatcher h.engine rfl
  · rw [State.closeDamaged_ctx, h.ctx]
  · show (Pool.retireAll report (v.ctx j.entry).pages v.pool).2.giveBack (v.ctx j.entry).port
      (Pool.retireAll report (v.ctx j.entry).pages v.pool).1 (v.ctx j.entry).pageCount = _
    rw [h.pool, h.ctx]

/-- The context of a decode that passes is SOLVED, its pages given back. -/
theorem State.DecodeFreed.solved (h : s.DecodeFreed u v) (unit : s.units.job u = some j)
    (was : (s.ctx j.entry).state = .decoding) :
    EntryMove s (((v.giveBack (s.ctx j.entry).port (s.ctx j.entry).pages (s.ctx j.entry).pageCount).enterSolved
        j.entry).signal (s.ctx j.entry).port (s.ctx j.entry).tag) j.entry ((v.enterSolved j.entry).ctx j.entry) := by
  have solved : (v.enterSolved j.entry).ctx j.entry = { s.ctx j.entry with
      state := .solved, pages := [], gap := false, units := UnitSet.none
      deadline := v.deadlineAfter (v.port (s.ctx j.entry).port).profile.tombstoneLifetime } := by
    rw [State.enterSolved_ctx, if_pos rfl, h.ctx]
  refine .of_decodeEnd unit h.units was (by rw [solved]; rfl) (fun d => ?_) (.inr ?_)
    (.back [] (by rw [was]; rfl) (by rw [solved]; rfl) (by rw [solved]) ?_) ?_ h.dispatcher h.engine (by rw [solved])
  · rw [solved]
    show ((v.giveBack _ _ _).enterSolved j.entry).ctx d = _
    rw [State.enterSolved_ctx, State.giveBack_ctx, State.giveBack_ctx, h.ctx, h.ctx]
    rfl
  · rw [solved]
    exact ⟨nofun, rfl, rfl⟩
  · show v.pool.giveBack _ _ _ = _
    rw [h.pool]
    rfl
  · rw [solved, ← h.expiry]
    exact .joins (insertDue_perm _ _ _)

/-- The context of a decode that fails is HELD. -/
theorem State.DecodeFreed.held (h : s.DecodeFreed u v) (unit : s.units.job u = some j)
    (was : (s.ctx j.entry).state = .decoding) :
    EntryMove s ((v.enterHeld j.entry).signal (s.ctx j.entry).port (s.ctx j.entry).tag) j.entry
      ((v.enterHeld j.entry).ctx j.entry) := by
  have held : (v.enterHeld j.entry).ctx j.entry = { s.ctx j.entry with
      state := .held, gap := false, units := UnitSet.none
      deadline := v.deadlineAfter (v.port (s.ctx j.entry).port).profile.holdLifetime } := by
    rw [State.enterHeld_ctx, if_pos rfl, h.ctx]
  refine .of_decodeEnd unit h.units was (by rw [held]; rfl) (fun d => ?_) (.inr ?_)
    (.keeps h.pool (by rw [held]) (by rw [held]) (by rw [held]) (by rw [held, was]; rfl)) ?_ h.dispatcher h.engine
    (by rw [held])
  · rw [held]
    show (v.enterHeld j.entry).ctx d = _
    rw [State.enterHeld_ctx, h.ctx, h.ctx]
  · rw [held]
    exact ⟨nofun, rfl, rfl⟩
  · rw [held, ← h.expiry]
    exact .joins (insertDue_perm _ _ _)

theorem State.DecodeFreed.freeDecode (s : State) (u : UnitId) (j : Job) (slot : OutSlot) :
    s.DecodeFreed u (s.freeDecode u j slot) := ⟨rfl, rfl, rfl, rfl, rfl, rfl⟩

theorem State.DecodeFreed.setPort (h : s.DecodeFreed u v) (p : PortId) (q : Port) : s.DecodeFreed u (v.setPort p q) :=
  ⟨h.contexts, h.pool, h.expiry, h.dispatcher, h.engine, h.units⟩

theorem State.DecodeFreed.setCounters (h : s.DecodeFreed u v) (p : PortId) (k : Counters) :
    s.DecodeFreed u (v.setCounters p k) := ⟨h.contexts, h.pool, h.expiry, h.dispatcher, h.engine, h.units⟩

/-- The answers of an end without an outcome of its own. -/
theorem State.DecodeFreed.answered (h : s.DecodeFreed u v) (x : Context) (resetting : Bool) (a : Answer) :
    s.DecodeFreed u (if resetting then v else (v.postReserved x.port a).answerRelease x .decoding) := by
  split
  · exact h
  · rw [State.answerRelease_eq]
    exact (h.setPort _ _).setPort _ _

theorem State.completeAbandoned_chain (unit : s.units.job u = some j) (was : (s.ctx j.entry).state = .decoding) :
    Chain s (s.completeAbandoned u j) := by
  rw [State.completeAbandoned]
  rw [State.releasePages_eq_closeDamaged]
  exact (((State.DecodeFreed.freeDecode s u j .free).answered _ _ _).closed unit was []).chain.trans
    (State.settle_chain _ _)

theorem State.completePass_chain (unit : s.units.job u = some j) (was : (s.ctx j.entry).state = .decoding)
    (bits : List Bool) (m z : Nat) : Chain s (s.completePass u j bits m z) := by
  rw [State.completePass]
  have freed (a : Answer) : s.DecodeFreed u (((s.freeDecode u j (.held (payloadOf bits))).postReserved
      (s.ctx j.entry).port a).countPass (s.ctx j.entry).port) :=
    ((State.DecodeFreed.freeDecode s u j _).setPort _ _).setCounters _ _
  split
  · rw [State.releasePages_eq_closeDamaged]
    exact ((freed _).closed unit was []).chain.trans (State.settle_chain _ _)
  · exact ((freed _).solved unit was).chain.trans (State.settle_chain _ _)

theorem State.completeFail_chain (unit : s.units.job u = some j) (was : (s.ctx j.entry).state = .decoding) (m z : Nat) :
    Chain s (s.completeFail u j m z) := by
  rw [State.completeFail]
  have freed (a : Answer) : s.DecodeFreed u (((s.freeDecode u j .free).postReserved
      (s.ctx j.entry).port a).countFailure (s.ctx j.entry).port) :=
    ((State.DecodeFreed.freeDecode s u j _).setPort _ _).setCounters _ _
  split
  · rw [State.releasePages_eq_closeDamaged]
    exact ((freed _).closed unit was []).chain.trans (State.settle_chain _ _)
  · exact ((freed _).held unit was).chain.trans (State.settle_chain _ _)

theorem execHalfIterationEnd_chain (run : execHalfIterationEnd u s = .next t) : Chain s t := by
  obtain rfl | ⟨j, unit, -, decoding, ⟨-, rfl⟩ | ⟨pass, -, -, rfl⟩⟩ := execHalfIterationEnd_cases run
  · exact .refl
  · exact State.completeAbandoned_chain unit decoding
  · exact Still.chain (.setJob unit (by exact Job.beginReads_owner _ _))

theorem execIterationEnd_chain (run : execIterationEnd u s = .next t) : Chain s t := by
  obtain rfl | ⟨j, unit, -, decoding, ⟨-, rfl⟩ | ⟨-, rfl⟩⟩ := execIterationEnd_cases run
  · exact .refl
  · exact State.completeAbandoned_chain unit decoding
  · rcases s.endIteration_cases u j with ⟨bits, m, z, same⟩ | ⟨m, z, same⟩ | ⟨pass, bits, -, same⟩
    · rw [same]
      exact State.completePass_chain unit decoding bits m z
    · rw [same]
      exact State.completeFail_chain unit decoding m z
    · rw [same]
      exact Still.chain (.setJob unit (by exact Job.beginReads_owner _ _))

theorem execDecodeDamage_chain (run : execDecodeDamage u s = .next t) : Chain s t := by
  rw [execDecodeDamage] at run
  split at run
  · cases run
    exact .refl
  · next j unit =>
    dsimp only at run
    split at run
    · next due =>
      cases run
      exact (((State.DecodeFreed.freeDecode s u j .free).answered _ _ _).closed unit due.2.2.2 _).chain.trans
        (State.settle_chain _ _)
    · cases run
      exact .refl

/-! ### Dispatches -/

section
variable {p : PortId} {e : Entry} {d : PendingDecode} {slot : SlotId} {a : Assignment}

/-- What a scan has found of a head that it dispatches (R78, Table 4-1). -/
structure State.Dispatches (s : State) (p : PortId) (e : Entry) (d : PendingDecode) (slot : SlotId) (a : Assignment) :
    Prop where
  head : (s.dispatchQueue p).head? = some e
  slot : s.freeSlot? p = some slot
  queued : (s.ctx e).state = .queued
  owed : (s.ctx e).pendingDecode = some d
  one : ∀ u, a = .one u → s.units.firstIdle? = some u ∧ (s.ctx e).K ≤ 4096
  pair : a = .pair → s.units.bothIdle = true ∧ 4096 < (s.ctx e).K

theorem State.dispatches_of_evaluateHead (found : s.evaluateHead p = .dispatched e d slot a) :
    s.Dispatches p e d slot a := by
  rw [State.evaluateHead] at found
  split at found
  · next e' slot' head free =>
    split at found
    · next d' queued owed =>
      split at found
      · next small =>
        split at found
        · cases found
        · next u idle =>
          cases found
          exact ⟨head, free, queued, owed, fun v same => by cases same; exact ⟨idle, small⟩, nofun⟩
      · next large =>
        split at found
        · next idle =>
          cases found
          exact ⟨head, free, queued, owed, nofun, fun _ => ⟨idle, Nat.lt_of_not_le large⟩⟩
        · cases found
    · cases found
  · cases found

theorem Units.firstIdle?_idle {us : Units} {u : UnitId} (first : us.firstIdle? = some u) :
    us.job u = none ∧ us.isPaired = false := by
  have idle : us.idle u = true := by
    rw [Units.firstIdle?] at first
    split at first
    · next h => exact Option.some.inj first ▸ h
    · split at first
      · next h => exact Option.some.inj first ▸ h
      · cases first
  have none := (us.idle_iff u).1 idle
  refine ⟨none, ?_⟩
  cases us with
  | apart x y => rfl
  | paired j => cases none

theorem Units.isPaired_of_idle {us : Units} {u : UnitId} (idle : us.job u = none) : us.isPaired = false := by
  cases us with
  | apart x y => rfl
  | paired j => cases idle

theorem Job.dispatched_owner (e : Entry) (c : Context) (d : PendingDecode) (damping : List Nat) (slot : SlotId)
    (paired : Bool) : (Job.dispatched e c d damping slot paired).owner = (e, c.port) := by
  rw [Job.dispatched, Job.beginReads_owner]
  rfl

theorem State.dispatchHead_queue (s : State) (p r : PortId) (e : Entry) (d : PendingDecode) (slot : SlotId)
    (a : Assignment) :
    (s.dispatchHead p e d slot a).dispatchQueue r = if p = r then (s.dispatchQueue p).tail else s.dispatchQueue r := by
  show (s.setDispatchQueue p (s.dispatchQueue p).tail).dispatchQueue r = _
  split
  · next here => rw [← here, State.setDispatchQueue_same]
  · next other => rw [State.setDispatchQueue_other _ _ _ _ other]

theorem State.Dispatches.move (h : s.Dispatches p e d slot a) :
    EntryMove s (s.dispatchHead p e d slot a) e
      { s.ctx e with state := .decoding, units := a.unitSet, pendingDecode := none } where
  ctx x := s.dispatchHead_ctx p e x d slot a
  key := .inr ⟨nofun, .inl ⟨by rw [h.queued]; decide, rfl, rfl⟩⟩
  pool := .keeps rfl rfl rfl rfl (by rw [h.queued]; rfl)
  expiry := .same rfl (by rw [h.queued]; rfl)
  queues law r := by
    obtain ⟨rest, queue⟩ := List.head?_eq_some_iff.1 h.head
    obtain ⟨-, port⟩ := (law.members p e).1 (by rw [queue]; exact List.mem_cons_self)
    have after : Context.queuedFor { s.ctx e with state := .decoding, units := a.unitSet, pendingDecode := none } r =
        false := rfl
    rw [State.dispatchHead_queue, after, Context.queuedFor, h.queued, beq_self_eq_true, port, Bool.true_and]
    split
    · next here =>
      rw [← here, beq_self_eq_true, queue]
      exact .leaves (by rw [List.tail_cons, List.erase_cons_head])
    · next other =>
      rw [beq_eq_false_iff_ne.2 other]
      exact .out rfl
  owed queued := nomatch queued
  mode r waits := nomatch waits
  engine := .still rfl (by rw [h.queued]; decide) nofun
  units := by
    have apart : s.units.isPaired = false := by
      cases a with
      | one u => exact (Units.firstIdle?_idle (h.one u rfl).1).2
      | pair => exact Units.isPaired_of_idle ((s.units.bothIdle_iff).1 (h.pair rfl).1).1
    exact .begins a _ rfl (by rw [h.queued]; decide) rfl rfl (Job.dispatched_owner _ _ _ _ _ _) apart
      (fun u one => ⟨(Units.firstIdle?_idle (h.one u one).1).1, (h.one u one).2⟩)
      fun pair => ⟨((s.units.bothIdle_iff).1 (h.pair pair).1).1, ((s.units.bothIdle_iff).1 (h.pair pair).1).2,
        (h.pair pair).2⟩

/-- A PAIR_WAIT begins at a head. -/
theorem State.dispatchQueue_ne_nil_of_pairWait (waits : s.evaluateHead p = .pairWait) : s.dispatchQueue p ≠ [] := by
  intro empty
  rw [State.evaluateHead, empty] at waits
  cases waits

theorem Still.pairWait (waits : s.evaluateHead p = .pairWait) :
    Still s (s.setDispatcher { s.dispatcher with mode := .pairWait p }) where
  ctx _ := rfl
  pool := rfl
  expiry := rfl
  queues _ := rfl
  mode r begun := by
    cases begun
    exact .inr (State.dispatchQueue_ne_nil_of_pairWait waits)
  engine := rfl
  units := .refl _

theorem execDispatch_chain (run : execDispatch s = .next t) : Chain s t := by
  obtain rfl | rfl := execDispatch_cases run
  · exact .refl
  · have scanned : Chain s s.handleOpportunity := State.handleOpportunity_induction (P := Chain s)
      (fun _ _ _ _ _ _ found h => h.trans (State.dispatches_of_evaluateHead found).move.chain)
      (fun _ _ waits h => h.trans (Still.pairWait waits).chain) s .refl
    exact scanned.trans (Still.chain (.of_eq rfl rfl rfl rfl rfl rfl))

end

end

end Sys2Proof.Machine
end

section
/-! SUPPORT. Every command, and the passing of one unit, is a chain of moves; with it the laws of the pool, of keys, of the engine and of the units are settled. -/

namespace Sys2Proof.Machine

section
variable {s t : State}

theorem Still.answerFrame (s : State) (n : Nat) (code : Byte) (r : ResultCode) (data : List Byte) :
    Still s (s.answerFrame n code r data) := .of_eq rfl rfl rfl rfl rfl rfl

/-- A frame moves the contexts as its owner does, or not at all. -/
theorem State.decideFrame_chain (code : Byte) (f : Frame) (need : Nat) {owner : ResultCode × List Byte × State}
    (moves : Chain s owner.2.2) : Chain s (s.decideFrame code f need owner) := by
  rw [State.decideFrame]
  split
  · exact (Still.answerFrame s _ _ _ _).chain
  · exact moves.trans (Still.answerFrame _ _ _ _ _).chain

theorem State.onPortArgument_chain (f : Frame) {k : PortId → ResultCode × List Byte × State}
    (moves : ∀ p, Chain s (k p).2.2) : Chain s (s.onPortArgument f k).2.2 := by
  rw [State.onPortArgument]
  split
  · exact .refl
  · exact moves _

theorem State.writeProfile_chain (s : State) (bs : List Byte) (p : PortId) : Chain s (s.writeProfile bs p).2.2 := by
  rcases s.writeProfile_cases bs p with same | ⟨x, -, -, same⟩
  · rw [same]
  · rw [same]
    exact (Still.onPort s p _).chain

theorem State.writeGeometry_chain (s : State) (g : GeometryEntry) : Chain s (s.writeGeometry g).2.2 := by
  rcases s.writeGeometry_cases g with same | ⟨-, -, same⟩
  · rw [same]
  · rw [same]
    exact Still.chain (.of_eq rfl rfl rfl rfl rfl rfl)

theorem State.deleteGeometry_chain (s : State) (K : Nat) : Chain s (s.deleteGeometry K).2.2 := by
  rcases s.deleteGeometry_cases K with same | same
  · rw [same]
  · rw [same]
    exact Still.chain (.of_eq rfl rfl rfl rfl rfl rfl)

theorem State.enablePort_chain (s : State) (p : PortId) : Chain s (s.enablePort p).2.2 := by
  rw [State.enablePort]
  split
  · exact .refl
  · split
    · exact .refl
    · split
      · exact .refl
      · exact Still.chain (.of_eq rfl rfl rfl rfl rfl rfl)

theorem State.disablePort_chain (s : State) (p : PortId) : Chain s (s.disablePort p).2.2 := by
  rw [State.disablePort]
  split
  · exact .refl
  · have drained : Still s ((s.onPort p Port.drained).setOpportunity true) := .of_eq rfl rfl rfl rfl rfl rfl
    exact drained.chain.trans (State.settle_chain _ p)

theorem State.resetPort_chain (s : State) (p : PortId) : Chain s (s.resetPort p).2.2 := by
  rw [State.resetPort]
  split
  · exact .refl
  · next start => exact State.portReset_chain start

theorem State.writeTimebase_chain (s : State) (n : Nat) : Chain s (s.writeTimebase n).2.2 := by
  rw [State.writeTimebase]
  split
  · exact Still.chain (.of_eq rfl rfl rfl rfl rfl rfl)
  · exact .refl

/-! ### Restarts -/

theorem State.deviceReset_allOff (s : State) : s.deviceReset.AllOff where
  contexts := s.deviceReset_ctx
  ports p := by
    rw [s.deviceReset_port p]
    rfl
  engine := rfl
  units := rfl
  queues p := Vector.get_replicate_four [] p
  mode := rfl
  expiry := rfl

theorem Pool.rebuilt_usageOf (pl : Pool) (p : PortId) : pl.rebuilt.usageOf p = 0 := Vector.get_replicate_four 0 p

theorem count_filter_allPages (k : Page → Bool) (pg : Page) : (allPages.filter k).count pg = if k pg then 1 else 0 := by
  split
  · next kept => rw [List.count_filter kept, count_allPages]
  · next out =>
    rw [List.count_eq_zero]
    exact fun listed => out (List.mem_filter.1 listed).2

/-- What DEVICE_RESET leaves of the pool (R34). -/
theorem Pool.rebuilt_kept (pl : Pool) : pl.rebuilt.spareList = pl.spareList ∧
    pl.rebuilt.retiredList = pl.retiredList ∧ pl.rebuilt.shortfall = pl.shortfall := by
  rw [Pool.rebuilt]
  exact ⟨rfl, rfl, rfl⟩

theorem Pool.rebuilt_count {pl : Pool} (once : ∀ pg, pl.spareList.count pg + pl.retiredList.count pg ≤ 1) (pg : Page) :
    pl.rebuilt.freeList.count pg + pl.rebuilt.spareList.count pg + pl.rebuilt.retiredList.count pg = 1 := by
  have bound := once pg
  have free : pl.rebuilt.freeList.count pg =
      if !pl.spareList.contains pg && !pl.retiredList.contains pg then 1 else 0 := by
    rw [Pool.rebuilt, count_filter_allPages]
  obtain ⟨spares, retireds, -⟩ := pl.rebuilt_kept
  rw [free, spares, retireds]
  by_cases spare : pg ∈ pl.spareList
  · have some := List.count_pos_iff.2 spare
    rw [List.contains_iff_mem.2 spare]
    simp only [Bool.not_true, Bool.false_and, Bool.false_eq_true, if_false]
    omega
  · rw [List.count_eq_zero.2 spare] at bound ⊢
    by_cases retired : pg ∈ pl.retiredList
    · have some := List.count_pos_iff.2 retired
      rw [List.contains_iff_mem.2 retired]
      simp only [Bool.not_true, Bool.and_false, Bool.false_eq_true, if_false]
      omega
    · rw [List.count_eq_zero.2 retired]
      simp [spare, retired]

theorem Restart.deviceReset (s : State) : Restart s s.deviceReset where
  off := s.deviceReset_allOff
  unused := s.pool.rebuilt_usageOf
  pool law := by
    have pool : s.deviceReset.pool = s.pool.rebuilt := by rw [State.deviceReset]
    obtain ⟨spares, retireds, shortfall⟩ := s.pool.rebuilt_kept
    refine s.deviceReset_allOff.poolLaw s.pool.rebuilt_usageOf ?_ (by rw [pool, spares, retireds, shortfall, law.retired])
    rw [pool]
    refine Pool.rebuilt_count fun pg => ?_
    have all := law.onePlace pg
    rw [State.pageCopies] at all
    omega

theorem Restart.powerOn (s : State) : Restart s { State.reset with pending := s.pending } where
  off := { State.reset_allOff with }
  unused := by
    show ∀ p, State.reset.pool.usageOf p = 0
    rw [State.reset_pool]
    exact Pool.powerOn_usageOf
  pool _ := { State.reset_poolLaw with }

theorem Restart.chain (h : Restart s t) : Chain s t := .single (.restart h)

/-! ### Every command -/

theorem execReturnSlot_chain {p : PortId} {w : WriteBurst} (run : execReturnSlot p w s = .next t) : Chain s t := by
  rw [execReturnSlot] at run
  split at run
  · cases run
    exact Still.chain (.of_eq rfl rfl rfl rfl rfl rfl)
  · cases run
    exact Still.chain (.of_eq rfl rfl rfl rfl rfl rfl)

theorem execSelfReset_chain {p : PortId} {w : WriteBurst} (run : execSelfReset p w s = .next t) : Chain s t := by
  rw [execSelfReset] at run
  cases run
  refine Relation.ReflTransGen.trans ?_ (Still.onPort _ p _).chain
  split
  · cases start : s.portReset p with
    | none => exact .refl
    | some u => exact State.portReset_chain start
  · exact .refl

theorem execAnswer_chain {p : PortId} {beats : List Lanes} (run : execAnswer p beats s = .next t) : Chain s t := by
  rw [execAnswer] at run
  cases run
  refine Relation.ReflTransGen.trans ?_ (Still.onPort _ p _).chain
  split
  · exact s.popAnswer_chain p
  · exact .refl

theorem execIntakeTry_chain {p : PortId} (run : execIntakeTry p s = .next t) : Chain s t := by
  rw [execIntakeTry] at run
  split at run
  · cases run
    exact .refl
  · split at run
    · cases run
      exact (s.tryHead_chain p _).trans (State.settle_chain _ p)
    · cases run
      exact .refl

theorem execExpiryHeld_chain (run : execExpiryHeld s = .next t) : Chain s t := by
  rw [execExpiryHeld] at run
  split at run
  · cases run
    exact .refl
  · split at run
    · cases run
      exact (s.endHeld_chain .expired _).trans (Still.setCounters _ _ _).chain
    · cases run
      exact .refl

theorem execExpiryTombstone_chain (run : execExpiryTombstone s = .next t) : Chain s t := by
  rw [execExpiryTombstone] at run
  split at run
  · cases run
    exact .refl
  · split at run
    · cases run
      exact s.endTombstone_chain _
    · cases run
      exact .refl

theorem execGeometryRead_chain {f : Frame} (run : execGeometryRead f s = .next t) : Chain s t := by
  rw [execGeometryRead] at run
  cases run
  refine State.decideFrame_chain _ f 1 ?_
  split <;> exact .refl

theorem execFrameRefused_chain {code : Option Byte} {f : Frame} (run : execFrameRefused code f s = .next t) :
    Chain s t := by
  unfold execFrameRefused at run
  split at run
  · cases run
    exact (Still.answerFrame s _ _ _ _).chain
  · split at run
    · cases run
      exact (Still.answerFrame s _ _ _ _).chain
    · cases run
      exact .refl

theorem State.unitPasses_still (s : State) : Still s s.unitPasses := by
  rw [State.unitPasses]
  split <;> exact .of_eq rfl rfl rfl rfl rfl rfl

theorem exec_chain {c : Instr} (run : exec c s = .next t) : Chain s t := by
  cases c with
  | submit p w | softData p w | status p lanes later | unmappedWrite p a | tick =>
    cases run
    exact Still.chain (.of_eq rfl rfl rfl rfl rfl rfl)
  | returnSlot p w => exact execReturnSlot_chain run
  | selfReset p w => exact execSelfReset_chain run
  | answer p beats => exact execAnswer_chain run
  | intakeTry p => exact execIntakeTry_chain run
  | combineSelection => exact execCombineSelection_chain run
  | clearPageEnd => exact execClearPageEnd_chain run
  | combinePageReadEnd passed => exact execCombinePageReadEnd_chain run
  | visitWriteEnd => exact execVisitWriteEnd_chain run
  | combineCompletion => exact execCombineCompletion_chain run
  | combineDamage => exact execCombineDamage_chain run
  | combineAbort => exact execCombineAbort_chain run
  | dispatch => exact execDispatch_chain run
  | decodePageReadEnd u passed => exact execDecodePageReadEnd_chain run
  | halfIterationEnd u => exact execHalfIterationEnd_chain run
  | iterationEnd u => exact execIterationEnd_chain run
  | decodeDamage u => exact execDecodeDamage_chain run
  | expiryHeld => exact execExpiryHeld_chain run
  | expiryTombstone => exact execExpiryTombstone_chain run
  | statusRead f =>
    cases run
    exact State.decideFrame_chain _ f 0 (Still.chain (.of_eq rfl rfl rfl rfl rfl rfl))
  | profileWrite f =>
    cases run
    exact State.decideFrame_chain _ f 25 (State.onPortArgument_chain f (s.writeProfile_chain _))
  | profileRead f =>
    cases run
    exact State.decideFrame_chain _ f 1 (State.onPortArgument_chain f fun _ => .refl)
  | geometryWrite f =>
    cases run
    exact State.decideFrame_chain _ f 6 (s.writeGeometry_chain _)
  | geometryRead f => exact execGeometryRead_chain run
  | geometryDelete f =>
    cases run
    exact State.decideFrame_chain _ f 2 (s.deleteGeometry_chain _)
  | portEnable f =>
    cases run
    exact State.decideFrame_chain _ f 1 (State.onPortArgument_chain f s.enablePort_chain)
  | portDisable f =>
    cases run
    exact State.decideFrame_chain _ f 1 (State.onPortArgument_chain f s.disablePort_chain)
  | portReset f =>
    cases run
    exact State.decideFrame_chain _ f 1 (State.onPortArgument_chain f s.resetPort_chain)
  | deviceReset f =>
    cases run
    exact State.decideFrame_chain _ f 0 (Restart.deviceReset s).chain
  | timebaseWrite f =>
    cases run
    exact State.decideFrame_chain _ f 2 (s.writeTimebase_chain _)
  | poolRead f | clockRead f =>
    cases run
    exact State.decideFrame_chain _ f 0 .refl
  | contextRead f =>
    cases run
    exact State.decideFrame_chain _ f 1 .refl
  | countersRead f =>
    cases run
    exact State.decideFrame_chain _ f 1 (State.onPortArgument_chain f fun _ => .refl)
  | countersClear f =>
    cases run
    exact State.decideFrame_chain _ f 1
      (State.onPortArgument_chain f fun p => Still.chain (.of_eq rfl rfl rfl rfl rfl rfl))
  | frameRefused code f => exact execFrameRefused_chain run
  | powerOnReset =>
    cases run
    exact (Restart.powerOn s).chain

/-- A step is a chain of moves. -/
theorem step_chain (h : step s = .next t) : Chain s t := by
  rcases step_cases h with ⟨-, rfl⟩ | ⟨c, rest, -, run⟩
  · exact s.unitPasses_still.chain
  · have taken : Still s { s with pending := rest } := .of_eq rfl rfl rfl rfl rfl rfl
    exact taken.chain.trans (exec_chain run)

end

/-- Settles O4: the laws hold along a chain of moves, and the totals follow from them. -/
theorem stepKeepsPoolLaw : Obligations.StepKeepsPoolLaw := by
  intro s t law h
  have kept : PoolLaw t := (step_chain h).keeps Move.poolLaw law
  exact ⟨kept, kept.total, kept.usageTotal⟩

/-- Settles O6. -/
theorem stepKeepsKeysApart : Obligations.StepKeepsKeysApart := fun _ _ keys free h =>
  ⟨(step_chain h).keeps Move.keyLaw keys, (step_chain h).keeps Move.freeLaw free⟩

/-- Settles O8. -/
theorem stepKeepsEngineLaw : Obligations.StepKeepsEngineLaw := fun _ _ law h =>
  (step_chain h).keeps Move.engineLaw law

/-- Settles O9. -/
theorem stepKeepsUnitAssignment : Obligations.StepKeepsUnitAssignment := fun _ _ law h =>
  (step_chain h).keeps Move.unitLaw law

end Sys2Proof.Machine
end

section
/-! SUPPORT. The laws of one moment, cut into what each context, each port and the shared blocks must keep, so that a change is judged by the parts it touches (spec/01 Table 1-2, spec/07, spec/08 R152, R153, spec/09 R173, R182). -/

namespace Sys2Proof.Machine

/-! ### What a context keeps by itself (Table 1-2) -/

/-- The optional fields of a context are in use in the states of Table 1-2 only. -/
structure Context.Fields (c : Context) : Prop where
  pending : c.pendingDecode.isSome → mayPend c.state
  release : c.releasePending.isSome → mayRelease c.state
  notice : c.owedNotice.isSome ↔ c.state = .closing
  deadline : c.state ≠ .held → c.state ≠ .solved → c.deadline = 0

theorem Context.Fields.free : Context.free.Fields :=
  ⟨nofun, nofun, ⟨nofun, nofun⟩, fun _ _ => rfl⟩

theorem Context.Fields.pending_none {c : Context} (h : c.Fields) (idle : mayPend c.state = false) :
    c.pendingDecode = none := by
  rw [← Option.not_isSome_iff_eq_none]
  exact fun some => Bool.false_ne_true (idle.symm.trans (h.pending some))

theorem Context.Fields.release_none {c : Context} (h : c.Fields) (idle : mayRelease c.state = false) :
    c.releasePending = none := by
  rw [← Option.not_isSome_iff_eq_none]
  exact fun some => Bool.false_ne_true (idle.symm.trans (h.release some))

theorem Context.Fields.notice_none {c : Context} (h : c.Fields) (open_ : c.state ≠ .closing) : c.owedNotice = none := by
  rw [← Option.not_isSome_iff_eq_none]
  exact fun some => open_ (h.notice.1 some)

/-! ### What a port keeps by itself -/

/-- A port's own part of the laws: an OFF port has nothing left (R173), a RESETTING one no submission and no answer (R181), the answer queue fits (R152) and leaves no entry free while a context is CLOSING (R158), a reservation at the head belongs to a RELEASE (R144), and a request has a number the profile allows (R6). -/
structure Port.Good (q : Port) : Prop where
  off : q.state = .off → q = Port.offWith q.profile q.bus
  resetting : q.state.isResetting = true → q.assembly = [] ∧ q.queue = [] ∧ q.slot = .empty ∧ q.answers = [] ∧
    q.reservations = 0 ∧ q.closing = [] ∧ q.headReserved = false
  fits : q.answers.length + q.reservations ≤ 64
  head : q.headReserved = true → q.intake = .keyOrder ∧ ∃ x rest, q.queue = x :: rest ∧ x.descriptor.kind = .release
  waiting : q.closing ≠ [] → q.answers.length + q.reservations = 64
  slot : ∀ r, q.slot = .ready r ∨ q.slot = .keyWait r → 1 ≤ r.attempt ∧ r.attempt ≤ q.profile.maxAttempts

/-- A port in ACTIVE or DRAINING. -/
def Port.Open (q : Port) : Prop := q.state ≠ .off ∧ q.state.isResetting = false

theorem Port.Good.of_open {q : Port} (is : q.Open) (fits : q.answers.length + q.reservations ≤ 64)
    (head : q.headReserved = true → q.intake = .keyOrder ∧ ∃ x rest, q.queue = x :: rest ∧ x.descriptor.kind = .release)
    (waiting : q.closing ≠ [] → q.answers.length + q.reservations = 64)
    (slot : ∀ r, q.slot = .ready r ∨ q.slot = .keyWait r → 1 ≤ r.attempt ∧ r.attempt ≤ q.profile.maxAttempts) :
    q.Good :=
  ⟨fun off => absurd off is.1, fun resetting => absurd resetting (by rw [is.2]; decide), fits, head, waiting, slot⟩

theorem Port.Good.offWith (profile : Profile) (bus : BusOut) : (Port.offWith profile bus).Good :=
  ⟨fun _ => rfl, nofun, Nat.zero_le _, nofun, fun some => absurd rfl some, nofun⟩

/-- The reservations that a port's own slot and queue head hold. -/
def Port.owes (q : Port) : Nat := (q.slot != .empty).toNat + q.headReserved.toNat

/-- Two ports agree in what the laws read of a port in use. -/
structure Port.Alike (q q' : Port) : Prop where
  state : q'.state = q.state
  profile : q'.profile = q.profile
  assembly : q.state.isResetting = true → q.assembly = [] → q'.assembly = []
  queue : q'.queue = q.queue
  intake : q'.intake = q.intake
  answers : q'.answers = q.answers
  reservations : q'.reservations = q.reservations
  closing : q'.closing = q.closing
  headReserved : q'.headReserved = q.headReserved
  empty : q'.slot = .empty ↔ q.slot = .empty
  request : ∀ r, q'.slot = .ready r ∨ q'.slot = .keyWait r → q.slot = .ready r ∨ q.slot = .keyWait r

namespace Port.Alike

variable {q q' q'' : Port}

theorem refl (q : Port) : q.Alike q := ⟨rfl, rfl, fun _ => id, rfl, rfl, rfl, rfl, rfl, rfl, .rfl, fun _ => id⟩

/-- The slot stands as it is. -/
theorem of_slot (state : q'.state = q.state) (profile : q'.profile = q.profile)
    (assembly : q.state.isResetting = true → q.assembly = [] → q'.assembly = []) (queue : q'.queue = q.queue) (intake : q'.intake = q.intake)
    (answers : q'.answers = q.answers) (reservations : q'.reservations = q.reservations)
    (closing : q'.closing = q.closing) (headReserved : q'.headReserved = q.headReserved) (slot : q'.slot = q.slot) :
    q.Alike q' :=
  ⟨state, profile, assembly, queue, intake, answers, reservations, closing, headReserved, by rw [slot],
    fun r => by rw [slot]; exact id⟩

theorem trans (h : q.Alike q') (g : q'.Alike q'') : q.Alike q'' :=
  ⟨g.state.trans h.state, g.profile.trans h.profile, fun is none => g.assembly (h.state ▸ is) (h.assembly is none), g.queue.trans h.queue,
    g.intake.trans h.intake, g.answers.trans h.answers, g.reservations.trans h.reservations,
    g.closing.trans h.closing, g.headReserved.trans h.headReserved, g.empty.trans h.empty,
    fun r taken => h.request r (g.request r taken)⟩

theorem owes (h : q.Alike q') : q'.owes = q.owes := by
  have slot : (q'.slot != .empty) = (q.slot != .empty) := by
    rw [Bool.eq_iff_iff, bne_iff_ne, bne_iff_ne]
    exact not_congr h.empty
  rw [Port.owes, slot, h.headReserved, Port.owes]

theorem good (h : q.Alike q') (good : q.Good) (used : q.state ≠ .off) : q'.Good where
  off off := absurd (h.state.symm.trans off) used
  resetting is := by
    obtain ⟨assembly, queue, slot, answers, reservations, closing, head⟩ := good.resetting (h.state ▸ is)
    exact ⟨h.assembly (h.state ▸ is) assembly, h.queue.trans queue, h.empty.2 slot, h.answers.trans answers,
      h.reservations.trans reservations, h.closing.trans closing, h.headReserved.trans head⟩
  fits := by
    rw [h.answers, h.reservations]
    exact good.fits
  head reserved := by
    rw [h.intake, h.queue]
    exact good.head (h.headReserved ▸ reserved)
  waiting some := by
    rw [h.answers, h.reservations]
    exact good.waiting (h.closing ▸ some)
  slot r taken := by
    rw [h.profile]
    exact good.slot r (h.request r taken)

theorem signalled (q : Port) (tag : Tag) : q.Alike (q.signalled tag) where
  state := rfl
  profile := rfl
  assembly _ := id
  queue := rfl
  intake := rfl
  answers := rfl
  reservations := rfl
  closing := rfl
  headReserved := rfl
  empty := by
    rw [Port.signalled]
    cases q.slot with
    | keyWait r => dsimp only; split <;> simp
    | ready r => simp
    | empty => simp
  request r taken := by
    rw [Port.signalled] at taken
    cases slot : q.slot with
    | keyWait l =>
      rw [slot] at taken
      dsimp only at taken
      split at taken
      · rcases taken with h | h <;> cases h
        exact .inr rfl
      · exact taken
    | ready l =>
      rw [slot] at taken
      exact taken
    | empty =>
      rw [slot] at taken
      exact taken

theorem setBuf (q : Port) (b : BufId) (x : Buffer) : q.Alike (q.setBuf b x) := by
  cases b <;> exact of_slot rfl rfl (fun _ => id) rfl rfl rfl rfl rfl rfl rfl

theorem refill (q : Port) : q.Alike q.refill := by
  rw [Port.refill]
  split
  · exact refl q
  · split
    · exact of_slot rfl rfl (fun _ => id) rfl rfl rfl rfl rfl rfl rfl
    · split
      · exact of_slot rfl rfl (fun _ => id) rfl rfl rfl rfl rfl rfl rfl
      · exact refl q

theorem freeBuffer (q : Port) (b : BufId) : q.Alike (q.freeBuffer b) := (setBuf q b _).trans (refill _)

theorem setOutSlot (q : Port) (i : SlotId) (x : OutSlot) : q.Alike (q.setOutSlot i x) :=
  of_slot rfl rfl (fun _ => id) rfl rfl rfl rfl rfl rfl rfl

end Port.Alike

/-- Answers posted into entries reserved for them keep the port. -/
theorem Port.Good.answered {q : Port} (good : q.Good) (is : q.Open) {as : List Answer} (enough : as.length ≤ q.reservations) :
    (q.answered as).Good := by
  have same : (q.answered as).answers.length + (q.answered as).reservations = q.answers.length + q.reservations := by
    rw [Port.answered, List.length_append]
    dsimp only
    omega
  refine .of_open is (by rw [same]; exact good.fits) good.head (fun some => by rw [same]; exact good.waiting some) good.slot

/-! ### Every law, in parts -/

/-- The contexts' part of what is owed to a port. -/
def State.contextsOwe (s : State) (p : PortId) : Nat :=
  ((allEntries.filter fun e => (s.ctx e).port == p).map fun e => (s.ctx e).owes).sum

theorem State.owed_eq (s : State) (p : PortId) :
    s.owed p = (s.port p).owes + s.contextsOwe p + s.engine.owes p + s.units.owes p := rfl

/-- A RESETTING port keeps work in shared blocks. -/
def State.Working (s : State) (p : PortId) : Prop :=
  (s.port p).state.isResetting = true → ∃ e, (s.ctx e).port = p ∧ inSharedBlock (s.ctx e).state = true

/-- Every law of one moment but the store's and the one that a port's life cycle restores; at each port a number of reservations may still have to be given an owner. -/
structure Core (surplus : PortId → Nat) (s : State) : Prop where
  pool : PoolLaw s
  key : KeyLaw s
  free : FreeLaw s
  expiry : ExpiryLaw s
  dispatch : DispatchLaw s
  engine : EngineLaw s
  units : UnitLaw s
  closing : ClosingLaw s
  fields : ∀ e, (s.ctx e).Fields
  stopping : ∀ u j, s.units.job u = some j → (s.ctx j.entry).releasePending.isSome → j.stopping = true
  good : ∀ p, (s.port p).Good
  offContexts : ∀ p e, (s.port p).state = .off → (s.ctx e).port = p → (s.ctx e).state = .free
  resettingContexts : ∀ p e, (s.port p).state.isResetting = true → (s.ctx e).port = p → (s.ctx e).state ≠ .free →
    inSharedBlock (s.ctx e).state = true
  resettingEngine : ∀ k, s.engine.combine = some k →
    ((s.port k.port).state.isResetting = true ↔ k.abortRequested = true) ∧ (k.atBoundary = true → k.abortRequested = true)
  resettingUnits : ∀ u j, s.units.job u = some j → (s.port j.port).state.isResetting = true → j.stopping = true
  reserved : ∀ p, (s.port p).state.isResetting = false → (s.port p).reservations = s.owed p + surplus p
  contexts : ∀ p, s.contextCount p ≤ (s.port p).profile.maxContexts
  attempts : ∀ e, (s.ctx e).state ≠ .free →
    (s.ctx e).combinedCount ≤ (s.ctx e).lastAttempt ∧
      (s.ctx e).lastAttempt ≤ (s.port (s.ctx e).port).profile.maxAttempts
  cap : ∀ p, s.pool.usageOf p ≤ (s.port p).profile.cap
  reserve : ((allPorts.filter fun p => (s.port p).state.counted).map s.unmet).sum ≤
    s.pool.freeList.length + s.pool.shortfall

/-- No reservation lacks an owner. -/
def noSurplus : PortId → Nat := fun _ => 0

theorem Laws.core {s : State} (h : Laws s) : Core noSurplus s where
  pool := h.pool
  key := h.key
  free := h.free
  expiry := h.expiry
  dispatch := h.dispatch
  engine := h.engine
  units := h.units
  closing := h.closing
  fields e := ⟨h.fields.pending e, h.fields.release e, h.fields.notice e, h.fields.deadline e⟩
  stopping := h.fields.stopping
  good p := by
    refine ⟨h.ports.off p, fun is => ?_, h.answers.fits p, h.answers.head p, h.answers.waiting p, h.budget.slot p⟩
    obtain ⟨assembly, queue, slot, answers, reservations, closing, head, -⟩ := h.ports.resetting p is
    exact ⟨assembly, queue, slot, answers, reservations, closing, head⟩
  offContexts := h.ports.offContexts
  resettingContexts := h.ports.resettingContexts
  resettingEngine := h.ports.resettingEngine
  resettingUnits := h.ports.resettingUnits
  reserved := h.answers.reserved
  contexts := h.budget.contexts
  attempts := h.budget.attempts
  cap := h.budget.cap
  reserve := h.budget.reserve

theorem Laws.working {s : State} (h : Laws s) (p : PortId) : s.Working p := fun is => by
  obtain ⟨-, -, -, -, -, -, -, work⟩ := h.ports.resetting p is
  exact work

section
variable {s : State}

theorem Core.fieldLaw (h : Core noSurplus s) : FieldLaw s :=
  ⟨fun e => (h.fields e).pending, fun e => (h.fields e).release, fun e => (h.fields e).notice,
    fun e => (h.fields e).deadline, h.stopping⟩

theorem Core.answerLaw (h : Core noSurplus s) : AnswerLaw s :=
  ⟨h.reserved, fun p => (h.good p).fits, fun p => (h.good p).head, fun p => (h.good p).waiting⟩

theorem Core.budgetLaw (h : Core noSurplus s) : BudgetLaw s :=
  ⟨h.contexts, h.attempts, fun p => (h.good p).slot, h.cap, h.reserve⟩

theorem Core.portLaw (h : Core noSurplus s) (working : ∀ p, s.Working p) : PortLaw s where
  off p := (h.good p).off
  offContexts := h.offContexts
  resetting p is := by
    obtain ⟨assembly, queue, slot, answers, reservations, closing, head⟩ := (h.good p).resetting is
    exact ⟨assembly, queue, slot, answers, reservations, closing, head, working p is⟩
  resettingContexts := h.resettingContexts
  resettingEngine := h.resettingEngine
  resettingUnits := h.resettingUnits

end

end Sys2Proof.Machine
end

section
/-! SUPPORT. The laws of one moment through a change of one entry and through a change of none (spec/01 R5, R6, R23, spec/02 R35 to R37, spec/08 R153, spec/09 R173, R182). -/

namespace Sys2Proof.Machine

/-! ### Sums over the ports -/

theorem sum_filter_allPorts (k : PortId → Bool) (f : PortId → Nat) (p : PortId) :
    ((allPorts.filter k).map f).sum =
      (if k p = true then f p else 0) + ((allPorts.filter fun q => q != p && k q).map f).sum := by
  rw [sum_map_filter, sum_map_filter]
  fin_cases p <;> simp [allPorts] <;> omega

theorem sum_filter_allPorts_le {k : PortId → Bool} {f g : PortId → Nat} {p : PortId} {n : Nat}
    (others : ∀ q, p ≠ q → f q ≤ g q) (here : f p ≤ g p + n) :
    ((allPorts.filter k).map f).sum ≤ ((allPorts.filter k).map g).sum + n := by
  have rest : ((allPorts.filter fun q => q != p && k q).map f).sum ≤
      ((allPorts.filter fun q => q != p && k q).map g).sum := by
    refine List.sum_le_sum fun q listed => others q ?_
    have kept := (List.mem_filter.1 listed).2
    rw [Bool.and_eq_true, bne_iff_ne] at kept
    exact kept.1.symm
  rw [sum_filter_allPorts k f p, sum_filter_allPorts k g p]
  split <;> omega

theorem State.contextCount_eq (s : State) (p : PortId) :
    s.contextCount p = (allEntries.map fun e => if (s.ctx e).state ≠ .free ∧ (s.ctx e).port = p then 1 else 0).sum := by
  have ones := sum_map_filter allEntries (fun e => (s.ctx e).state != .free && (s.ctx e).port == p) fun _ => 1
  rw [List.map_const', List.sum_replicate, smul_eq_mul, Nat.mul_one] at ones
  rw [State.contextCount, ones]
  simp only [Bool.and_eq_true, bne_iff_ne, beq_iff_eq]

theorem State.contextsOwe_eq (s : State) (p : PortId) :
    s.contextsOwe p = (allEntries.map fun e => if (s.ctx e).port = p then (s.ctx e).owes else 0).sum := by
  rw [State.contextsOwe, sum_map_filter]
  simp only [beq_iff_eq]

/-! ### What both kinds of change keep -/

/-- Every port keeps its state and profile and is left as its own laws say, the units and the engine obey a release and a reset, and every reservation has an owner but the surplus. -/
structure Sides (surplus : PortId → Nat) (s t : State) : Prop where
  state : ∀ p, (t.port p).state = (s.port p).state
  profile : ∀ p, (t.port p).profile = (s.port p).profile
  good : ∀ p, (t.port p).Good
  stopping : ∀ u j, t.units.job u = some j → (t.ctx j.entry).releasePending.isSome → j.stopping = true
  resettingEngine : ∀ k, t.engine.combine = some k →
    ((t.port k.port).state.isResetting = true ↔ k.abortRequested = true) ∧ (k.atBoundary = true → k.abortRequested = true)
  resettingUnits : ∀ u j, t.units.job u = some j → (t.port j.port).state.isResetting = true → j.stopping = true
  reserved : ∀ p, (t.port p).state.isResetting = false → (t.port p).reservations = t.owed p + surplus p

/-- No context changes. -/
structure SafeStill (surplus : PortId → Nat) (s t : State) : Prop where
  still : Still s t
  sides : Sides surplus s t
  closing : ∀ p, (t.port p).closing = (s.port p).closing

/-- Whether a context stands in a port's closing order (R23). -/
def Context.closingFor (c : Context) (p : PortId) : Bool := c.state == .closing && c.port == p

theorem Context.closingFor_iff (c : Context) (p : PortId) : c.closingFor p = true ↔ c.state = .closing ∧ c.port = p := by
  rw [Context.closingFor, Bool.and_eq_true, beq_iff_eq, beq_iff_eq]

theorem Context.closingFor_of_ne {c : Context} (open_ : c.state ≠ .closing) (p : PortId) : c.closingFor p = false := by
  rw [Context.closingFor, beq_eq_false_iff_ne.2 open_, Bool.false_and]

/-- One entry changes to a context that its port and its profile allow. -/
structure SafeEntry (surplus : PortId → Nat) (s t : State) (e : Entry) (c : Context) : Prop where
  move : EntryMove s t e c
  sides : Sides surplus s t
  closing : ∀ p, ListMove (s.port p).closing (t.port p).closing e ((s.ctx e).closingFor p) (c.closingFor p)
  fields : c.Fields
  usable : c.state ≠ .free → (s.port c.port).state ≠ .off ∧
    ((s.port c.port).state.isResetting = true → inSharedBlock c.state = true)
  attempts : c.state ≠ .free → c.combinedCount ≤ c.lastAttempt ∧ c.lastAttempt ≤ (s.port c.port).profile.maxAttempts
  room : (s.ctx e).state = .free → c.state ≠ .free → s.contextCount c.port < (s.port c.port).profile.maxContexts
  granted : (s.ctx e).state = .free → c.state ≠ .free →
    (s.port c.port).state.counted = true ∧ s.grants c.port c.pageCount = true

section
variable {s t : State} {e : Entry} {c : Context} {x y : PortId → Nat}

theorem Still.contextCount (h : Still s t) (p : PortId) : t.contextCount p = s.contextCount p := by
  simp only [State.contextCount, h.ctx]

theorem Still.contextsOwe (h : Still s t) (p : PortId) : t.contextsOwe p = s.contextsOwe p := by
  simp only [State.contextsOwe, h.ctx]

theorem State.unmet_congr (profile : ∀ p, (t.port p).profile = (s.port p).profile) (pool : t.pool = s.pool) :
    t.unmet = s.unmet := by
  funext p
  rw [State.unmet, State.unmet, profile, pool]

theorem counted_congr (state : ∀ p, (t.port p).state = (s.port p).state) :
    (fun p => (t.port p).state.counted) = fun p => (s.port p).state.counted := by
  funext p
  rw [state]

theorem SafeStill.core (h : SafeStill y s t) (core : Core x s) : Core y t where
  pool := h.still.poolLaw core.pool
  key := h.still.keyLaw core.key
  free := h.still.freeLaw core.free
  expiry := h.still.expiryLaw core.expiry
  dispatch := h.still.dispatchLaw core.dispatch
  engine := h.still.engineLaw core.engine
  units := h.still.unitLaw core.units
  closing := by
    refine ⟨fun p => ?_, fun p e => ?_⟩
    · rw [h.closing]
      exact core.closing.once p
    · rw [h.closing, h.still.ctx]
      exact core.closing.members p e
  fields e := by
    rw [h.still.ctx]
    exact core.fields e
  stopping := h.sides.stopping
  good := h.sides.good
  offContexts p e := by
    rw [h.sides.state, h.still.ctx]
    exact core.offContexts p e
  resettingContexts p e := by
    rw [h.sides.state, h.still.ctx]
    exact core.resettingContexts p e
  resettingEngine := h.sides.resettingEngine
  resettingUnits := h.sides.resettingUnits
  reserved := h.sides.reserved
  contexts p := by
    rw [h.still.contextCount, h.sides.profile]
    exact core.contexts p
  attempts e := by
    rw [h.still.ctx, h.sides.profile]
    exact core.attempts e
  cap p := by
    rw [h.still.pool, h.sides.profile]
    exact core.cap p
  reserve := by
    rw [counted_congr h.sides.state, State.unmet_congr h.sides.profile h.still.pool, h.still.pool]
    exact core.reserve

theorem SafeStill.working (h : SafeStill y s t) {p : PortId} (working : s.Working p) : t.Working p := fun is => by
  obtain ⟨e, port, shared⟩ := working (h.sides.state p ▸ is)
  exact ⟨e, by rw [h.still.ctx]; exact port, by rw [h.still.ctx]; exact shared⟩

/-! ### A change of one entry -/

theorem EntryMove.contextCount (h : EntryMove s t e c) (p : PortId) :
    t.contextCount p + (if (s.ctx e).state ≠ .free ∧ (s.ctx e).port = p then 1 else 0) =
      s.contextCount p + (if c.state ≠ .free ∧ c.port = p then 1 else 0) := by
  have moved := sum_allEntries_replace (e := e)
    (f := fun d => if (t.ctx d).state ≠ .free ∧ (t.ctx d).port = p then 1 else 0)
    (g := fun d => if (s.ctx d).state ≠ .free ∧ (s.ctx d).port = p then 1 else 0) fun d other => by rw [h.other other]
  rw [h.here, ← State.contextCount_eq, ← State.contextCount_eq] at moved
  exact moved

theorem EntryMove.contextsOwe (h : EntryMove s t e c) (p : PortId) :
    t.contextsOwe p + (if (s.ctx e).port = p then (s.ctx e).owes else 0) =
      s.contextsOwe p + (if c.port = p then c.owes else 0) := by
  have moved := sum_allEntries_replace (e := e)
    (f := fun d => if (t.ctx d).port = p then (t.ctx d).owes else 0)
    (g := fun d => if (s.ctx d).port = p then (s.ctx d).owes else 0) fun d other => by rw [h.other other]
  rw [h.here, ← State.contextsOwe_eq, ← State.contextsOwe_eq] at moved
  exact moved

/-- A context that was not FREE keeps its port. -/
theorem EntryMove.key_kept (h : EntryMove s t e c) (was : (s.ctx e).state ≠ .free) (is : c.state ≠ .free) :
    c.port = (s.ctx e).port ∧ c.tag = (s.ctx e).tag := by
  rcases h.key with rfl | ⟨-, ⟨-, same⟩ | ⟨free, -⟩⟩
  · exact absurd rfl is
  · exact same
  · exact absurd free was

theorem SafeEntry.contexts (h : SafeEntry y s t e c) (core : Core x s) (p : PortId) :
    t.contextCount p ≤ (t.port p).profile.maxContexts := by
  have before := core.contexts p
  have moved := h.move.contextCount p
  rw [h.sides.profile]
  by_cases is : c.state ≠ .free ∧ c.port = p
  · obtain ⟨used, rfl⟩ := is
    by_cases was : (s.ctx e).state = .free
    · have room := h.room was used
      rw [if_neg fun both => both.1 was, if_pos ⟨used, rfl⟩] at moved
      omega
    · obtain ⟨port, -⟩ := h.move.key_kept was used
      rw [if_pos ⟨was, port.symm⟩, if_pos ⟨used, rfl⟩] at moved
      omega
  · rw [if_neg is] at moved
    omega

/-- Where the pages of the pool and their owners' budgets go. -/
theorem SafeEntry.pages (h : SafeEntry y s t e c) (core : Core x s) :
    (∀ p, t.pool.usageOf p ≤ (t.port p).profile.cap) ∧
      ((allPorts.filter fun p => (t.port p).state.counted).map t.unmet).sum ≤
        t.pool.freeList.length + t.pool.shortfall := by
  have unmet (p : PortId) : t.unmet p = (s.port p).profile.reserve - t.pool.usageOf p := by
    rw [State.unmet, h.sides.profile]
  have same (pool : t.pool = s.pool) : (∀ p, t.pool.usageOf p ≤ (t.port p).profile.cap) ∧
      ((allPorts.filter fun p => (t.port p).state.counted).map t.unmet).sum ≤
        t.pool.freeList.length + t.pool.shortfall := by
    rw [counted_congr h.sides.state, State.unmet_congr h.sides.profile pool, pool]
    exact ⟨fun p => by rw [h.sides.profile]; exact core.cap p, core.reserve⟩
  rcases h.move.pool with ⟨pool, -⟩ | ⟨pool, -⟩ | ⟨report, was, is, pages, pool⟩ | ⟨was, is, enough, pages, pool⟩
  · exact same pool
  · exact same pool
  · obtain ⟨-, usage, -, stock⟩ := Pool.retireAll_samePages report (s.ctx e).pages s.pool
    generalize Pool.retireAll report (s.ctx e).pages s.pool = back at pool usage stock
    have counted := core.pool.length_of_holds was
    have kept : ∀ p, back.2.usageOf p = s.pool.usageOf p := fun p => by rw [Pool.usageOf, usage, Pool.usageOf]
    have less (p : PortId) : t.pool.usageOf p =
        if (s.ctx e).port = p then s.pool.usageOf (s.ctx e).port - (s.ctx e).pageCount else s.pool.usageOf p := by
      rw [pool, Pool.giveBack_usage, kept, kept]
    have free : t.pool.freeList.length + t.pool.shortfall =
        s.pool.freeList.length + s.pool.shortfall + (s.ctx e).pageCount := by
      rw [pool, Pool.giveBack, List.length_append]
      dsimp only
      omega
    refine ⟨fun p => ?_, ?_⟩
    · have before := core.cap p
      rw [h.sides.profile, less]
      split
      · next here =>
        rw [here]
        omega
      · exact before
    · have before := core.reserve
      have sum := sum_filter_allPorts_le (k := fun p => (s.port p).state.counted) (f := t.unmet) (g := s.unmet)
        (p := (s.ctx e).port) (n := (s.ctx e).pageCount) (fun q other => by rw [unmet, less, if_neg other, State.unmet])
        (by rw [unmet, less, if_pos rfl, State.unmet]; omega)
      rw [counted_congr h.sides.state]
      omega
  · have used : c.state ≠ .free := fun free => by
      rw [free] at is
      cases is
    obtain ⟨counts, granted⟩ := h.granted was used
    rw [State.grants, State.grantOk, Bool.and_eq_true, Bool.and_eq_true, decide_eq_true_iff, decide_eq_true_iff,
      decide_eq_true_iff] at granted
    obtain ⟨⟨fits, capped⟩, reserves⟩ := granted
    have more (p : PortId) : t.pool.usageOf p =
        if c.port = p then s.pool.usageOf c.port + c.pageCount else s.pool.usageOf p := by
      rw [pool, Pool.take_usage]
    have free : t.pool.freeList.length + t.pool.shortfall =
        s.pool.freeList.length - c.pageCount + s.pool.shortfall := by
      rw [pool, Pool.take, List.length_drop]
    refine ⟨fun p => ?_, ?_⟩
    · rw [h.sides.profile, more]
      split
      · next here => exact here ▸ capped
      · exact core.cap p
    · have others : ((allPorts.filter fun q => q != c.port && (s.port q).state.counted).map t.unmet).sum =
          s.unmetOthers c.port := by
        rw [State.unmetOthers]
        refine congrArg List.sum (List.map_congr_left fun q listed => ?_)
        have kept := (List.mem_filter.1 listed).2
        rw [Bool.and_eq_true, bne_iff_ne] at kept
        rw [unmet, more, if_neg kept.1.symm, State.unmet]
      rw [counted_congr h.sides.state, sum_filter_allPorts _ _ c.port, others, if_pos counts, free, unmet, more, if_pos rfl]
      omega

theorem SafeEntry.closingLaw (h : SafeEntry y s t e c) (law : ClosingLaw s) : ClosingLaw t where
  once p := (h.closing p).nodup (law.once p) (by rw [law.members, Context.closingFor_iff])
  members p d := by
    rw [(h.closing p).mem (law.once p) (by rw [law.members, Context.closingFor_iff]) d, h.move.ctx]
    split
    · rw [Context.closingFor_iff]
    · exact law.members p d

theorem SafeEntry.core (h : SafeEntry y s t e c) (core : Core x s) : Core y t where
  pool := h.move.poolLaw core.pool
  key := h.move.keyLaw core.key
  free := h.move.freeLaw core.free
  expiry := h.move.expiryLaw core.expiry
  dispatch := h.move.dispatchLaw core.dispatch
  engine := h.move.engineLaw core.engine
  units := h.move.unitLaw core.units
  closing := h.closingLaw core.closing
  fields d := by
    rw [h.move.ctx]
    split
    · exact h.fields
    · exact core.fields d
  stopping := h.sides.stopping
  good := h.sides.good
  offContexts p d off port := by
    rw [h.sides.state] at off
    rw [h.move.ctx] at port ⊢
    split at port
    · next here =>
      rw [if_pos here]
      by_contra used
      exact (h.usable used).1 (port ▸ off)
    · next other =>
      rw [if_neg other]
      exact core.offContexts p d off port
  resettingContexts p d is port := by
    rw [h.sides.state] at is
    rw [h.move.ctx] at port ⊢
    split at port
    · next here =>
      rw [if_pos here]
      exact fun used => (h.usable used).2 (port ▸ is)
    · next other =>
      rw [if_neg other]
      exact core.resettingContexts p d is port
  resettingEngine := h.sides.resettingEngine
  resettingUnits := h.sides.resettingUnits
  reserved := h.sides.reserved
  contexts := h.contexts core
  attempts d := by
    rw [h.move.ctx]
    split
    · rw [h.sides.profile]
      exact h.attempts
    · rw [h.sides.profile]
      exact core.attempts d
  cap := (h.pages core).1
  reserve := (h.pages core).2

/-- Work in shared blocks stays, but for the port whose work has ended. -/
theorem SafeEntry.working (h : SafeEntry y s t e c) {p : PortId}
    (kept : (s.ctx e).port ≠ p ∨ inSharedBlock (s.ctx e).state = false ∨ c.port = p ∧ inSharedBlock c.state = true)
    (working : s.Working p) : t.Working p := fun is => by
  obtain ⟨d, port, shared⟩ := working (h.sides.state p ▸ is)
  by_cases here : e = d
  · subst here
    rcases kept with other | idle | ⟨own, still⟩
    · exact absurd port other
    · rw [shared] at idle
      cases idle
    · exact ⟨e, by rw [h.move.here]; exact own, by rw [h.move.here]; exact still⟩
  · exact ⟨d, by rw [h.move.other here]; exact port, by rw [h.move.other here]; exact shared⟩

end

end Sys2Proof.Machine
end

section
/-! SUPPORT. How the parts of a safe change are put together: what is owed after it, what the engine and the units obey, and the ports it leaves. -/

namespace Sys2Proof.Machine

section
variable {s t : State} {e : Entry} {c : Context} {x y : PortId → Nat} {p : PortId}

/-! ### What is owed -/

theorem Context.owes_free : Context.free.owes = 0 := rfl

theorem Context.owes_eq_zero {c : Context} (pending : c.pendingDecode = none) (release : c.releasePending = none) :
    c.owes = 0 := by
  rw [Context.owes, pending, release]
  rfl

/-- A context that is in no progress is owed nothing. -/
theorem Context.Fields.owes_of_idle (h : c.Fields) (idle : inFlight c.state = false) : c.owes = 0 := by
  refine Context.owes_eq_zero (h.pending_none ?_) (h.release_none ?_) <;> revert idle <;> cases c.state <;> decide

theorem Engine.owes_congr {a b : Engine} (same : b.combine.map Combine.owner = a.combine.map Combine.owner) (p : PortId) :
    b.owes p = a.owes p := by
  cases engine : a.combine with
  | none =>
    have idle := (Combine.of_owner same).1 engine
    rw [Engine.owes, Engine.owes, engine, idle]
  | some k =>
    obtain ⟨l, busy, port, -, action⟩ := (Combine.of_owner same).2 k engine
    rw [Engine.owes, Engine.owes, engine, busy]
    dsimp only
    rw [port, action]

theorem Engine.owes_of_none {en : Engine} (idle : en.combine = none) (p : PortId) : en.owes p = 0 := by
  rw [Engine.owes, idle]

theorem Engine.owes_of_some {en : Engine} {k : Combine} (busy : en.combine = some k) (p : PortId) :
    en.owes p = if k.port = p ∧ k.action = .holdOnly then 1 else 0 := by
  rw [Engine.owes, busy]

theorem Units.owes_eq (us : Units) (p : PortId) :
    us.owes p = ((us.job .du0).any fun j => j.port == p).toNat +
      (if us.isPaired = true then 0 else ((us.job .du1).any fun j => j.port == p).toNat) := by
  cases us with
  | apart a b => rfl
  | paired j => rfl

theorem Units.owes_of_keep {us us' : Units} (h : UnitsKeep us us') (p : PortId) : us'.owes p = us.owes p := by
  have any (u : UnitId) : ((us'.job u).any fun j => j.port == p) = ((us.job u).any fun j => j.port == p) := by
    have owner := congrArg (Option.any fun o : Entry × PortId => o.2 == p) (h.owners u)
    rwa [Option.any_map, Option.any_map] at owner
  rw [Units.owes_eq, Units.owes_eq, any, any, h.paired]

theorem Units.owes_clear {us : Units} {u : UnitId} {j : Job} (unit : us.job u = some j) (p : PortId) :
    us.owes p = (us.clear u).owes p + (j.port == p).toNat := by
  cases us with
  | apart a b =>
    cases u <;> cases unit <;> simp [Units.clear, Units.owes, Nat.add_comm]
  | paired k =>
    cases unit
    simp [Units.clear, Units.owes]

theorem Units.owes_assign_one {us : Units} {u : UnitId} (idle : us.job u = none) (j : Job) (p : PortId) :
    (us.assign (.one u) j).owes p = us.owes p + (j.port == p).toNat := by
  cases us with
  | apart a b =>
    cases u <;> cases idle <;> simp [Units.assign, Units.setJob, Units.owes, Nat.add_comm]
  | paired k => cases idle

theorem Units.owes_assign_pair {us : Units} (lower : us.job .du0 = none) (upper : us.job .du1 = none) (j : Job)
    (p : PortId) : (us.assign .pair j).owes p = us.owes p + (j.port == p).toNat := by
  cases us with
  | apart a b =>
    cases lower
    cases upper
    simp [Units.assign, Units.owes]
  | paired k => cases lower

/-- What is owed to a port after a change of one entry, part by part. -/
theorem EntryMove.owed_balance (h : EntryMove s t e c) (p : PortId) :
    t.owed p + (s.port p).owes + (if (s.ctx e).port = p then (s.ctx e).owes else 0) + s.engine.owes p + s.units.owes p =
      s.owed p + (t.port p).owes + (if c.port = p then c.owes else 0) + t.engine.owes p + t.units.owes p := by
  have moved := h.contextsOwe p
  rw [State.owed_eq, State.owed_eq]
  omega

/-- The owners of the reservations of the ports that a change does not touch. -/
theorem EntryMove.owed_other (h : EntryMove s t e c) (port : t.port p = s.port p)
    (was : (s.ctx e).port = p → (s.ctx e).owes = 0) (is : c.port = p → c.owes = 0)
    (engine : t.engine.owes p = s.engine.owes p) (units : t.units.owes p = s.units.owes p) : t.owed p = s.owed p := by
  have moved := h.owed_balance p
  have before : (if (s.ctx e).port = p then (s.ctx e).owes else 0) = 0 := by
    split
    · next here => exact was here
    · rfl
  have after : (if c.port = p then c.owes else 0) = 0 := by
    split
    · next here => exact is here
    · rfl
  rw [before, after, port, engine, units] at moved
  omega

theorem Still.owed (h : Still s t) (p : PortId) : t.owed p + (s.port p).owes = s.owed p + (t.port p).owes := by
  rw [State.owed_eq, State.owed_eq, h.contextsOwe, Engine.owes_congr h.engine, Units.owes_of_keep h.units]
  omega

/-! ### Releases and resets -/

/-- The decodes after a change are among those before it, and no release is asked for. -/
theorem EntryMove.stopping (h : EntryMove s t e c) (core : Core x s)
    (jobs : ∀ u j, t.units.job u = some j → s.units.job u = some j)
    (release : c.releasePending.isSome → (s.ctx e).releasePending.isSome) (u : UnitId) (j : Job)
    (unit : t.units.job u = some j) (waits : (t.ctx j.entry).releasePending.isSome) : j.stopping = true := by
  refine core.stopping u j (jobs u j unit) ?_
  rw [h.ctx] at waits
  split at waits
  · next here => exact here ▸ release waits
  · exact waits

/-! ### One port -/

/-- A replaced port, and every other as it was. -/
theorem State.port_of_setPort {u : State} {q : Port} (ports : ∀ r, u.port r = s.port r) (r : PortId) :
    (u.setPort p q).port r = if p = r then q else s.port r := by
  split
  · next here => rw [← here, State.setPort_port_same]
  · next other => rw [State.setPort_port_other _ _ _ _ other, ports]

/-- A field of all ports that the replacement of one keeps. -/
theorem field_of_port {α : Type} {f : Port → α} {q : Port} (port : ∀ r, t.port r = if p = r then q else s.port r)
    (same : f q = f (s.port p)) (r : PortId) : f (t.port r) = f (s.port r) := by
  rw [port]
  split
  · next here => rw [same, here]
  · rfl

theorem good_of_port {q : Port} (core : Core x s) (port : ∀ r, t.port r = if p = r then q else s.port r)
    (good : q.Good) (r : PortId) : (t.port r).Good := by
  rw [port]
  split
  · exact good
  · exact core.good r

/-- The port of a context that is in no shared block is in use. -/
theorem Core.open_of_idle (core : Core x s) (used : (s.ctx e).state ≠ .free)
    (idle : inSharedBlock (s.ctx e).state = false) : (s.port (s.ctx e).port).Open := by
  refine ⟨fun off => used (core.offContexts _ e off rfl), ?_⟩
  rw [Bool.eq_false_iff]
  intro is
  rw [core.resettingContexts _ e is rfl used] at idle
  cases idle

theorem Core.ne_off (core : Core x s) (used : (s.ctx e).state ≠ .free) : (s.port (s.ctx e).port).state ≠ .off :=
  fun off => used (core.offContexts _ e off rfl)

/-- A notice is posted into an entry that is free. -/
theorem Port.Good.posted {q : Port} (good : q.Good) (is : q.Open) (room : q.answers.length + q.reservations < 64)
    (a : Answer) : Port.Good { q with answers := q.answers ++ [a] } := by
  refine .of_open is ?_ good.head (fun some => ?_) good.slot
  · show (q.answers ++ [a]).length + q.reservations ≤ 64
    rw [List.length_append, List.length_singleton]
    omega
  · have full := good.waiting some
    omega

/-- A context waits in CLOSING while no entry is free. -/
theorem Port.Good.closes {q : Port} (good : q.Good) (is : q.Open) (full : 64 ≤ q.answers.length + q.reservations)
    (l : List Entry) : Port.Good { q with closing := l } :=
  .of_open is good.fits good.head (fun _ => Nat.le_antisymm good.fits full) good.slot

end

end Sys2Proof.Machine
end

section
/-! SUPPORT. A change of one entry beside the engine and the units is safe: the ends of HELD, SOLVED and CLOSING contexts (spec/01 R22, R23, spec/02 R45, spec/06 R123, R124, spec/08 R157, R158). -/

namespace Sys2Proof.Machine

section
variable {s t : State} {e : Entry} {c : Context} {x y : PortId → Nat} {p : PortId} {q : Port}

/-- Only one port changes, and with it what it is owed. -/
theorem Sides.of_port (core : Core x s) (port : ∀ r, t.port r = if p = r then q else s.port r)
    (state : q.state = (s.port p).state) (profile : q.profile = (s.port p).profile) (good : q.Good)
    (stopping : ∀ u j, t.units.job u = some j → (t.ctx j.entry).releasePending.isSome → j.stopping = true)
    (resettingEngine : ∀ k, t.engine.combine = some k → ((s.port k.port).state.isResetting = true ↔
      k.abortRequested = true) ∧ (k.atBoundary = true → k.abortRequested = true))
    (resettingUnits : ∀ u j, t.units.job u = some j → (s.port j.port).state.isResetting = true → j.stopping = true)
    (others : ∀ r, p ≠ r → t.owed r = s.owed r) (surplus : ∀ r, p ≠ r → y r = x r)
    (reserved : q.state.isResetting = false → q.reservations = t.owed p + y p) : Sides y s t where
  state := field_of_port port state
  profile := field_of_port port profile
  good := good_of_port core port good
  stopping := stopping
  resettingEngine k busy := by
    rw [field_of_port port state]
    exact resettingEngine k busy
  resettingUnits u j unit := by
    rw [field_of_port port state]
    exact resettingUnits u j unit
  reserved r := by
    rw [port]
    split
    · next here => exact here ▸ reserved
    · next other =>
      rw [others r other, surplus r other]
      exact core.reserved r

/-- A change of one entry that leaves the engine and the units to their contexts. -/
theorem EntryMove.sides (move : EntryMove s t e c) (core : Core x s)
    (port : ∀ r, t.port r = if p = r then q else s.port r) (state : q.state = (s.port p).state)
    (profile : q.profile = (s.port p).profile) (good : q.Good) (units : t.units = s.units)
    (engine : t.engine.combine = s.engine.combine) (release : c.releasePending.isSome → (s.ctx e).releasePending.isSome)
    (was : (s.ctx e).port = p ∨ (s.ctx e).owes = 0) (is : c.port = p ∨ c.owes = 0) (surplus : ∀ r, p ≠ r → y r = x r)
    (account : (s.port p).state.isResetting = false →
      q.reservations + (s.port p).owes + (if (s.ctx e).port = p then (s.ctx e).owes else 0) + x p =
        (s.port p).reservations + q.owes + (if c.port = p then c.owes else 0) + y p) : Sides y s t := by
  have engineOwes (r : PortId) : t.engine.owes r = s.engine.owes r := Engine.owes_congr (by rw [engine]) r
  have unitsOwe (r : PortId) : t.units.owes r = s.units.owes r := by rw [units]
  have jobs : ∀ u j, t.units.job u = some j → s.units.job u = some j := fun u j => by rw [units]; exact id
  refine .of_port core port state profile good (move.stopping core jobs release)
    (fun k busy => core.resettingEngine k (engine ▸ busy)) (fun u j unit => core.resettingUnits u j (jobs u j unit))
    (fun r other => ?_) surplus fun open_ => ?_
  · exact move.owed_other (by rw [port, if_neg other]) (fun here => was.resolve_left fun own => other (own.symm.trans here))
      (fun here => is.resolve_left fun own => other (own.symm.trans here)) (engineOwes r) (unitsOwe r)
  · rw [state] at open_
    have before := core.reserved p open_
    have balance := move.owed_balance p
    have spent := account open_
    rw [port, if_pos rfl, engineOwes, unitsOwe] at balance
    omega

/-! ### Ends of contexts that are in no progress -/

/-- A context in no progress ends or waits in CLOSING; its port loses no reservation. -/
theorem EntryMove.safe_of_idle (move : EntryMove s t e c) (core : Core x s) (used : (s.ctx e).state ≠ .free)
    (idle : inFlight (s.ctx e).state = false) (end_ : c = Context.free ∨ c.state = .closing)
    (fields : c.Fields) (kept : c.state ≠ .free → c.combinedCount = (s.ctx e).combinedCount ∧
      c.lastAttempt = (s.ctx e).lastAttempt)
    (port : ∀ r, t.port r = if (s.ctx e).port = r then q else s.port r) (state : q.state = (s.port (s.ctx e).port).state)
    (profile : q.profile = (s.port (s.ctx e).port).profile) (good : q.Good)
    (reservations : q.reservations = (s.port (s.ctx e).port).reservations)
    (owes : q.owes = (s.port (s.ctx e).port).owes) (units : t.units = s.units)
    (engine : t.engine.combine = s.engine.combine)
    (closing : ∀ r, ListMove (s.port r).closing (t.port r).closing e ((s.ctx e).closingFor r) (c.closingFor r)) :
    SafeEntry x s t e c := by
  have isIdle : inFlight c.state = false := by
    rcases end_ with rfl | is
    · rfl
    · rw [is]
      rfl
  have notShared : inSharedBlock (s.ctx e).state = false := by
    revert idle
    cases (s.ctx e).state <;> decide
  have before := (core.fields e).owes_of_idle idle
  have after := fields.owes_of_idle isIdle
  have noRelease : c.releasePending = none := fields.release_none (by revert isIdle; cases c.state <;> decide)
  refine ⟨move, move.sides core port state profile good units engine (fun some => ?_) (.inl rfl) (.inr after)
    (fun _ _ => rfl) (fun _ => ?_), closing, fields, fun is => ?_, fun is => ?_, fun free => absurd free used,
    fun free => absurd free used⟩
  · rw [noRelease] at some
    cases some
  · rw [before, after, ite_self, ite_self, reservations, owes]
  · obtain ⟨samePort, -⟩ := move.key_kept used is
    obtain ⟨on, open_⟩ := core.open_of_idle used notShared
    rw [samePort]
    exact ⟨on, fun resetting => by rw [open_] at resetting; cases resetting⟩
  · obtain ⟨samePort, -⟩ := move.key_kept used is
    obtain ⟨count, last⟩ := kept is
    rw [samePort, count, last]
    exact core.attempts e used

theorem Context.Fields.closing {c : Context} (h : c.Fields) (held : c.state = .held) (k : NoticeKind) :
    (c.closing k).Fields where
  pending some := by
    rw [Context.closing, h.pending_none (by rw [held]; rfl)] at some
    cases some
  release some := by
    rw [Context.closing, h.release_none (by rw [held]; rfl)] at some
    cases some
  notice := ⟨fun _ => rfl, fun _ => rfl⟩
  deadline _ _ := rfl

/-- A context that is not CLOSING leaves the closing orders as they are when it does not become CLOSING. -/
theorem ListMove.unclosing {b : Context} {l l' : List Entry} (same : l' = l) (was : b.state ≠ .closing)
    (is : c.state ≠ .closing) (r : PortId) : ListMove l l' e (b.closingFor r) (c.closingFor r) := by
  rw [Context.closingFor_of_ne was, Context.closingFor_of_ne is]
  exact .out same

theorem Core.safe_endHeld (core : Core x s) (held : (s.ctx e).state = .held) (k : NoticeKind) :
    SafeEntry x s (s.endHeld k e) e (s.heldEnd k e) := by
  have used : (s.ctx e).state ≠ .free := by rw [held]; decide
  have open_ := core.open_of_idle used (by rw [held]; rfl)
  have good := core.good (s.ctx e).port
  have engine : (s.endHeld k e).engine.combine = s.engine.combine := by rw [State.endHeld_engine]
  have move := State.endHeld_move held k
  by_cases room : (s.port (s.ctx e).port).answers.length + (s.port (s.ctx e).port).reservations < 64
  · have end_ : s.heldEnd k e = Context.free := by rw [State.heldEnd, if_pos ((Port.room_iff _).2 room)]
    have port : ∀ r, (s.endHeld k e).port r = if (s.ctx e).port = r then _ else s.port r := fun r => by
      rw [State.endHeld_of_room rfl rfl held room]
      exact State.port_of_setPort (fun _ => rfl) r
    rw [end_] at move ⊢
    refine move.safe_of_idle core used (by rw [held]; rfl) (.inl rfl) .free (fun h => absurd rfl h) port rfl rfl
      ((Port.Alike.signalled _ _).good (good.posted open_ room _) open_.1) rfl (Port.Alike.signalled _ _).owes
      (s.endHeld_units k e) engine fun r => .unclosing ?_ (by rw [held]; decide) (by decide) r
    exact field_of_port (f := Port.closing) port (by rfl) r
  · have end_ : s.heldEnd k e = (s.ctx e).closing k := by
      rw [State.heldEnd, if_neg fun h => room ((Port.room_iff _).1 h)]
    have port : ∀ r, (s.endHeld k e).port r = if (s.ctx e).port = r then _ else s.port r := fun r => by
      rw [State.endHeld_of_noRoom rfl rfl held (Nat.le_of_not_lt room)]
      exact State.port_of_setPort (fun _ => rfl) r
    rw [end_] at move ⊢
    refine move.safe_of_idle core used (by rw [held]; rfl) (.inr rfl) ((core.fields e).closing held k)
      (fun _ => ⟨rfl, rfl⟩) port rfl rfl (good.closes open_ (Nat.le_of_not_lt room) _) rfl rfl (s.endHeld_units k e)
      engine fun r => ?_
    rw [Context.closingFor_of_ne (by rw [held]; decide), port]
    split
    · next here =>
      rw [Context.closingFor, here]
      simp only [Context.closing, here, beq_self_eq_true, Bool.and_true]
      exact .joins (List.perm_append_singleton _ _)
    · next other =>
      rw [Context.closingFor]
      simp only [Context.closing, beq_eq_false_iff_ne.2 other, Bool.and_false]
      exact .out rfl

theorem Core.safe_endTombstone (core : Core x s) (solved : (s.ctx e).state = .solved) :
    SafeEntry x s (s.endTombstone e) e Context.free := by
  have used : (s.ctx e).state ≠ .free := by rw [solved]; decide
  have port : ∀ r, (s.endTombstone e).port r = if (s.ctx e).port = r then _ else s.port r := fun r => by
    rw [State.endTombstone_of_solved rfl rfl solved]
    exact State.port_of_setPort (fun _ => rfl) r
  refine (State.endTombstone_move solved).safe_of_idle core used (by rw [solved]; rfl) (.inl rfl) .free
    (fun h => absurd rfl h) port rfl rfl ((Port.Alike.signalled _ _).good (core.good _) (core.ne_off used)) rfl
    (Port.Alike.signalled _ _).owes (by simp) (by simp) fun r => .unclosing ?_ (by rw [solved]; decide) (by decide) r
  exact field_of_port (f := Port.closing) port rfl r

end

end Sys2Proof.Machine
end

section
/-! SUPPORT. Accesses of a client port, and pops, are safe (spec/07 R128 to R135, R149, R150, spec/08 R157 to R167). -/

namespace Sys2Proof.Machine

/-- Every law of one moment but the store's: no reservation lacks an owner, and a RESETTING port has work. -/
structure Sound (s : State) : Prop where
  core : Core noSurplus s
  working : ∀ p, s.Working p

theorem Laws.sound {s : State} (h : Laws s) : Sound s := ⟨h.core, h.working⟩

section
variable {s t : State} {e : Entry} {c : Context} {x y : PortId → Nat} {p : PortId} {q : Port}

theorem SafeStill.sound (h : SafeStill noSurplus s t) (sound : Sound s) : Sound t :=
  ⟨h.core sound.core, fun p => h.working (sound.working p)⟩

/-- A change of one entry that ends no work in a shared block. -/
theorem SafeEntry.sound (h : SafeEntry noSurplus s t e c) (sound : Sound s)
    (kept : inSharedBlock (s.ctx e).state = false ∨ c.port = (s.ctx e).port ∧ inSharedBlock c.state = true) :
    Sound t := by
  refine ⟨h.core sound.core, fun p => h.working ?_ (sound.working p)⟩
  rcases kept with idle | ⟨port, shared⟩
  · exact .inr (.inl idle)
  · by_cases own : (s.ctx e).port = p
    · exact .inr (.inr ⟨port.trans own, shared⟩)
    · exact .inl own

/-! ### One port changes -/

/-- One port changes, and nothing that the contexts, the engine or the units hold. -/
theorem Still.safe (h : Still s t) (core : Core x s) (engine : t.engine.combine = s.engine.combine)
    (units : t.units = s.units) (port : ∀ r, t.port r = if p = r then q else s.port r)
    (state : q.state = (s.port p).state) (profile : q.profile = (s.port p).profile) (good : q.Good)
    (closing : q.closing = (s.port p).closing) (surplus : ∀ r, p ≠ r → y r = x r)
    (account : (s.port p).state.isResetting = false →
      q.reservations + (s.port p).owes + x p = (s.port p).reservations + q.owes + y p) : SafeStill y s t := by
  have jobs : ∀ u j, t.units.job u = some j → s.units.job u = some j := fun u j => by rw [units]; exact id
  refine ⟨h, .of_port core port state profile good (fun u j unit waits => ?_)
    (fun k busy => core.resettingEngine k (engine ▸ busy)) (fun u j unit => core.resettingUnits u j (jobs u j unit))
    (fun r other => ?_) surplus fun open_ => ?_, field_of_port (f := Port.closing) port closing⟩
  · rw [h.ctx] at waits
    exact core.stopping u j (jobs u j unit) waits
  · have owed := h.owed r
    rw [port, if_neg other] at owed
    omega
  · rw [state] at open_
    have before := core.reserved p open_
    have owed := h.owed p
    have spent := account open_
    rw [port, if_pos rfl] at owed
    omega

/-- A port in use changes in nothing that the laws read. -/
theorem Still.safe_alike (h : Still s t) (core : Core x s) (engine : t.engine.combine = s.engine.combine)
    (units : t.units = s.units) (port : ∀ r, t.port r = if p = r then q else s.port r)
    (used : (s.port p).state ≠ .off) (alike : (s.port p).Alike q) : SafeStill x s t :=
  h.safe core engine units port alike.state alike.profile (alike.good (core.good p) used) alike.closing (fun _ _ => rfl)
    fun _ => by rw [alike.reservations, alike.owes]

theorem Port.Good.bus {q : Port} (good : q.Good) (bus : BusOut) : Port.Good { q with bus := bus } where
  off is := by
    rw [good.off is]
    rfl
  resetting := good.resetting
  fits := good.fits
  head := good.head
  waiting := good.waiting
  slot := good.slot

/-- The answer of the bus touches nothing that the laws read. -/
theorem Core.safe_busAnswer (core : Core x s) (p : PortId) (data : List Word64) : SafeStill x s (s.busAnswer p data) :=
  (Still.onPort s p _).safe core rfl rfl (State.port_of_setPort fun _ => rfl) rfl rfl ((core.good p).bus _) rfl
    (fun _ _ => rfl) fun _ => rfl

theorem Sound.busAnswer (sound : Sound s) (p : PortId) (data : List Word64) : Sound (s.busAnswer p data) :=
  (sound.core.safe_busAnswer p data).sound sound

/-- Nothing but the opportunity changes. -/
theorem Core.safe_same (core : Core x s) (contexts : t.contexts = s.contexts) (pool : t.pool = s.pool)
    (expiry : t.expiry.list = s.expiry.list) (dispatcher : t.dispatcher = s.dispatcher)
    (engine : t.engine.combine = s.engine.combine) (units : t.units = s.units) (ports : t.ports = s.ports) :
    SafeStill x s t := by
  have port (r : PortId) : t.port r = s.port r := congrArg (·.get r) ports
  refine (Still.of_eq contexts pool expiry dispatcher engine units).safe (p := 0) core engine units (fun r => ?_) rfl rfl
    (core.good 0) rfl (fun _ _ => rfl) fun _ => rfl
  rw [port]
  split
  · next here => rw [here]
  · rfl

/-! ### Writes and reads -/

/-- A port that has taken more descriptors, and is otherwise as it was. -/
def Port.Longer (q q' : Port) : Prop := ∃ more, Port.Alike { q with queue := q.queue ++ more } q'

theorem Port.Longer.good (h : q.Longer q') (good : q.Good) (is : q.Open) : q'.Good := by
  obtain ⟨more, alike⟩ := h
  refine alike.good (.of_open is good.fits (fun reserved => ?_) good.waiting good.slot) is.1
  obtain ⟨intake, x, rest, queue, release⟩ := good.head reserved
  exact ⟨intake, x, rest ++ more, by rw [queue, List.cons_append], release⟩

theorem Port.Longer.of_alike (h : q.Alike q') : q.Longer q' :=
  ⟨[], by rw [List.append_nil]; exact h⟩

theorem Port.appendDescriptor_longer (d : Descriptor) (q : Port) : q.Longer (q.appendDescriptor d) := by
  have appended (x : QueueEntry) : q.Longer { q with queue := q.queue ++ [x] } := ⟨[x], .refl _⟩
  rw [Port.appendDescriptor]
  split
  · exact .of_alike (.of_slot rfl rfl (fun _ => id) rfl rfl rfl rfl rfl rfl rfl)
  · split
    · next b _ _ =>
      refine ⟨[⟨d, some b, (q.buf b).values.length, (q.buf b).overrun⟩], Port.Alike.trans ?_ (.refill _)⟩
      cases b <;> exact .of_slot rfl rfl (fun _ => id) rfl rfl rfl rfl rfl rfl rfl
    · exact appended _
    · exact appended _
    · exact appended _
    · exact appended _

theorem Port.takeWord_longer (w : Word64) {q : Port} (active : q.state = .active) : q.Longer (q.takeWord w) := by
  have never : ¬ q.state.isResetting = true := by rw [active]; decide
  rw [Port.takeWord]
  split
  · exact .of_alike (.of_slot rfl rfl (fun is => absurd is never) rfl rfl rfl rfl rfl rfl rfl)
  · obtain ⟨more, alike⟩ := Port.appendDescriptor_longer (descriptorOfWords (q.assembly ++ [w])) { q with assembly := [] }
    exact ⟨more, .trans (q' := { q with assembly := [], queue := q.queue ++ more })
      (.of_slot rfl rfl (fun is => absurd is never) rfl rfl rfl rfl rfl rfl rfl) alike⟩

theorem Port.Alike.dropSubmit (q : Port) : q.Alike q.dropSubmit :=
  .of_slot rfl rfl (fun _ _ => rfl) rfl rfl rfl rfl rfl rfl rfl

/-- A SUBMIT write to a port in use. -/
theorem Port.writeSubmit_longer (w : WriteBurst) {q : Port} (used : q.state ≠ .off) :
    q.Longer (q.writeSubmit w) ∧ (q.state.isResetting = true → q.Alike (q.writeSubmit w)) := by
  rw [Port.writeSubmit]
  cases state : q.state with
  | off => exact absurd state used
  | active =>
    dsimp only
    split
    · exact ⟨Port.takeWord_longer _ state, nofun⟩
    · exact ⟨.of_alike (.dropSubmit q), nofun⟩
  | draining => exact ⟨.of_alike (.dropSubmit q), nofun⟩
  | resetting target => exact ⟨.of_alike (.dropSubmit q), fun _ => .dropSubmit q⟩

theorem Port.Longer.kept (h : q.Longer q') : q'.state = q.state ∧ q'.profile = q.profile ∧ q'.closing = q.closing ∧
    q'.reservations = q.reservations ∧ q'.owes = q.owes := by
  obtain ⟨more, alike⟩ := h
  exact ⟨alike.state, alike.profile, alike.closing, alike.reservations, alike.owes⟩

/-- A change of a port that its own laws survive, with nothing taken or given of what is owed. -/
theorem Core.safe_onPort (core : Core x s) {f : Port → Port} (state : (f (s.port p)).state = (s.port p).state)
    (profile : (f (s.port p)).profile = (s.port p).profile) (good : (f (s.port p)).Good)
    (closing : (f (s.port p)).closing = (s.port p).closing)
    (reservations : (f (s.port p)).reservations = (s.port p).reservations) (owes : (f (s.port p)).owes = (s.port p).owes) :
    SafeStill x s (s.onPort p f) :=
  (Still.onPort s p f).safe core rfl rfl (State.port_of_setPort fun _ => rfl) state profile good closing
    (fun _ _ => rfl) fun _ => by rw [reservations, owes]

theorem Core.safe_onPort_alike (core : Core x s) {f : Port → Port} (used : (s.port p).state ≠ .off)
    (alike : (s.port p).Alike (f (s.port p))) : SafeStill x s (s.onPort p f) :=
  (Still.onPort s p f).safe_alike core rfl rfl (State.port_of_setPort fun _ => rfl) used alike

theorem Core.safe_refl (core : Core x s) : SafeStill x s s := core.safe_same rfl rfl rfl rfl rfl rfl rfl

theorem State.onPort_self {f : Port → Port} (same : f (s.port p) = s.port p) : s.onPort p f = s := by
  rw [State.onPort, same, State.setPort_self]

theorem Core.safe_writeSubmit (core : Core x s) (p : PortId) (w : WriteBurst) :
    SafeStill x s (s.onPort p (·.writeSubmit w)) := by
  by_cases off : (s.port p).state = .off
  · rw [State.onPort_self (by rw [Port.writeSubmit, off])]
    exact core.safe_refl
  · obtain ⟨longer, alike⟩ := Port.writeSubmit_longer w off
    obtain ⟨state, profile, closing, reservations, owes⟩ := longer.kept
    refine core.safe_onPort state profile ?_ closing reservations owes
    cases is : (s.port p).state.isResetting with
    | true => exact (alike is).good (core.good p) off
    | false => exact longer.good (core.good p) ⟨off, is⟩

theorem Port.Alike.softDropped (q : Port) : q.Alike { q with softDropped := true } :=
  .of_slot rfl rfl (fun _ => id) rfl rfl rfl rfl rfl rfl rfl

theorem Port.Alike.takeSoft (w : Word64) (q : Port) : q.Alike (q.takeSoft w) := by
  rw [Port.takeSoft]
  split
  · exact .softDropped q
  · split
    · exact .setBuf q _ _
    · exact .setBuf q _ _

theorem Core.safe_writeSoft (core : Core x s) (p : PortId) (w : WriteBurst) :
    SafeStill x s (s.onPort p (·.writeSoft w)) := by
  by_cases off : (s.port p).state = .off
  · rw [State.onPort_self (by rw [Port.writeSoft, off])]
    exact core.safe_refl
  · refine core.safe_onPort_alike off ?_
    rw [Port.writeSoft]
    split
    · exact .refl _
    · split
      · exact .takeSoft _ _
      · exact .softDropped _
    · exact .softDropped _
    · exact .softDropped _

theorem Port.Good.clearFlags {q : Port} (good : q.Good) :
    Port.Good { q with submitDropped := false, softDropped := false } where
  off is := by
    rw [good.off is]
    rfl
  resetting := good.resetting
  fits := good.fits
  head := good.head
  waiting := good.waiting
  slot := good.slot

theorem Sound.submit (sound : Sound s) (p : PortId) (w : WriteBurst) :
    Sound ((s.onPort p (·.writeSubmit w)).busAnswer p []) :=
  ((sound.core.safe_writeSubmit p w).sound sound).busAnswer p []

theorem Sound.softData (sound : Sound s) (p : PortId) (w : WriteBurst) :
    Sound ((s.onPort p (·.writeSoft w)).busAnswer p []) :=
  ((sound.core.safe_writeSoft p w).sound sound).busAnswer p []

theorem Sound.status (sound : Sound s) (p : PortId) (data : List Word64) :
    Sound ((s.onPort p fun q => { q with submitDropped := false, softDropped := false }).busAnswer p data) :=
  ((sound.core.safe_onPort (p := p) (f := fun q => { q with submitDropped := false, softDropped := false }) rfl rfl
    (sound.core.good p).clearFlags rfl rfl rfl).sound sound).busAnswer p data

theorem Port.used_of_returned {w : WriteBurst} {i : SlotId} (returned : q.returned? w = some i) : q.state ≠ .off := by
  intro off
  rw [Port.returned?, off] at returned
  cases returned

theorem Sound.returnSlot (sound : Sound s) {p : PortId} {w : WriteBurst} (run : execReturnSlot p w s = .next t) :
    Sound t := by
  rw [execReturnSlot] at run
  split at run
  · cases run
    exact sound.busAnswer p []
  · next i returned =>
    cases run
    have taken := (sound.core.safe_onPort_alike (Port.used_of_returned returned) (.setOutSlot _ i .free)).sound sound
    exact ((taken.core.safe_same (t := (s.setOutSlot p i .free).setOpportunity true) rfl rfl rfl rfl rfl rfl rfl).sound
      taken).busAnswer p []

/-! ### Pops (R157, R158, R160) -/

theorem Core.open_of_answers (core : Core x s) (some : (s.port p).answers ≠ []) : (s.port p).Open := by
  refine ⟨fun off => some ?_, ?_⟩
  · rw [(core.good p).off off]
    rfl
  · rw [Bool.eq_false_iff]
    intro is
    obtain ⟨-, -, -, none, -⟩ := (core.good p).resetting is
    exact some none

theorem Core.safe_pop (core : Core x s) (some : (s.port p).answers ≠ []) (none : (s.port p).closing = []) :
    SafeStill x s (s.popAnswer p) := by
  have is := core.open_of_answers some
  have good := core.good p
  rw [State.popAnswer_of_no_closing none]
  refine (Still.onPort s p fun _ => _).safe core rfl rfl (State.port_of_setPort fun _ => rfl) rfl rfl
    (.of_open is ?_ (fun reserved => ?_) (fun h => absurd none h) good.slot) rfl (fun _ _ => rfl) fun _ => rfl
  · have fits := good.fits
    have shorter := (s.port p).answers.length_tail
    dsimp only
    omega
  · obtain ⟨intake, head⟩ := good.head reserved
    exact ⟨by dsimp only; rw [intake]; rfl, head⟩

theorem Core.safe_popClosing (core : Core x s) {more : List Entry} (some : (s.port p).answers ≠ [])
    (oldest : (s.port p).closing = e :: more) :
    (s.ctx e).state = .closing ∧ SafeEntry x s (s.popAnswer p) e Context.free := by
  have is := core.open_of_answers some
  have good := core.good p
  obtain ⟨state, rfl⟩ := (core.closing.members p e).1 (by rw [oldest]; exact List.mem_cons_self)
  obtain ⟨n, owed⟩ := Option.isSome_iff_exists.1 ((core.fields e).notice.2 state)
  have full : (s.port (s.ctx e).port).answers.length + (s.port (s.ctx e).port).reservations = 64 :=
    good.waiting (by rw [oldest]; exact List.cons_ne_nil _ _)
  have port : ∀ r, (s.popAnswer (s.ctx e).port).port r = if (s.ctx e).port = r then _ else s.port r := fun r => by
    rw [State.popAnswer_of_closing oldest state rfl owed]
    exact State.port_of_setPort (fun _ => rfl) r
  have move : EntryMove s (s.popAnswer (s.ctx e).port) e Context.free := by
    rcases s.popAnswer_move (s.ctx e).port with still | ⟨d, -, move⟩
    · have free := still.ctx e
      rw [State.popAnswer_ctx, if_pos ⟨by rw [oldest]; rfl, state⟩] at free
      rw [← free] at state
      cases state
    · have free := s.popAnswer_ctx (s.ctx e).port e
      rw [if_pos ⟨by rw [oldest]; rfl, state⟩] at free
      by_cases here : d = e
      · exact here ▸ move
      · rw [move.other here] at free
        rw [free] at state
        cases state
  refine ⟨state, move.safe_of_idle core (by rw [state]; decide) (by rw [state]; rfl) (.inl rfl) .free
    (fun h => absurd rfl h) port rfl rfl
    ((Port.Alike.signalled _ _).good (.of_open is ?_ good.head (fun _ => ?_) good.slot) is.1) rfl
    (Port.Alike.signalled _ _).owes (by simp) (by simp) fun r => ?_⟩
  · show ((s.port (s.ctx e).port).answers.tail ++ [_]).length + (s.port (s.ctx e).port).reservations ≤ 64
    have shorter := List.length_pos_of_ne_nil some
    rw [List.length_append, List.length_tail, List.length_singleton]
    omega
  · show ((s.port (s.ctx e).port).answers.tail ++ [_]).length + (s.port (s.ctx e).port).reservations = 64
    have shorter := List.length_pos_of_ne_nil some
    rw [List.length_append, List.length_tail, List.length_singleton]
    omega
  · rw [Context.closingFor_of_ne (c := Context.free) (by decide), Context.closingFor, state, port]
    split
    · next here =>
      rw [← here, oldest, beq_self_eq_true, beq_self_eq_true]
      exact .leaves (List.erase_cons_head e more).symm
    · next other =>
      rw [beq_eq_false_iff_ne.2 other]
      exact .out rfl

theorem Sound.popAnswer (sound : Sound s) (some : (s.port p).answers ≠ []) : Sound (s.popAnswer p) := by
  cases closing : (s.port p).closing with
  | nil => exact (sound.core.safe_pop some closing).sound sound
  | cons e more =>
    obtain ⟨state, safe⟩ := sound.core.safe_popClosing some closing
    exact safe.sound sound (.inl (by rw [state]; rfl))

theorem Sound.answer (sound : Sound s) {p : PortId} {beats : List Lanes} (run : execAnswer p beats s = .next t) :
    Sound t := by
  rw [execAnswer] at run
  cases run
  refine Sound.busAnswer ?_ p _
  split
  · next pops =>
    rw [Port.pops, Bool.and_eq_true, Bool.not_eq_true', List.isEmpty_eq_false_iff] at pops
    exact sound.popAnswer pops.2
  · exact sound

end

end Sys2Proof.Machine
end

section
/-! SUPPORT. A try of the intake is safe (spec/07 R137 to R144, spec/01 R25, R26). -/

namespace Sys2Proof.Machine

section
variable {s t : State} {e : Entry} {c : Context} {x : PortId → Nat} {p : PortId} {q : Port} {d : QueueEntry}
  {rest : List QueueEntry}

/-! ### Ports whose head is disposed of -/

theorem Core.owes_le (core : Core x s) (is : (s.port p).Open) : (s.port p).owes ≤ (s.port p).reservations := by
  have reserved := core.reserved p is.2
  rw [State.owed_eq] at reserved
  omega

theorem Core.open_of_queue (core : Core x s) (front : (s.port p).queue = d :: rest) : (s.port p).Open := by
  refine ⟨fun off => ?_, ?_⟩
  · rw [(core.good p).off off] at front
    cases front
  · rw [Bool.eq_false_iff]
    intro is
    obtain ⟨-, none, -⟩ := (core.good p).resetting is
    rw [front] at none
    cases none

/-- A port whose head has left the queue, its answer space settled. -/
def Port.headGone (q : Port) (rest : List QueueEntry) (answers : List Answer) (reservations : Nat) : Port :=
  { q with
    queue := rest, intake := .running, headReserved := false, stallSignalled := false, answers := answers
    reservations := reservations }

/-- The space that a head uses: the reservation it holds, or an entry that is free. -/
theorem Port.Good.headGone (good : q.Good) (is : q.Open) (space : q.hasSpace)
    (rest : List QueueEntry) {answers : List Answer} {reservations : Nat}
    (used : answers.length + reservations + q.headReserved.toNat = q.answers.length + q.reservations + 1) :
    (q.headGone rest answers reservations).Good := by
  have some : q.headReserved.toNat ≤ 1 := by cases q.headReserved <;> decide
  refine .of_open is ?_ nofun (fun waits => ?_) good.slot
  · show answers.length + reservations ≤ 64
    have fits := good.fits
    rcases space with reserved | room
    · rw [reserved, Bool.toNat_true] at used
      omega
    · omega
  · show answers.length + reservations = 64
    have full := good.waiting waits
    rcases space with reserved | room
    · rw [reserved, Bool.toNat_true] at used
      omega
    · omega

theorem Port.headGone_owes (q : Port) (rest : List QueueEntry) (answers : List Answer) (reservations : Nat) :
    (q.headGone rest answers reservations).owes + q.headReserved.toNat = q.owes := by
  simp [Port.owes, Port.headGone]

theorem Port.disposed_eq (a : Answer) (rest : List QueueEntry) (q : Port) :
    q.disposed a rest = q.headGone rest (q.answers ++ [a]) (q.reservations - q.headReserved.toNat) := by
  rw [Port.disposed, Port.headGone]
  cases q.headReserved <;> rfl

theorem Port.head_le_owes (q : Port) : q.headReserved.toNat ≤ q.owes := Nat.le_add_left _ _

theorem Port.Good.disposed (good : q.Good) (is : q.Open) (space : q.hasSpace) (held : q.owes ≤ q.reservations)
    (a : Answer) (rest : List QueueEntry) : (q.disposed a rest).Good := by
  have head := q.head_le_owes
  rw [Port.disposed_eq]
  refine good.headGone is space rest ?_
  rw [List.length_append, List.length_singleton]
  omega

theorem Port.disposed_account (held : q.owes ≤ q.reservations) (a : Answer) (rest : List QueueEntry) :
    (q.disposed a rest).reservations + q.owes = q.reservations + (q.disposed a rest).owes := by
  have head := q.head_le_owes
  have owes := q.headGone_owes rest (q.answers ++ [a]) (q.reservations - q.headReserved.toNat)
  rw [Port.disposed_eq]
  have reservations : (q.headGone rest (q.answers ++ [a]) (q.reservations - q.headReserved.toNat)).reservations =
      q.reservations - q.headReserved.toNat := rfl
  omega

/-! ### Answers at once -/

theorem Core.safe_disposed (core : Core x s) (is : (s.port p).Open) (space : (s.port p).hasSpace) (a : Answer)
    (rest : List QueueEntry) : SafeStill x s (s.setPort p ((s.port p).disposed a rest)) := by
  have held := core.owes_le is
  refine (Still.onPort s p fun _ => _).safe core rfl rfl (State.port_of_setPort fun _ => rfl) rfl rfl
    ((core.good p).disposed is space held a rest) rfl (fun _ _ => rfl) fun _ => ?_
  rw [Port.disposed_account held]

theorem Core.safe_refuseHead (core : Core x s) (front : (s.port p).queue = d :: rest)
    (fresh : (s.port p).headReserved = false) (room : (s.port p).answers.length + (s.port p).reservations < 64)
    (r : RefusalReason) : SafeStill x s (s.refuseHead p d r) := by
  have is := core.open_of_queue front
  have held := core.owes_le is
  have good := (core.good p).disposed is (.inr room) held ⟨d.descriptor.tag, d.descriptor.cookie, .refused r⟩ rest
  have account := Port.disposed_account held ⟨d.descriptor.tag, d.descriptor.cookie, .refused r⟩ rest
  have alike (b : Option BufId) (q : Port) : q.Alike (b.elim id Port.freeBuffer q) := by
    cases b with
    | none => exact .refl q
    | some b => exact .freeBuffer q b
  rw [State.refuseHead_eq front fresh]
  have freed := alike d.buffer ((s.port p).disposed ⟨d.descriptor.tag, d.descriptor.cookie, .refused r⟩ rest)
  refine Still.safe (.of_eq rfl rfl rfl rfl rfl rfl) core rfl rfl (State.port_of_setPort fun _ => rfl) freed.state
    freed.profile (freed.good good is.1) freed.closing (fun _ _ => rfl) fun _ => ?_
  rw [freed.reservations, freed.owes, account]

theorem Core.safe_stall (core : Core x s) (is : (s.port p).Open) (i : IntakeState)
    (order : (s.port p).headReserved = true → i = .keyOrder) : SafeStill x s (s.stall p i) :=
  (Still.onPort s p fun _ => _).safe core rfl rfl (State.port_of_setPort fun _ => rfl) rfl rfl
    (.of_open is (core.good p).fits (fun reserved => ⟨order reserved, ((core.good p).head reserved).2⟩)
      (core.good p).waiting (core.good p).slot) rfl (fun _ _ => rfl) fun _ => rfl

/-- A request that passes the checks has a number the profile allows (R6). -/
theorem State.checkAttempt_attempt {r : Request} (ok : s.checkAttempt p d = .ok r) :
    1 ≤ r.attempt ∧ r.attempt ≤ (s.port p).profile.maxAttempts := by
  unfold State.checkAttempt at ok
  dsimp only at ok
  split at ok
  · split at ok
    · cases ok
    · split at ok
      · cases ok
      · next allowed =>
        rw [Bool.not_eq_true', Bool.not_eq_false, inRange_iff] at allowed
        split at ok
        · cases ok
        · split at ok
          · cases ok
          · split at ok
            · cases ok
            · split at ok
              · cases ok
              · split at ok
                · cases ok
                · split at ok
                  · cases ok
                  · cases ok
                    exact allowed
  · cases ok

theorem Core.safe_placeHead (core : Core x s) (front : (s.port p).queue = d :: rest)
    (fresh : (s.port p).headReserved = false) (room : (s.port p).answers.length + (s.port p).reservations < 64)
    (empty : (s.port p).slot = .empty) {r : Request}
    (number : 1 ≤ r.attempt ∧ r.attempt ≤ (s.port p).profile.maxAttempts) : SafeStill x s (s.placeHead p r) := by
  have is := core.open_of_queue front
  have placed : ∀ l, (if s.keyBusy p r.tag then RequestSlot.keyWait r else .ready r) = .ready l ∨
      (if s.keyBusy p r.tag then RequestSlot.keyWait r else .ready r) = .keyWait l → r = l := by
    intro l
    split
    · exact fun h => h.elim nofun fun h => RequestSlot.keyWait.inj h
    · exact fun h => h.elim (fun h => RequestSlot.ready.inj h) nofun
  have some : (if s.keyBusy p r.tag then RequestSlot.keyWait r else .ready r) ≠ .empty := by
    split <;> exact nofun
  rw [State.placeHead_eq front]
  refine (Still.onPort s p fun _ => _).safe core rfl rfl (State.port_of_setPort fun _ => rfl) rfl rfl
    (.of_open is ?_ nofun (fun waits => ?_) fun l taken => placed l taken ▸ number) rfl (fun _ _ => rfl) fun _ => ?_
  · show (s.port p).answers.length + ((s.port p).reservations + 1) ≤ 64
    omega
  · have full := (core.good p).waiting waits
    omega
  · have before : (s.port p).owes = 0 := by rw [Port.owes, empty, fresh]; rfl
    rw [before]
    simp only [Port.owes, bne_iff_ne.2 some, Bool.toNat_true, Bool.toNat_false]

/-! ### A RELEASE -/

theorem Context.Fields.releasePending (h : c.Fields) (shared : inSharedBlock c.state = true) (k : Cookie) :
    Context.Fields { c with releasePending := some k } where
  pending := h.pending
  release _ := by
    show mayRelease c.state = true
    revert shared
    cases c.state <;> decide
  notice := h.notice
  deadline := h.deadline

/-- A release of a context in a shared block waits for the end of the work. -/
theorem EntryMove.safe_of_releasePending {k : Cookie} (move : EntryMove s t e { s.ctx e with releasePending := some k })
    (core : Core x s) (shared : inSharedBlock (s.ctx e).state = true) (none : (s.ctx e).releasePending = none)
    (owner : (s.ctx e).port = p) (front : (s.port p).queue = d :: rest) (space : (s.port p).hasSpace)
    (port : ∀ r, t.port r = if p = r then (s.port p).headGone rest (s.port p).answers
      ((s.port p).reservations + 1 - (s.port p).headReserved.toNat) else s.port r)
    (engine : t.engine = s.engine) (unitsOwe : ∀ r, t.units.owes r = s.units.owes r)
    (stopping : ∀ u j, t.units.job u = some j → (t.ctx j.entry).releasePending.isSome → j.stopping = true)
    (resettingUnits : ∀ u j, t.units.job u = some j → (s.port j.port).state.isResetting = true → j.stopping = true) :
    SafeEntry x s t e { s.ctx e with releasePending := some k } := by
  have used : (s.ctx e).state ≠ .free := fun free => by
    rw [free] at shared
    cases shared
  have notClosing : (s.ctx e).state ≠ .closing := fun closing => by
    rw [closing] at shared
    cases shared
  have is := core.open_of_queue front
  have held := core.owes_le is
  have head := (s.port p).head_le_owes
  have waits : Context.owes { s.ctx e with releasePending := some k } = (s.ctx e).owes + 1 := by
    rw [Context.owes, Context.owes, none]
    rfl
  refine
    { move := move
      sides := .of_port core port rfl rfl ((core.good p).headGone is space rest ?_) stopping
        (fun l busy => core.resettingEngine l (engine ▸ busy)) resettingUnits (fun r other => ?_) (fun _ _ => rfl)
        fun _ => ?_
      closing := fun r => .same (field_of_port (f := Port.closing) port rfl r) rfl
      fields := (core.fields e).releasePending shared k
      usable := fun _ => ⟨by rw [owner]; exact is.1, fun _ => shared⟩
      attempts := fun _ => core.attempts e used
      room := fun free => absurd free used
      granted := fun free => absurd free used }
  · omega
  · exact move.owed_other (by rw [port, if_neg other]) (fun here => absurd (owner.symm.trans here) other)
      (fun here => absurd (owner.symm.trans here) other) (by rw [engine]) (unitsOwe r)
  · have before := core.reserved p is.2
    have balance := move.owed_balance p
    have owes := (s.port p).headGone_owes rest (s.port p).answers
      ((s.port p).reservations + 1 - (s.port p).headReserved.toNat)
    have reservations : ((s.port p).headGone rest (s.port p).answers
      ((s.port p).reservations + 1 - (s.port p).headReserved.toNat)).reservations =
        (s.port p).reservations + 1 - (s.port p).headReserved.toNat := rfl
    rw [port, if_pos rfl, engine, unitsOwe, waits, if_pos owner, if_pos owner] at balance
    omega

theorem Core.noJob_of_combining (core : Core x s) (combining : (s.ctx e).state = .combining) {u : UnitId} {j : Job}
    (unit : s.units.job u = some j) : j.entry ≠ e := fun here => by
  have decoding := core.units.decodingJob unit
  rw [here, combining] at decoding
  cases decoding

theorem Port.headGone_releasing (q : Port) (rest : List QueueEntry) :
    { q with
      queue := rest, intake := .running, headReserved := false, stallSignalled := false
      reservations := if q.headReserved then q.reservations else q.reservations + 1 } =
      q.headGone rest q.answers (q.reservations + 1 - q.headReserved.toNat) := by
  rw [Port.headGone]
  cases q.headReserved <;> rfl

/-- A context that a RELEASE ends at once. -/
theorem EntryMove.safe_of_released (move : EntryMove s t e Context.free) (core : Core x s)
    (used : (s.ctx e).state ≠ .free) (notClosing : (s.ctx e).state ≠ .closing) (owner : (s.ctx e).port = p)
    (port : ∀ r, t.port r = if p = r then q else s.port r) (state : q.state = (s.port p).state)
    (profile : q.profile = (s.port p).profile) (good : q.Good) (closing : q.closing = (s.port p).closing)
    (units : t.units = s.units) (engine : t.engine.combine = s.engine.combine)
    (account : q.reservations + (s.port p).owes + (s.ctx e).owes = (s.port p).reservations + q.owes) :
    SafeEntry x s t e Context.free where
  move := move
  sides := move.sides core port state profile good units engine nofun (.inl owner) (.inr rfl) (fun _ _ => rfl) fun _ => by
    rw [if_pos owner, Context.owes_free, ite_self, account, Nat.add_zero]
  closing r := .unclosing (field_of_port (f := Port.closing) port closing r) notClosing (by decide) r
  fields := .free
  usable is := absurd rfl is
  attempts is := absurd rfl is
  room free := absurd free used
  granted free := absurd free used

end

end Sys2Proof.Machine
end

section
/-! SUPPORT. The events of the port life cycle are safe: a drain that closes, a reset that begins, and a reset that ends (spec/09 R177 to R183, spec/01 R24). -/

namespace Sys2Proof.Machine

section
variable {s t : State} {e : Entry} {x y : PortId → Nat} {p : PortId} {k : CtxState → Bool} {q : Port}

/-! ### Contexts of a port end together -/

/-- The contexts of a port in some states end, with all that waits in CLOSING, and the port is left as its own laws say. -/
structure SafeSweep (surplus : PortId → Nat) (s t : State) (p : PortId) (k : CtxState → Bool) (q : Port) : Prop where
  sweep : Sweep s t p k
  closes : k .closing = true
  port : ∀ r, t.port r = if p = r then q else s.port r
  profile : q.profile = (s.port p).profile
  counted : q.state.counted = true → (s.port p).state.counted = true
  good : q.Good
  closing : q.closing = []
  off : q.state = .off → ∀ e, (s.ctx e).port = p → (s.ctx e).state ≠ .free → k (s.ctx e).state = true
  resetting : q.state.isResetting = true → ∀ e, (s.ctx e).port = p → (s.ctx e).state ≠ .free →
    k (s.ctx e).state = true ∨ inSharedBlock (s.ctx e).state = true
  jobs : ∀ u j, t.units.job u = some j → ∃ i, s.units.job u = some i ∧ i.entry = j.entry ∧ i.port = j.port ∧
    (i.stopping = true → j.stopping = true)
  resettingEngine : ∀ l, t.engine.combine = some l →
    ((t.port l.port).state.isResetting = true ↔ l.abortRequested = true) ∧ (l.atBoundary = true → l.abortRequested = true)
  resettingUnits : ∀ u j, t.units.job u = some j → j.port = p → q.state.isResetting = true → j.stopping = true
  reserved : q.state.isResetting = false → q.reservations = t.owed p + surplus p

theorem Sweep.contextsOwe_other (h : Sweep s t p k) {r : PortId} (other : p ≠ r) : t.contextsOwe r = s.contextsOwe r := by
  have split := h.sum_split (f := fun c => if c.port = r then c.owes else 0) (ite_self 0)
  have none : ((allEntries.filter (s.inStates p k)).map fun e => if (s.ctx e).port = r then (s.ctx e).owes else 0).sum =
      0 := sum_map_eq_zero fun e listed => by
    obtain ⟨port, -⟩ := (s.inStates_iff p k e).1 (List.mem_filter.1 listed).2
    rw [if_neg (by rw [port]; exact other)]
  rw [State.contextsOwe_eq, State.contextsOwe_eq]
  omega

theorem Sweep.contextCount_le (h : Sweep s t p k) (r : PortId) : t.contextCount r ≤ s.contextCount r := by
  have split := h.sum_split (f := fun c => if c.state ≠ .free ∧ c.port = r then 1 else 0) rfl
  rw [State.contextCount_eq, State.contextCount_eq]
  omega

theorem SafeSweep.closingLaw (h : SafeSweep y s t p k q) (law : ClosingLaw s) : ClosingLaw t := by
  have members (r : PortId) (e : Entry) (other : p ≠ r) :
      e ∈ (s.port r).closing ↔ (t.ctx e).state = .closing ∧ (t.ctx e).port = r := by
    rw [law.members]
    by_cases ends : s.inStates p k e = true
    · obtain ⟨port, -⟩ := (s.inStates_iff p k e).1 ends
      rw [h.sweep.ended ends]
      exact ⟨fun both => absurd (port.symm.trans both.2) other, fun both => nomatch both.1⟩
    · rw [h.sweep.kept ends]
  refine ⟨fun r => ?_, fun r e => ?_⟩
  · rw [h.port]
    split
    · rw [h.closing]
      exact List.nodup_nil
    · exact law.once r
  · rw [h.port]
    split
    · next here =>
      subst here
      rw [h.closing]
      refine ⟨nofun, fun ⟨closing, port⟩ => ?_⟩
      obtain ⟨stays, same⟩ := h.sweep.used (e := e) (by rw [closing]; decide)
      rw [same] at closing port
      exact absurd ((s.inStates_iff p k e).2 ⟨port, by rw [closing]; decide, closing ▸ h.closes⟩) stays
    · next other => exact members r e other

theorem SafeSweep.pages (h : SafeSweep y s t p k q) (core : Core x s) :
    (∀ p, t.pool.usageOf p ≤ (t.port p).profile.cap) ∧
      ((allPorts.filter fun p => (t.port p).state.counted).map t.unmet).sum ≤
        t.pool.freeList.length + t.pool.shortfall := by
  have profile := field_of_port (f := Port.profile) h.port h.profile
  have less := h.sweep.usage core.pool
  have unmet (r : PortId) : t.unmet r = (s.port r).profile.reserve - t.pool.usageOf r := by rw [State.unmet, profile]
  refine ⟨fun r => ?_, ?_⟩
  · have before := core.cap r
    rw [profile, less]
    split
    · next here =>
      rw [here]
      omega
    · exact before
  · have before := core.reserve
    have free : t.pool.freeList.length =
        s.pool.freeList.length + ((allEntries.filter (s.inStates p k)).map fun e => (s.ctx e).pages.length).sum := by
      rw [h.sweep.freeList, List.length_append, State.endedPages, List.length_flatMap]
      congr 1
      exact core.pool.sum_holding (f := fun c => c.pages.length) (fun e none => by rw [none]; rfl) _
    have shortfall : t.pool.shortfall = s.pool.shortfall := by
      rw [h.sweep.pool]
      rfl
    have sum := sum_filter_allPorts_le (k := fun p => (s.port p).state.counted) (f := t.unmet) (g := s.unmet) (p := p)
      (n := ((allEntries.filter (s.inStates p k)).map fun e => (s.ctx e).pages.length).sum)
      (fun r other => by rw [unmet, less, if_neg other, State.unmet])
      (by rw [unmet, less, if_pos rfl, State.unmet]; omega)
    have fewer : ((allPorts.filter fun p => (t.port p).state.counted).map t.unmet).sum ≤
        ((allPorts.filter fun p => (s.port p).state.counted).map t.unmet).sum := by
      refine (List.Sublist.map _ (List.monotone_filter_right _ fun r counts => ?_)).sum_le_sum fun _ _ => Nat.zero_le _
      rw [h.port] at counts
      split at counts
      · next here => exact here ▸ h.counted counts
      · exact counts
    omega

theorem SafeSweep.core (h : SafeSweep y s t p k q) (core : Core x s) (surplus : ∀ r, p ≠ r → y r = x r) : Core y t where
  pool := h.sweep.poolLaw core.pool
  key := h.sweep.keyLaw core.key
  free := h.sweep.freeLaw core.free
  expiry := h.sweep.expiryLaw core.expiry
  dispatch := h.sweep.dispatchLaw core.dispatch
  engine := h.sweep.engineLaw core.engine
  units := h.sweep.unitLaw core.units
  closing := h.closingLaw core.closing
  fields e := by
    by_cases ends : s.inStates p k e = true
    · rw [h.sweep.ended ends]
      exact .free
    · rw [h.sweep.kept ends]
      exact core.fields e
  stopping u j unit waits := by
    obtain ⟨i, at_s, entry, -, stops⟩ := h.jobs u j unit
    have decoding := core.units.decodingJob at_s
    rw [entry] at decoding
    rw [(h.sweep.used (e := j.entry) (by rw [(h.sweep.state_iff h.sweep.spares.2 (by decide) _).2 decoding]; decide)).2]
      at waits
    exact stops (core.stopping u i at_s (entry ▸ waits))
  good r := by
    rw [h.port]
    split
    · exact h.good
    · exact core.good r
  offContexts r e off port := by
    by_contra used
    obtain ⟨stays, same⟩ := h.sweep.used used
    rw [same] at port used
    rw [h.port] at off
    split at off
    · next here =>
      exact stays ((s.inStates_iff p k e).2 ⟨port.trans here.symm, used, h.off off e (port.trans here.symm) used⟩)
    · exact used (core.offContexts r e off port)
  resettingContexts r e is port used := by
    obtain ⟨stays, same⟩ := h.sweep.used used
    rw [same] at port used ⊢
    rw [h.port] at is
    split at is
    · next here =>
      refine (h.resetting is e (port.trans here.symm) used).resolve_left fun ends => ?_
      exact stays ((s.inStates_iff p k e).2 ⟨port.trans here.symm, used, ends⟩)
    · exact core.resettingContexts r e is port used
  resettingEngine := h.resettingEngine
  resettingUnits u j unit is := by
    rw [h.port] at is
    split at is
    · next here => exact h.resettingUnits u j unit here.symm is
    · obtain ⟨i, at_s, -, port, stops⟩ := h.jobs u j unit
      exact stops (core.resettingUnits u i at_s (port ▸ is))
  reserved r open_ := by
    rw [h.port] at open_ ⊢
    split at open_
    · next here =>
      rw [if_pos here, ← here]
      exact h.reserved open_
    · next other =>
      have before := core.reserved r open_
      have owed : t.owed r = s.owed r := by
        rw [State.owed_eq, State.owed_eq, h.port, if_neg other, h.sweep.contextsOwe_other other,
          Engine.owes_congr h.sweep.engine, Units.owes_of_keep h.sweep.units]
      rw [if_neg other, owed, surplus r other]
      exact before
  contexts r := by
    rw [field_of_port (f := Port.profile) h.port h.profile]
    exact (h.sweep.contextCount_le r).trans (core.contexts r)
  attempts e used := by
    obtain ⟨-, same⟩ := h.sweep.used used
    rw [same] at used ⊢
    rw [field_of_port (f := Port.profile) h.port h.profile]
    exact core.attempts e used
  cap := (h.pages core).1
  reserve := (h.pages core).2

/-- Work in shared blocks is not ended with the other contexts. -/
theorem SafeSweep.working (h : SafeSweep y s t p k q) {r : PortId} (same : (t.port r).state.isResetting = true →
    (s.port r).state.isResetting = true) (working : s.Working r) : t.Working r := fun is => by
  obtain ⟨e, port, shared⟩ := working (same is)
  have stays : ¬ s.inStates p k e = true := fun ends => by
    obtain ⟨-, -, ended⟩ := (s.inStates_iff p k e).1 ends
    rcases (inSharedBlock_iff _).1 shared with combining | decoding
    · rw [combining, h.sweep.spares.1] at ended
      cases ended
    · rw [decoding, h.sweep.spares.2] at ended
      cases ended
  exact ⟨e, by rw [h.sweep.kept stays]; exact port, by rw [h.sweep.kept stays]; exact shared⟩

/-! ### A port without contexts is owed nothing -/

theorem Core.contextsOwe_of_free (core : Core x s) (none : ∀ e, (s.ctx e).port = p → (s.ctx e).state = .free) :
    s.contextsOwe p = 0 := by
  rw [State.contextsOwe_eq]
  refine sum_map_eq_zero fun e _ => ?_
  split
  · next own => rw [core.free e (none e own), Context.owes_free]
  · rfl

theorem EngineLaw.owes_of_free (law : EngineLaw s) (none : ∀ e, (s.ctx e).port = p → (s.ctx e).state ≠ .combining) :
    s.engine.owes p = 0 := by
  cases engine : s.engine.combine with
  | none => exact Engine.owes_of_none engine p
  | some l =>
    obtain ⟨port, one, -⟩ := law.busy engine
    rw [Engine.owes_of_some engine, if_neg]
    exact fun both => none l.entry (port.trans both.1) ((one l.entry).2 rfl)

theorem UnitLaw.owes_of_free (law : UnitLaw s) (none : ∀ e, (s.ctx e).port = p → (s.ctx e).state ≠ .decoding) :
    s.units.owes p = 0 := by
  have idle (u : UnitId) : ((s.units.job u).any fun j => j.port == p) = false := by
    cases unit : s.units.job u with
    | none => rfl
    | some j =>
      rw [Option.any_some, beq_eq_false_iff_ne]
      exact fun own => none j.entry ((law.port u j unit).trans own) (law.decodingJob unit)
  rw [Units.owes_eq, idle, idle]
  split <;> rfl

/-! ### A drain closes -/

theorem Core.safe_closeDrain (core : Core x s) (quiet : s.quiet p = true)
    (surplus : y p = 0) :
    SafeSweep y s (s.closeDrain p) p endedAtClose (Port.offWith (s.port p).profile (s.port p).bus) := by
  obtain ⟨-, -, idle⟩ := (s.quiet_iff p).1 quiet
  have port := s.closeDrain_port p
  have sweep := Sweep.closeDrain s p
  have ends : ∀ e, (s.ctx e).port = p → (s.ctx e).state ≠ .free → endedAtClose (s.ctx e).state = true := fun e own used =>
    ((s.inStates_iff p endedAtClose e).1 ((State.inStates_endedAtClose_iff quiet e).2 ⟨own, used⟩)).2.2
  have gone : ∀ e, ((s.closeDrain p).ctx e).port = p → ((s.closeDrain p).ctx e).state = .free := fun e own => by
    by_contra used
    obtain ⟨stays, same⟩ := sweep.used used
    rw [same] at own used
    exact stays ((State.inStates_endedAtClose_iff quiet e).2 ⟨own, used⟩)
  have owed : (s.closeDrain p).owed p = 0 := by
    rw [State.owed_eq, port, if_pos rfl, State.contextsOwe_eq, (sweep.engineLaw core.engine).owes_of_free
      (fun e own => by rw [gone e own]; decide), (sweep.unitLaw core.units).owes_of_free
      fun e own => by rw [gone e own]; decide]
    rw [show (Port.offWith (s.port p).profile (s.port p).bus).owes = 0 from rfl, Nat.zero_add, Nat.add_zero]
    refine sum_map_eq_zero fun e _ => ?_
    split
    · next own => rw [sweep.freeLaw core.free e (gone e own), Context.owes_free]
    · rfl
  exact
    { sweep := sweep, closes := rfl, port := port, profile := rfl, counted := nofun, good := .offWith _ _, closing := rfl
      off := fun _ => ends, resetting := nofun
      jobs := fun u j unit => ⟨j, unit, rfl, rfl, id⟩
      resettingEngine := fun l busy => by
        obtain ⟨own, one, -⟩ := core.engine.busy busy
        have other : p ≠ l.port := fun here => (idle l.entry (own.trans here.symm)).1 ((one l.entry).2 rfl)
        rw [port, if_neg other]
        exact core.resettingEngine l busy
      resettingUnits := nofun
      reserved := fun _ => by rw [owed, surplus]; rfl }

/-! ### A port changes its state, and its contexts stay -/

theorem Core.usage_of_free (core : Core x s) (none : ∀ e, (s.ctx e).port = p → (s.ctx e).state = .free) :
    s.pool.usageOf p = 0 := by
  rw [core.pool.usage, State.heldPages_eq]
  refine sum_map_eq_zero fun e _ => ?_
  split
  · next own => rw [core.free e (none e own)]; rfl
  · rfl

theorem State.contextCount_of_free (none : ∀ e, (s.ctx e).port = p → (s.ctx e).state = .free) : s.contextCount p = 0 := by
  rw [State.contextCount_eq]
  exact sum_map_eq_zero fun e _ => if_neg fun both => both.1 (none e both.2)

/-- A port enters a state other than RESETTING; when its profile changes, or it was RESETTING, it has no context. -/
theorem Still.core_of_port (h : Still s t) (core : Core x s) (engine : t.engine.combine = s.engine.combine)
    (units : t.units = s.units) (port : ∀ r, t.port r = if p = r then q else s.port r) (good : q.Good)
    (closing : q.closing = (s.port p).closing) (ended : q.state.isResetting = false)
    (empty : q.state = .off ∨ (s.port p).state.isResetting = true ∨ q.profile ≠ (s.port p).profile →
      ∀ e, (s.ctx e).port = p → (s.ctx e).state = .free)
    (surplus : ∀ r, p ≠ r → y r = x r) (reserved : q.reservations = t.owed p + y p)
    (reserve : ((allPorts.filter fun r => (t.port r).state.counted).map t.unmet).sum ≤
      s.pool.freeList.length + s.pool.shortfall) : Core y t := by
  have same : ∀ r, p ≠ r → t.port r = s.port r := fun r other => by rw [port, if_neg other]
  have here : t.port p = q := by rw [port, if_pos rfl]
  exact
    { pool := h.poolLaw core.pool, key := h.keyLaw core.key, free := h.freeLaw core.free
      expiry := h.expiryLaw core.expiry, dispatch := h.dispatchLaw core.dispatch
      engine := h.engineLaw core.engine, units := h.unitLaw core.units
      closing := by
        have lists := field_of_port (f := Port.closing) port closing
        refine ⟨fun r => ?_, fun r e => ?_⟩
        · rw [lists]
          exact core.closing.once r
        · rw [lists, h.ctx]
          exact core.closing.members r e
      fields := fun e => by rw [h.ctx]; exact core.fields e
      stopping := fun u j => by rw [units, h.ctx]; exact core.stopping u j
      good := good_of_port core port good
      offContexts := fun r e off own => by
        rw [h.ctx] at own ⊢
        rcases eq_or_ne p r with rfl | other
        · exact empty (.inl (here ▸ off)) e own
        · exact core.offContexts r e (same r other ▸ off) own
      resettingContexts := fun r e is own used => by
        rw [h.ctx] at own used ⊢
        rcases eq_or_ne p r with rfl | other
        · rw [here, ended] at is
          cases is
        · exact core.resettingContexts r e (same r other ▸ is) own used
      resettingEngine := fun l busy => by
        rw [engine] at busy
        obtain ⟨abort, boundary⟩ := core.resettingEngine l busy
        refine ⟨?_, boundary⟩
        rcases eq_or_ne p l.port with rfl | other
        · obtain ⟨own, one, -⟩ := core.engine.busy busy
          rw [here, ended, ← abort]
          refine ⟨nofun, fun is => ?_⟩
          have combining := (one l.entry).2 rfl
          rw [empty (.inr (.inl is)) l.entry own] at combining
          cases combining
        · rw [same _ other]
          exact abort
      resettingUnits := fun u j unit is => by
        rw [units] at unit
        rcases eq_or_ne p j.port with rfl | other
        · rw [here, ended] at is
          cases is
        · exact core.resettingUnits u j unit (same _ other ▸ is)
      reserved := fun r open_ => by
        have balance := h.owed r
        rcases eq_or_ne p r with rfl | other
        · rw [here]
          exact reserved
        · rw [same r other] at open_ balance ⊢
          have before := core.reserved r open_
          rw [surplus r other]
          omega
      contexts := fun r => by
        rw [h.contextCount]
        rcases eq_or_ne p r with rfl | other
        · rw [here]
          by_cases profile : q.profile = (s.port p).profile
          · rw [profile]
            exact core.contexts p
          · rw [State.contextCount_of_free (empty (.inr (.inr profile)))]
            exact Nat.zero_le _
        · rw [same r other]
          exact core.contexts r
      attempts := fun e used => by
        rw [h.ctx] at used ⊢
        obtain ⟨count, last⟩ := core.attempts e used
        refine ⟨count, ?_⟩
        rcases eq_or_ne p (s.ctx e).port with own | other
        · by_cases profile : q.profile = (s.port p).profile
          · rw [← own, here, profile, own]
            exact last
          · exact absurd (empty (.inr (.inr profile)) e own.symm) used
        · rw [same _ other]
          exact last
      cap := fun r => by
        rw [h.pool]
        rcases eq_or_ne p r with rfl | other
        · rw [here]
          by_cases profile : q.profile = (s.port p).profile
          · rw [profile]
            exact core.cap p
          · rw [core.usage_of_free (empty (.inr (.inr profile)))]
            exact Nat.zero_le _
        · rw [same r other]
          exact core.cap r
      reserve := by
        rw [h.pool]
        exact reserve }

/-- The reserves of the ports that count, when no port counts anew and no profile changes. -/
theorem Still.reserve_of_counted (h : Still s t) (core : Core x s)
    (profile : ∀ r, (t.port r).profile = (s.port r).profile)
    (counted : ∀ r, (t.port r).state.counted = true → (s.port r).state.counted = true) :
    ((allPorts.filter fun r => (t.port r).state.counted).map t.unmet).sum ≤
      s.pool.freeList.length + s.pool.shortfall := by
  rw [State.unmet_congr profile h.pool]
  refine Nat.le_trans ?_ core.reserve
  exact (List.Sublist.map _ (List.monotone_filter_right _ counted)).sum_le_sum fun _ _ => Nat.zero_le _

/-! ### A reset ends -/

/-- The port that the end of a reset leaves. -/
def Port.resetEnded (target : ResetTarget) (q : Port) : Port :=
  match target with
  | .active => { q with state := .active }
  | .off => Port.offWith q.profile q.bus

theorem State.endReset_port (s : State) (p : PortId) (target : ResetTarget) (r : PortId) :
    (s.endReset p target).port r = if p = r then (s.port p).resetEnded target else s.port r := by
  cases target
  · rw [State.endReset_active]
    exact State.port_of_setPort (fun _ => rfl) r
  · rw [State.endReset_off]
    exact State.port_of_setPort (fun _ => rfl) r

theorem Port.resetEnded_good {target : ResetTarget} (good : q.Good) (is : q.state = .resetting target) :
    (q.resetEnded target).Good ∧ (q.resetEnded target).closing = q.closing ∧
      (q.resetEnded target).state.isResetting = false ∧ (q.resetEnded target).profile = q.profile ∧
      (q.resetEnded target).reservations = 0 ∧ (q.resetEnded target).owes = 0 := by
  obtain ⟨-, -, slot, -, reservations, closing, head⟩ := good.resetting (by rw [is]; rfl)
  cases target with
  | active =>
    refine ⟨.of_open ⟨nofun, rfl⟩ good.fits good.head good.waiting good.slot, rfl, rfl, rfl, reservations, ?_⟩
    show (q.slot != .empty).toNat + q.headReserved.toNat = 0
    rw [slot, head]
    rfl
  | off => exact ⟨.offWith _ _, closing.symm, rfl, rfl, rfl, rfl⟩

theorem Core.endReset (core : Core noSurplus s) {target : ResetTarget} (is : (s.port p).state = .resetting target)
    (idle : ¬ s.inFlightWork p) : Core noSurplus (s.endReset p target) := by
  have resetting : (s.port p).state.isResetting = true := by rw [is]; rfl
  have none : ∀ e, (s.ctx e).port = p → (s.ctx e).state = .free := fun e own => by
    by_contra used
    exact idle ⟨e, own, (inSharedBlock_iff _).1 (core.resettingContexts p e resetting own used)⟩
  obtain ⟨good, closing, ended, profile, left, owes⟩ := Port.resetEnded_good (core.good p) is
  have still := Still.endReset s p target
  have port := s.endReset_port p target
  have engine : (s.endReset p target).engine = s.engine := by cases target <;> rfl
  have units : (s.endReset p target).units = s.units := by cases target <;> rfl
  refine still.core_of_port core (by rw [engine]) units port good closing ended (fun _ => none) (fun _ _ => rfl) ?_
    (still.reserve_of_counted core (field_of_port (f := Port.profile) port profile) fun r counts => ?_)
  · rw [left, State.owed_eq, port, if_pos rfl, owes, still.contextsOwe, core.contextsOwe_of_free none, engine, units,
      core.engine.owes_of_free fun e own => by rw [none e own]; decide,
      core.units.owes_of_free fun e own => by rw [none e own]; decide, noSurplus]
  · rw [port] at counts
    split at counts
    · next here =>
      rw [← here, is]
      rfl
    · exact counts

/-! ### The event that completes a drain or a reset -/

/-- Settling a port makes the laws whole at it. -/
theorem Core.settle (core : Core noSurplus s) (working : ∀ r, p ≠ r → s.Working r) : Sound (s.settle p) := by
  have at_open (is : (s.port p).state.isResetting = false) (r : PortId) : s.Working r := by
    rcases eq_or_ne p r with rfl | other
    · exact fun resets => by
        rw [is] at resets
        cases resets
    · exact working r other
  cases state : (s.port p).state with
  | off =>
    rw [State.settle, state]
    exact ⟨core, at_open (by rw [state]; rfl)⟩
  | active =>
    rw [State.settle, state]
    exact ⟨core, at_open (by rw [state]; rfl)⟩
  | draining =>
    rw [State.settle_of_draining state]
    split
    · next quiet =>
      have closed := core.safe_closeDrain (y := noSurplus) quiet rfl
      refine ⟨closed.core core fun _ _ => rfl, fun r => closed.working (fun is => ?_) (at_open (by rw [state]; rfl) r)⟩
      rw [closed.port] at is
      split at is
      · cases is
      · exact is
    · exact ⟨core, at_open (by rw [state]; rfl)⟩
  | resetting target =>
    obtain ⟨busy, idle⟩ := State.settle_of_resetting state
    by_cases work : s.inFlightWork p
    · rw [busy work]
      refine ⟨core, fun r => ?_⟩
      rcases eq_or_ne p r with rfl | other
      · obtain ⟨e, own, shared⟩ := work
        exact fun _ => ⟨e, own, (inSharedBlock_iff _).2 shared⟩
      · exact working r other
    · rw [idle work]
      refine ⟨core.endReset state work, fun r is => ?_⟩
      have still := Still.endReset s p target
      rw [s.endReset_port p target] at is
      split at is
      · rw [(Port.resetEnded_good (core.good p) state).2.2.1] at is
        cases is
      · next other =>
        obtain ⟨e, own, shared⟩ := working r other is
        exact ⟨e, by rw [still.ctx]; exact own, by rw [still.ctx]; exact shared⟩

theorem Sound.settle (sound : Sound s) (p : PortId) : Sound (s.settle p) :=
  sound.core.settle fun r _ => sound.working r

end

end Sys2Proof.Machine
end

section
/-! SUPPORT. A try of the intake keeps every law (spec/07 R137 to R144, spec/01 R25, R26). -/

namespace Sys2Proof.Machine

section
variable {s t u : State} {e : Entry} {p : PortId} {d : QueueEntry} {rest : List QueueEntry}

/-- A try that is due offers the head afresh, or again after R9's signal. -/
theorem Port.Good.tries {q : Port} (good : q.Good) (due : q.tryDue = true) : q.triesFresh ∨ q.triesAgain := by
  have order := good.head
  unfold Port.tryDue at due
  cases reserved : q.headReserved with
  | false =>
    refine .inl ⟨reserved, ?_⟩
    cases intake : q.intake with
    | running => exact .inl rfl
    | noAnswerSpace => simp [intake] at due
    | requestSlotBusy => exact .inr ⟨.inl rfl, by simpa [intake] using due⟩
    | keyOrder => exact .inr ⟨.inr rfl, by simpa [intake, reserved] using due⟩
  | true =>
    obtain ⟨intake, -⟩ := order reserved
    exact .inr ⟨reserved, intake, by simpa [intake, reserved] using due⟩

theorem Sound.tryAttempt (sound : Sound s) (front : (s.port p).queue = d :: rest)
    (kind : d.descriptor.kind ≠ .release) (space : (s.port p).hasSpace) : Sound (s.tryAttempt p d) := by
  have is := sound.core.open_of_queue front
  have fresh : (s.port p).headReserved = false := by
    rw [Bool.eq_false_iff]
    intro reserved
    obtain ⟨-, y, more, queue, release⟩ := (sound.core.good p).head reserved
    rw [front] at queue
    cases queue
    exact kind release
  have room : (s.port p).answers.length + (s.port p).reservations < 64 :=
    space.resolve_left (by rw [fresh]; decide)
  rw [State.tryAttempt]
  split
  · exact (sound.core.safe_refuseHead front fresh room _).sound sound
  · next r ok =>
    split
    · next empty =>
      exact (sound.core.safe_placeHead front fresh room empty (State.checkAttempt_attempt ok)).sound sound
    · exact (sound.core.safe_stall is _ fun reserved => by rw [fresh] at reserved; cases reserved).sound sound

/-- The RELEASE stays at the head with its reservation. -/
theorem Sound.releaseStays (sound : Sound s) (front : (s.port p).queue = d :: rest)
    (kind : d.descriptor.kind = .release) (space : (s.port p).hasSpace) :
    Sound (s.setPort p { s.port p with
      intake := .keyOrder, headReserved := true, stallSignalled := false
      reservations := if (s.port p).headReserved then (s.port p).reservations else (s.port p).reservations + 1 }) := by
  have is := sound.core.open_of_queue front
  have good := sound.core.good p
  refine SafeStill.sound ((Still.onPort s p fun _ => _).safe sound.core rfl rfl (State.port_of_setPort fun _ => rfl) rfl
    rfl (.of_open is ?_ (fun _ => ⟨rfl, d, rest, front, kind⟩) (fun waits => ?_) good.slot) rfl (fun _ _ => rfl)
    fun _ => ?_) sound
  · show (s.port p).answers.length + (if (s.port p).headReserved then _ else _) ≤ 64
    have fits := good.fits
    rcases space with reserved | room
    · rw [reserved, if_pos rfl]
      exact fits
    · split <;> omega
  · show (s.port p).answers.length + (if (s.port p).headReserved then _ else _) = 64
    have full := good.waiting waits
    rcases space with reserved | room
    · rw [reserved, if_pos rfl]
      exact full
    · omega
  · simp only [Port.owes]
    cases (s.port p).headReserved <;> grind

theorem Port.disposed_queued {q : Port} (rest : List QueueEntry) (a b : Answer) :
    { q.disposed b rest with
      answers := q.answers ++ [a, b]
      reservations := (if q.headReserved then q.reservations - 1 else q.reservations) - 1 } =
      q.headGone rest (q.answers ++ [a, b]) (q.reservations - q.headReserved.toNat - 1) := by
  rw [Port.disposed, Port.headGone]
  cases q.headReserved <;> rfl

/-- A RELEASE that finds the context QUEUED takes two reservations with it: its own and that of the decode owed. -/
theorem Core.owes_le_of_context (core : Core noSurplus s) (is : (s.port (s.ctx e).port).Open) :
    (s.port (s.ctx e).port).owes + (s.ctx e).owes ≤ (s.port (s.ctx e).port).reservations := by
  have reserved := core.reserved (s.ctx e).port is.2
  have own : (s.ctx e).owes ≤ s.contextsOwe (s.ctx e).port := by
    rw [State.contextsOwe]
    exact List.single_le_sum (fun _ _ => Nat.zero_le _) _
      (List.mem_map.2 ⟨e, List.mem_filter.2 ⟨mem_allEntries e, beq_self_eq_true _⟩, rfl⟩)
  rw [State.owed_eq] at reserved
  omega

theorem Sound.handRelease (sound : Sound s) (front : (s.port p).queue = d :: rest)
    (kind : d.descriptor.kind = .release) (due : (s.port p).tryDue = true) (space : (s.port p).hasSpace)
    (alone : (s.port p).slot.tag? ≠ some d.descriptor.tag) (run : exec (.intakeTry p) s = .next t) : Sound t := by
  have core := sound.core
  have good := core.good p
  have is := core.open_of_queue front
  have held := core.owes_le is
  have tries : (s.port p).triesFresh ∧ (s.port p).answers.length + (s.port p).reservations < 64 ∨
      (s.port p).triesAgain := by
    rcases good.tries due with fresh | again
    · exact .inl ⟨fresh, space.resolve_left (by rw [fresh.1]; decide)⟩
    · exact .inr again
  obtain ⟨unknown, known⟩ := intakeHandsOverARelease.2 p s _ d rest _ rfl front rfl kind tries alone
  cases found : s.lookup p d.descriptor.tag with
  | none =>
    rw [unknown found] at run
    cases run
    exact ((core.safe_disposed is space _ rest).sound sound).settle p
  | some e =>
    obtain ⟨used, owner, tag⟩ := State.hasKey_of_lookup found
    obtain ⟨heldC, solved, queued, combining, decoding, stays⟩ := known e _ found rfl
    cases state : (s.ctx e).state with
    | free => exact absurd state used
    | held =>
      rw [heldC state] at run
      cases run
      refine Sound.settle ?_ _
      refine SafeEntry.sound (c := .free) ?_ sound (.inl (by rw [state]; rfl))
      refine EntryMove.safe_of_released (by
        exact .of_held state (fun b => State.setCtx_ctx _ e b _) (.inl rfl) (by rw [owner]; rfl) rfl rfl rfl rfl) core used (by rw [state]; decide) owner
        (State.port_of_setPort fun _ => rfl) rfl rfl (good.disposed is space held _ rest) rfl rfl rfl ?_
      rw [(core.fields e).owes_of_idle (by rw [state]; rfl), Nat.add_zero, Port.disposed_account held]
    | solved =>
      rw [solved state] at run
      cases run
      refine Sound.settle ?_ _
      refine SafeEntry.sound (c := .free) ?_ sound (.inl (by rw [state]; rfl))
      refine EntryMove.safe_of_released (by
        exact .of_pageless (.inl state) (fun b => State.setCtx_ctx _ e b _) rfl (by rw [state]; rfl) rfl rfl rfl) core used (by rw [state]; decide) owner
        (State.port_of_setPort fun _ => rfl) rfl rfl (good.disposed is space held _ rest) rfl rfl rfl ?_
      rw [(core.fields e).owes_of_idle (by rw [state]; rfl), Nat.add_zero, Port.disposed_account held]
    | queued =>
      obtain ⟨owed, pending⟩ := Option.isSome_iff_exists.1 (core.dispatch.owed e state)
      have one : (s.ctx e).owes = 1 := by
        rw [Context.owes, pending, (core.fields e).release_none (by rw [state]; rfl)]
        rfl
      rw [queued owed state pending, Port.disposed_queued] at run
      cases run
      subst owner
      have both := core.owes_le_of_context is
      have head := (s.port (s.ctx e).port).head_le_owes
      have gone := (s.port (s.ctx e).port).headGone_owes rest ((s.port (s.ctx e).port).answers ++
        [⟨(s.ctx e).tag, owed.cookie, .withdrawn⟩, ⟨d.descriptor.tag, d.descriptor.cookie, .released .queued⟩])
        ((s.port (s.ctx e).port).reservations - (s.port (s.ctx e).port).headReserved.toNat - 1)
      rw [one] at both
      refine Sound.settle ?_ _
      refine SafeEntry.sound (c := .free) ?_ sound (.inl (by rw [state]; rfl))
      refine EntryMove.safe_of_released (by
        exact .of_queuedReleased state (fun b => by simp [State.setCtx_ctx]) (by simp [State.giveBack])
          (by simp [State.giveBack]) (by simp [State.giveBack]) (by simp [State.giveBack]) (by simp [State.giveBack])) core used
        (by rw [state]; decide) rfl (State.port_of_setPort fun _ => by simp [State.giveBack]) rfl rfl
        (good.headGone is space rest ?_) rfl (by simp [State.giveBack]) (by simp [State.giveBack]) ?_
      · rw [List.length_append, List.length_cons, List.length_singleton]
        omega
      · rw [one]
        have left : ((s.port (s.ctx e).port).headGone rest ((s.port (s.ctx e).port).answers ++
          [⟨(s.ctx e).tag, owed.cookie, .withdrawn⟩, ⟨d.descriptor.tag, d.descriptor.cookie, .released .queued⟩])
          ((s.port (s.ctx e).port).reservations - (s.port (s.ctx e).port).headReserved.toNat - 1)).reservations =
          (s.port (s.ctx e).port).reservations - (s.port (s.ctx e).port).headReserved.toNat - 1 := rfl
        omega
    | combining =>
      have shared : inSharedBlock (s.ctx e).state = true := by rw [state]; rfl
      cases release : (s.ctx e).releasePending with
      | some k =>
        rw [stays (.inr ⟨.inl state, by rw [release]; exact nofun⟩)] at run
        cases run
        exact (sound.releaseStays front kind space).settle p
      | none =>
        rw [combining state release, Port.headGone_releasing] at run
        cases run
        have move : EntryMove s ((s.setCtx e { s.ctx e with releasePending := some d.descriptor.cookie }).setPort p
            ((s.port p).headGone rest (s.port p).answers
              ((s.port p).reservations + 1 - (s.port p).headReserved.toNat))) e
            { s.ctx e with releasePending := some d.descriptor.cookie } :=
          .of_releasePending _ shared (.inl rfl) (fun b => State.setCtx_ctx _ e b _) rfl rfl rfl rfl
        refine Sound.settle ((move.safe_of_releasePending core shared release owner front space
          (State.port_of_setPort fun _ => rfl) rfl (fun _ => rfl) (fun w j unit waits => ?_)
          fun w j unit => core.resettingUnits w j unit).sound sound (.inr ⟨rfl, shared⟩)) p
        rw [move.other (core.noJob_of_combining state unit).symm] at waits
        exact core.stopping w j unit waits
    | decoding =>
      have shared : inSharedBlock (s.ctx e).state = true := by rw [state]; rfl
      cases release : (s.ctx e).releasePending with
      | some k =>
        rw [stays (.inr ⟨.inr state, by rw [release]; exact nofun⟩)] at run
        cases run
        exact (sound.releaseStays front kind space).settle p
      | none =>
        rw [decoding state release, Port.headGone_releasing] at run
        cases run
        have keep := UnitsKeep.abandonEntry (s.setCtx e { s.ctx e with releasePending := some d.descriptor.cookie }) e
        have jobs : ∀ w j, (s.abandonEntry e).units.job w = some j →
            ∃ i, s.units.job w = some i ∧ i.entry = j.entry ∧ i.port = j.port ∧
              (i.stopping = true ∨ i.entry = e → j.stopping = true) := by
          intro w j unit
          rw [State.abandonEntry, State.setUnits_units, Units.job_map, Option.map_eq_some_iff] at unit
          obtain ⟨i, at_s, rfl⟩ := unit
          refine ⟨i, at_s, ?_⟩
          split
          · exact ⟨rfl, rfl, fun _ => rfl⟩
          · next other => exact ⟨rfl, rfl, fun stops => stops.resolve_right other⟩
        have move : EntryMove s (((s.setCtx e
            { s.ctx e with releasePending := some d.descriptor.cookie }).abandonEntry e).setPort p
            ((s.port p).headGone rest (s.port p).answers
              ((s.port p).reservations + 1 - (s.port p).headReserved.toNat))) e
            { s.ctx e with releasePending := some d.descriptor.cookie } :=
          .of_releasePending _ shared (.inr ⟨state, keep⟩) (fun b => State.setCtx_ctx _ e b _) rfl rfl rfl rfl
        refine Sound.settle ((move.safe_of_releasePending core shared release owner front space
          (State.port_of_setPort fun _ => rfl) rfl (Units.owes_of_keep keep) (fun w j unit waits => ?_)
          fun w j unit is => ?_).sound sound (.inr ⟨rfl, shared⟩)) p
        · obtain ⟨i, at_s, entry, -, stops⟩ := jobs w j unit
          by_cases here : i.entry = e
          · exact stops (.inr here)
          · rw [move.other fun same => here (entry.trans same.symm)] at waits
            exact stops (.inl (core.stopping w i at_s (entry ▸ waits)))
        · obtain ⟨i, at_s, -, port, stops⟩ := jobs w j unit
          exact stops (.inl (core.resettingUnits w i at_s (port ▸ is)))
    | closing =>
      rw [stays (.inl state)] at run
      cases run
      exact (sound.releaseStays front kind space).settle p

theorem Sound.tryHead (sound : Sound s) (front : (s.port p).queue = d :: rest) (due : (s.port p).tryDue = true) :
    Sound ((s.tryHead p d).settle p) := by
  have is := sound.core.open_of_queue front
  have order (reserved : (s.port p).headReserved = true) : d.descriptor.kind = .release := by
    obtain ⟨-, y, more, queue, release⟩ := (sound.core.good p).head reserved
    rw [front] at queue
    cases queue
    exact release
  by_cases space : (s.port p).hasSpace
  · cases kind : d.descriptor.kind with
    | attempt =>
      rw [State.tryHead_of_attempt space (.inl kind)]
      exact (sound.tryAttempt front (by rw [kind]; decide) space).settle p
    | unnamed code =>
      rw [State.tryHead_of_attempt space (.inr ⟨code, kind⟩)]
      exact (sound.tryAttempt front (by rw [kind]; exact nofun) space).settle p
    | release =>
      by_cases behind : (s.port p).slot.tag? = some d.descriptor.tag
      · rw [State.tryHead_of_order space (.inr kind) behind]
        exact ((sound.core.safe_stall is _ fun _ => rfl).sound sound).settle p
      · exact sound.handRelease front kind due space behind (exec_intakeTry_of_due front due)
    | query =>
      by_cases behind : (s.port p).slot.tag? = some d.descriptor.tag
      · rw [State.tryHead_of_order space (.inl kind) behind]
        exact ((sound.core.safe_stall is _ fun _ => rfl).sound sound).settle p
      · have fresh : (s.port p).headReserved = false := by
          rw [Bool.eq_false_iff]
          intro reserved
          rw [order reserved] at kind
          cases kind
        rw [State.tryHead_of_query space kind behind, State.handQuery_eq front fresh]
        exact ((sound.core.safe_disposed is space _ rest).sound sound).settle p
  · have fresh : (s.port p).headReserved = false := by
      rw [Bool.eq_false_iff]
      exact fun reserved => space (.inl reserved)
    have full : 64 ≤ (s.port p).answers.length + (s.port p).reservations :=
      Nat.le_of_not_lt fun room => space (.inr room)
    rw [State.tryHead_of_full fresh full]
    exact ((sound.core.safe_stall is _ fun reserved => by rw [fresh] at reserved; cases reserved).sound sound).settle p

theorem Sound.intakeTry (sound : Sound s) (run : execIntakeTry p s = .next t) : Sound t := by
  rw [execIntakeTry] at run
  split at run
  · cases run
    exact sound
  · next d rest front =>
    split at run
    · next due =>
      cases run
      exact sound.tryHead front due
    · cases run
      exact sound

end

end Sys2Proof.Machine
end

section
/-! SUPPORT. A combine selection keeps every law: the attempt taken from its slot holds a reservation that its admission or its answer settles (spec/01 R5, R6, R11 to R14, spec/02 R42 to R45, spec/03 R54 to R57, spec/08 R153). -/

namespace Sys2Proof.Machine

/-- One reservation at a port lacks an owner. -/
def oneAt (p : PortId) (r : PortId) : Nat := if p = r then 1 else 0

theorem oneAt_same (p : PortId) : oneAt p p = 1 := if_pos rfl

theorem oneAt_other {p r : PortId} (other : p ≠ r) : oneAt p r = 0 := if_neg other

section
variable {s t u : State} {e : Entry} {c : Context} {x : PortId → Nat} {p : PortId} {q : Port} {r : Request} {tag : Tag}

/-! ### The attempt leaves its slot -/

theorem Port.Alike.keyWait {q : Port} (ready : q.slot = .ready r) : q.Alike { q with slot := .keyWait r } where
  state := rfl
  profile := rfl
  assembly _ := id
  queue := rfl
  intake := rfl
  answers := rfl
  reservations := rfl
  closing := rfl
  headReserved := rfl
  empty := by simp [ready]
  request l taken := by
    rcases taken with h | h <;> cases h
    exact .inl ready

theorem Core.open_of_slot (core : Core x s) (some : (s.port p).slot ≠ .empty) : (s.port p).Open := by
  refine ⟨fun off => some ?_, ?_⟩
  · rw [(core.good p).off off]
    rfl
  · rw [Bool.eq_false_iff]
    intro is
    obtain ⟨-, -, none, -⟩ := (core.good p).resetting is
    exact some none

/-- What a scan selects: a READY slot whose key is not busy (R54). -/
theorem State.scanSlots_selects {ps : List PortId} (taken : State.scanSlots ps s = (u, some (p, r))) :
    (u.port p).slot = .ready r ∧ u.keyBusy p r.tag = false := by
  induction ps generalizing s with
  | nil => cases taken
  | cons i ps ih =>
    rw [State.scanSlots] at taken
    split at taken
    · exact ih taken
    · exact ih taken
    · next l ready =>
      split at taken
      · exact ih taken
      · next free =>
        cases taken
        exact ⟨ready, Bool.eq_false_iff.2 free⟩

theorem Sound.scanSlots (sound : Sound s) (ps : List PortId) : Sound (State.scanSlots ps s).1 := by
  induction ps generalizing s with
  | nil => exact sound
  | cons i ps ih =>
    rw [State.scanSlots]
    split
    · exact ih sound
    · exact ih sound
    · next l ready =>
      split
      · have is := sound.core.open_of_slot (p := i) (by rw [ready]; exact nofun)
        exact ih ((sound.core.safe_onPort_alike is.1 (.keyWait ready)).sound sound)
      · exact sound

theorem Core.safe_takeSlot (core : Core noSurplus s) (ready : (s.port p).slot = .ready r) :
    SafeStill (oneAt p) s (s.takeSlot p) := by
  have is := core.open_of_slot (p := p) (by rw [ready]; exact nofun)
  have good := core.good p
  refine Still.safe (.of_eq rfl rfl rfl rfl rfl rfl) core rfl rfl (State.port_of_setPort fun _ => rfl) rfl rfl
    (.of_open is good.fits good.head good.waiting nofun) rfl (fun _ other => oneAt_other other) fun _ => ?_
  rw [oneAt_same]
  simp only [Port.owes, ready]
  show (s.port p).reservations + ((1 : Nat) + (s.port p).headReserved.toNat) + 0 =
    (s.port p).reservations + (0 + (s.port p).headReserved.toNat) + 1
  omega

/-! ### Answers without combining (R14) -/

theorem Core.safe_answersAlone (core : Core (oneAt p) s) (is : (s.port p).Open) (r : Request) (body : AnswerBody) :
    SafeStill noSurplus s (s.answersAlone p r body) := by
  have reserved := core.reserved p is.2
  rw [oneAt_same] at reserved
  have freed := Port.Alike.freeBuffer ((s.port p).answered [⟨r.tag, r.cookie, body⟩]) r.buffer
  have good : ((s.port p).answered [⟨r.tag, r.cookie, body⟩]).Good :=
    (core.good p).answered is (by rw [List.length_singleton]; omega)
  refine Still.safe (.of_eq rfl rfl rfl rfl rfl rfl) core rfl rfl (State.port_of_setPort fun _ => rfl) freed.state
    freed.profile (freed.good good is.1) freed.closing (fun _ other => (oneAt_other other).symm) fun _ => ?_
  rw [freed.reservations, freed.owes, oneAt_same]
  show (s.port p).reservations - 1 + (s.port p).owes + 1 = (s.port p).reservations + (s.port p).owes + 0
  omega

/-- Work in shared blocks stands, and one reservation at a port is for the attempt in hand. -/
structure Taken (s : State) (p : PortId) : Prop where
  core : Core (oneAt p) s
  working : ∀ r, s.Working r
  is : (s.port p).Open

theorem Taken.answersAlone (h : Taken s p) (r : Request) (body : AnswerBody) : Sound (s.answersAlone p r body) := by
  have safe := h.core.safe_answersAlone h.is r body
  exact ⟨safe.core h.core, fun r => safe.working (h.working r)⟩

theorem Taken.answerUncombined (h : Taken s p) (r : Request) (body : AnswerBody) :
    Sound (s.answerUncombined p r body) := by
  rw [State.answerUncombined_eq]
  exact h.answersAlone r body

theorem Taken.refuseUncombined (h : Taken s p) (r : Request) (why : RefusalReason) :
    Sound (s.refuseUncombined p r why) := by
  have sound := h.answerUncombined r (.refused why)
  exact (sound.core.safe_same (t := s.refuseUncombined p r why) rfl rfl rfl rfl rfl rfl rfl).sound sound

/-! ### An admission begins -/

/-- The engine takes an attempt with no abort requested. -/
theorem Combine.beginReads_abort (L : Nat) (pages : List Page) (fuel : Nat) (k : Combine) :
    (k.beginReads L pages fuel).abortRequested = k.abortRequested ∧
      (k.beginReads L pages fuel).atBoundary = k.atBoundary := by
  induction fuel generalizing k with
  | zero => exact ⟨rfl, rfl⟩
  | succ fuel ih =>
    rw [Combine.beginReads]
    split
    · exact ⟨rfl, rfl⟩
    · split
      · exact ⟨rfl, rfl⟩
      · split
        · exact ih _
        · exact ⟨rfl, rfl⟩

theorem State.beginCombine_begins (s : State) (p : PortId) (e : Entry) (r : Request) (fresh : Bool) :
    ∃ k, (s.beginCombine p e r fresh).engine.combine = some k ∧ k.owner = (p, e, r.action) ∧
      k.abortRequested = false ∧ k.atBoundary = false := by
  refine ⟨_, rfl, ?_⟩
  split
  · exact ⟨rfl, rfl, rfl⟩
  · exact ⟨Combine.beginReads_owner _ _ _ _, Combine.beginReads_abort _ _ _ _⟩

/-- The buffer of an attempt is the engine's. -/
def Port.bound (r : Request) (q : Port) : Port := q.setBuf r.buffer { q.buf r.buffer with state := .combining }

theorem Port.Alike.bound (r : Request) (q : Port) : q.Alike (q.bound r) := .setBuf q _ _

theorem State.beginCombine_port (s : State) (p : PortId) (e : Entry) (r : Request) (fresh : Bool) (i : PortId) :
    (s.beginCombine p e r fresh).port i =
      if p = i then (s.port p).bound r else s.port i :=
  State.port_of_setPort (fun _ => rfl) i

/-- What is owed for the attempt in hand: its STORED, or its decode. -/
def Action.owesStored (a : Action) : Nat := if a = .holdOnly then 1 else 0

theorem Request.owes_pending (r : Request) : r.pending.isSome.toNat + r.action.owesStored = 1 := by
  rw [Request.pending, Action.owesStored]
  cases r.action <;> rfl

/-- A context becomes COMBINING for the attempt in hand. -/
theorem EntryMove.safe_of_begun (move : EntryMove s t e c) (taken : Taken s p) (idle : s.engine.combine = none)
    (begun : ∃ k, t.engine.combine = some k ∧ k.owner = (p, e, r.action) ∧ k.abortRequested = false ∧
      k.atBoundary = false)
    (was : (s.ctx e).state = .free ∨ (s.ctx e).state = .held ∨ (s.ctx e).state = .queued)
    (state : c.state = .combining) (owner : c.port = p) (fields : c.Fields) (release : c.releasePending = none)
    (port : ∀ i, t.port i = if p = i then q else s.port i) (same : q.state = (s.port p).state)
    (profile : q.profile = (s.port p).profile) (good : q.Good) (closing : q.closing = (s.port p).closing)
    (units : t.units = s.units)
    (attempts : c.combinedCount ≤ c.lastAttempt ∧ c.lastAttempt ≤ (s.port p).profile.maxAttempts)
    (room : (s.ctx e).state = .free → s.contextCount p < (s.port p).profile.maxContexts ∧ s.grants p c.pageCount = true)
    (account : q.reservations + (s.port p).owes + (if (s.ctx e).port = p then (s.ctx e).owes else 0) + 1 =
      (s.port p).reservations + q.owes + c.owes + r.action.owesStored)
    (others : (s.ctx e).port = p ∨ (s.ctx e).owes = 0) : SafeEntry noSurplus s t e c := by
  obtain ⟨k, busy, known, calm, middle⟩ := begun
  obtain ⟨kPort, -, kAction⟩ : k.port = p ∧ k.entry = e ∧ k.action = r.action := by
    simpa [Combine.owner] using known
  have core := taken.core
  have engineOwes (i : PortId) : t.engine.owes i = if p = i then r.action.owesStored else 0 := by
    rw [Engine.owes_of_some busy, kPort, kAction, Action.owesStored]
    by_cases here : p = i <;> simp [here]
  have counted : (s.port p).state.counted = true := by
    have on := taken.is.1
    revert on
    cases (s.port p).state <;> simp [PortState.counted]
  refine
    { move := move
      sides := .of_port core port same profile good
        (move.stopping core (fun w j => by rw [units]; exact id) (by rw [release]; exact nofun))
        (fun l at_l => ?_) (fun w j unit => core.resettingUnits w j (units ▸ unit)) (fun i other => ?_)
        (fun _ other => (oneAt_other other).symm) fun _ => ?_
      closing := fun i => .unclosing (field_of_port (f := Port.closing) port closing i) (fun is => ?_)
        (by rw [state]; decide) i
      fields := fields
      usable := fun _ => by
        rw [owner]
        exact ⟨taken.is.1, fun is => by rw [taken.is.2] at is; cases is⟩
      attempts := fun _ => by rw [owner]; exact attempts
      room := fun free _ => by rw [owner]; exact (room free).1
      granted := fun free _ => by rw [owner]; exact ⟨counted, (room free).2⟩ }
  · cases busy.symm.trans at_l
    rw [kPort, taken.is.2, calm, middle]
    exact ⟨⟨nofun, nofun⟩, nofun⟩
  · exact move.owed_other (by rw [port, if_neg other])
      (fun here => others.resolve_left fun own => other (own.symm.trans here)) (fun here => absurd (owner.symm.trans here) other)
      (by rw [engineOwes, if_neg other, Engine.owes_of_none idle]) (by rw [units])
  · have before := core.reserved p taken.is.2
    have balance := move.owed_balance p
    rw [port, if_pos rfl, engineOwes, if_pos rfl, Engine.owes_of_none idle, units, if_pos owner] at balance
    rw [oneAt_same] at before
    rw [noSurplus]
    omega
  · rcases was with h | h | h <;> rw [h] at is <;> cases is

/-! ### The three ways to be admitted -/

theorem Context.Fields.combining {c : Context} (release : c.releasePending = none) (notice : c.owedNotice = none)
    (state : c.state = .combining) (deadline : c.deadline = 0) : c.Fields where
  pending _ := by rw [state]; rfl
  release some := by
    rw [release] at some
    cases some
  notice := by
    rw [notice, state]
    exact ⟨nofun, nofun⟩
  deadline _ _ := deadline

/-- A change of one entry in no shared block leaves the work of every port. -/
theorem SafeEntry.taken (h : SafeEntry noSurplus s t e c) (taken : Taken s p)
    (idle : inSharedBlock (s.ctx e).state = false) : Sound t :=
  ⟨h.core taken.core, fun i => h.working (.inr (.inl idle)) (taken.working i)⟩

theorem Taken.continueHeld (taken : Taken s p) (idle : s.engine.combine = none) (held : (s.ctx e).state = .held)
    (owner : (s.ctx e).port = p) (later : (s.ctx e).lastAttempt < r.attempt)
    (number : r.attempt ≤ (s.port p).profile.maxAttempts) : Sound (s.continueHeld p e r) := by
  have core := taken.core
  have fields := core.fields e
  have release := fields.release_none (by rw [held]; rfl)
  have none := fields.owes_of_idle (by rw [held]; rfl)
  have bound := Port.Alike.bound r (s.port p)
  refine SafeEntry.taken (EntryMove.safe_of_begun (r := r) (q := (s.port p).bound r) (s.continueHeld_move idle held owner) taken idle
    (State.beginCombine_begins _ p e r false) (.inr (.inl held)) rfl owner (.combining release
      (fields.notice_none (by rw [held]; decide)) rfl rfl) release (State.beginCombine_port _ p e r false) bound.state
    bound.profile (bound.good (core.good p) taken.is.1) bound.closing rfl ⟨?_, number⟩
    (fun free => by rw [held] at free; cases free) ?_ (.inl owner)) taken (by rw [held]; rfl)
  · obtain ⟨count, -⟩ := core.attempts e (by rw [held]; decide)
    show (s.ctx e).combinedCount + 1 ≤ r.attempt
    omega
  · have pending := r.owes_pending
    rw [none, ite_self, bound.reservations, bound.owes]
    simp only [Context.owes, Context.admitted, release]
    simp only [Option.isSome_none, Bool.toNat_false]
    omega

theorem Taken.open_ {g : GeometryEntry} (taken : Taken s p) (idle : s.engine.combine = none)
    (new : ∀ d, ¬ s.hasKey d p r.tag) (free : (s.ctx e).state = .free)
    (granted : s.grants p (pagesFor (recordLength g.K)) = true)
    (room : s.contextCount p < (s.port p).profile.maxContexts)
    (number : 1 ≤ r.attempt ∧ r.attempt ≤ (s.port p).profile.maxAttempts) :
    Sound (((s.setPool (s.pool.take p (pagesFor (recordLength g.K)))).setCtx e
      (newContext p r g (s.pool.freeList.take (pagesFor (recordLength g.K))))).beginCombine p e r true) := by
  have core := taken.core
  have none : (s.ctx e).owes = 0 := by rw [core.free e free, Context.owes_free]
  have bound := Port.Alike.bound r (s.port p)
  refine SafeEntry.taken (EntryMove.safe_of_begun (r := r) (q := (s.port p).bound r) (State.open_move idle new free (State.grants_le granted)) taken idle
    (State.beginCombine_begins _ p e r true) (.inl free) rfl rfl (.combining rfl rfl rfl rfl) rfl
    (State.beginCombine_port _ p e r true) bound.state bound.profile (bound.good (core.good p) taken.is.1) bound.closing
    rfl number (fun _ => ⟨room, granted⟩) ?_ (.inr none)) taken (by rw [free]; rfl)
  have pending := r.owes_pending
  rw [none, ite_self, bound.reservations, bound.owes]
  simp only [Context.owes, newContext, Context.free]
  simp only [Option.isSome_none, Bool.toNat_false]
  omega

/-- How many answers a merge posts, and what it leaves owed (R13). -/
theorem State.supersede_answers (s : State) (p : PortId) (r : Request) (pending : (s.ctx e).pendingDecode.isSome) :
    ∃ as, (∀ u : State, u.supersede p (s.ctx e) r = u.setPort p ((u.port p).answered as)) ∧
      (mergedPending r (s.ctx e)).isSome.toNat + r.action.owesStored = 1 + (1 - as.length) ∧ as.length ≤ 1 := by
  obtain ⟨d, owed⟩ := Option.isSome_iff_exists.1 pending
  have nothing (u : State) : u = u.setPort p ((u.port p).answered []) := by rw [Port.answered_nil, State.setPort_self]
  cases action : r.action with
  | decode =>
    refine ⟨[⟨(s.ctx e).tag, d.cookie, .superseded r.attempt⟩], fun u => ?_, ?_, Nat.le_refl _⟩
    · simp only [State.supersede, action, owed]
      rfl
    · simp only [mergedPending, Request.pending, action]
      rfl
  | holdOnly =>
    refine ⟨[], fun u => ?_, ?_, Nat.zero_le _⟩
    · simp only [State.supersede, action]
      exact nothing u
    · simp only [mergedPending, action, owed]
      rfl

theorem Taken.mergeQueued (taken : Taken s p) (idle : s.engine.combine = none) (queued : (s.ctx e).state = .queued)
    (owner : (s.ctx e).port = p) (later : (s.ctx e).lastAttempt < r.attempt)
    (number : r.attempt ≤ (s.port p).profile.maxAttempts) : Sound (s.mergeQueued p e r) := by
  have core := taken.core
  have fields := core.fields e
  have release := fields.release_none (by rw [queued]; rfl)
  have some := core.dispatch.owed e queued
  obtain ⟨as, superseded, left, short⟩ := s.supersede_answers (r := r) p some
  have owes : (s.ctx e).owes = 1 := by
    rw [Context.owes, some, release]
    rfl
  have reserved := core.reserved p taken.is.2
  rw [oneAt_same] at reserved
  have posted : ((s.port p).answered as).Good := (core.good p).answered taken.is (by omega)
  have bound := Port.Alike.bound r ((s.port p).answered as)
  have port : ∀ i, (s.mergeQueued p e r).port i = if p = i then ((s.port p).answered as).bound r else s.port i := fun i => by
    rw [State.mergeQueued_context, superseded, State.beginCombine_port]
    simp only [State.setCtx_port, State.setPort_port_same, State.dispatchRemove_port]
    split
    · rfl
    · next other => rw [State.setPort_port_other _ _ _ _ other, State.dispatchRemove_port]
  refine SafeEntry.taken (EntryMove.safe_of_begun (r := r) (q := ((s.port p).answered as).bound r) (s.mergeQueued_move idle queued owner) taken idle ?_
    (.inr (.inr queued)) rfl owner (.combining release (fields.notice_none (by rw [queued]; decide)) rfl
      (fields.deadline (by rw [queued]; decide) (by rw [queued]; decide))) release port bound.state bound.profile
    (bound.good posted taken.is.1) bound.closing ?_ ⟨?_, number⟩ (fun free => by rw [queued] at free; cases free) ?_
    (.inl owner)) taken (by rw [queued]; rfl)
  · rw [State.mergeQueued_context]
    exact State.beginCombine_begins _ p e r false
  · rw [State.mergeQueued_context, superseded]
    simp
  · obtain ⟨count, -⟩ := core.attempts e (by rw [queued]; decide)
    show (s.ctx e).combinedCount + 1 ≤ r.attempt
    omega
  · rw [owes, if_pos owner, bound.reservations, bound.owes]
    have after : (mergedContext r (s.ctx e)).owes = (mergedPending r (s.ctx e)).isSome.toNat := by
      simp only [Context.owes, mergedContext, Context.admitted, release]
      rfl
    rw [after]
    show (s.port p).reservations - as.length + (s.port p).owes + 1 + 1 =
      (s.port p).reservations + (s.port p).owes + (mergedPending r (s.ctx e)).isSome.toNat + r.action.owesStored
    have enough : as.length ≤ (s.port p).reservations := by omega
    omega

/-! ### Evictions before an admission (R42 to R45) -/

/-- What the evictions of a New attempt's admission keep. -/
structure Eases (s : State) (p : PortId) (tag : Tag) (t : State) : Prop where
  admits : Admits s p tag t
  taken : Taken t p
  profile : (t.port p).profile = (s.port p).profile
  fewer : t.contextCount p ≤ s.contextCount p

theorem SafeEntry.eases (safe : SafeEntry (oneAt p) t u e c) (h : Eases s p tag t) (admits : Admits s p tag u)
    (used : (t.ctx e).state ≠ .free) (idle : inSharedBlock (t.ctx e).state = false) : Eases s p tag u where
  admits := admits
  taken := ⟨safe.core h.taken.core, fun i => safe.working (.inr (.inl idle)) (h.taken.working i), by
    rw [Port.Open, safe.sides.state]
    exact h.taken.is⟩
  profile := (safe.sides.profile p).trans h.profile
  fewer := by
    have moved := safe.move.contextCount p
    have before := h.fewer
    by_cases is : c.state ≠ .free ∧ c.port = p
    · obtain ⟨same, -⟩ := safe.move.key_kept used is.1
      rw [if_pos is, if_pos ⟨used, same.symm.trans is.2⟩] at moved
      omega
    · rw [if_neg is] at moved
      omega

theorem Eases.endHeld (h : Eases s p tag t) (k : NoticeKind) (e : Entry) : Eases s p tag (t.endHeld k e) := by
  by_cases held : (t.ctx e).state = .held
  · exact (h.taken.core.safe_endHeld held k).eases h (h.admits.endHeld k e) (by rw [held]; decide) (by rw [held]; rfl)
  · rw [State.endHeld, if_neg held]
    exact h

theorem Eases.endTombstone (h : Eases s p tag t) (e : Entry) : Eases s p tag (t.endTombstone e) := by
  by_cases solved : (t.ctx e).state = .solved
  · exact (h.taken.core.safe_endTombstone solved).eases h (h.admits.endTombstone e) (by rw [solved]; decide)
      (by rw [solved]; rfl)
  · rw [State.endTombstone, if_neg solved]
    exact h

theorem Eases.countEviction (h : Eases s p tag t) : Eases s p tag (t.countEviction p) := by
  have safe := h.taken.core.safe_same (t := t.countEviction p) rfl rfl rfl rfl rfl rfl rfl
  exact
    { admits := h.admits.countEviction
      taken := ⟨safe.core h.taken.core, fun i => safe.working (h.taken.working i), h.taken.is⟩
      profile := h.profile
      fewer := h.fewer }

theorem Eases.relief (h : Eases s p tag t) (n : Nat) :
    Eases s p tag (t.relieveEntries p) ∧ Eases s p tag (t.relievePages p n) :=
  State.relief_induction p (fun _ e h => (h.endHeld .evicted e).countEviction) (fun _ e h => h.endTombstone e) n t h

theorem State.room_of_entryAvailable (available : s.entryAvailable p = true) :
    s.contextCount p < (s.port p).profile.maxContexts := by
  rw [State.entryAvailable, Bool.and_eq_true, decide_eq_true_iff] at available
  exact available.2

theorem Taken.openWithPages (taken : Taken s p) (idle : s.engine.combine = none) (new : ∀ d, ¬ s.hasKey d p r.tag)
    (room : s.contextCount p < (s.port p).profile.maxContexts)
    (number : 1 ≤ r.attempt ∧ r.attempt ≤ (s.port p).profile.maxAttempts) (g : GeometryEntry) :
    Sound (s.openWithPages p r g) := by
  have start : Eases s p r.tag s := ⟨⟨.refl, idle, new⟩, taken, rfl, Nat.le_refl _⟩
  rw [State.openWithPages]
  have relieved : Eases s p r.tag (if s.grants p (pagesFor (recordLength g.K)) then s
      else s.relievePages p (pagesFor (recordLength g.K))) := by
    split
    · exact start
    · exact (start.relief _).2
  generalize (if s.grants p (pagesFor (recordLength g.K)) then s
    else s.relievePages p (pagesFor (recordLength g.K))) = u at relieved ⊢
  split
  · next granted =>
    split
    · exact relieved.taken.refuseUncombined r _
    · next e found =>
      refine relieved.taken.open_ relieved.admits.idle relieved.admits.new (State.freeEntry?_free found) granted ?_ ?_
      · rw [relieved.profile]
        exact Nat.lt_of_le_of_lt relieved.fewer room
      · rw [relieved.profile]
        exact number
  · exact relieved.taken.refuseUncombined r _

theorem Taken.openNew (taken : Taken s p) (idle : s.engine.combine = none) (new : ∀ d, ¬ s.hasKey d p r.tag)
    (number : 1 ≤ r.attempt ∧ r.attempt ≤ (s.port p).profile.maxAttempts) : Sound (s.openNew p r) := by
  have start : Eases s p r.tag s := ⟨⟨.refl, idle, new⟩, taken, rfl, Nat.le_refl _⟩
  rw [State.openNew]
  split
  · exact taken.refuseUncombined r _
  · have relieved : Eases s p r.tag (if s.entryAvailable p then s else s.relieveEntries p) := by
      split
      · exact start
      · exact (start.relief 0).1
    dsimp only
    generalize (if s.entryAvailable p then s else s.relieveEntries p) = u at relieved ⊢
    split
    · next available =>
      exact relieved.taken.openWithPages relieved.admits.idle relieved.admits.new
        (State.room_of_entryAvailable available) (by rw [relieved.profile]; exact number) _
    · exact relieved.taken.refuseUncombined r _

/-! ### The selection -/

theorem State.keyBusy_of_lookup (found : s.lookup p tag = some e) : s.keyBusy p tag = (s.ctx e).state.busy := by
  simp only [State.keyBusy, found]

theorem Taken.admitAttempt (taken : Taken s p) (idle : s.engine.combine = none) (free : s.keyBusy p r.tag = false)
    (number : 1 ≤ r.attempt ∧ r.attempt ≤ (s.port p).profile.maxAttempts) : Sound (s.admitAttempt p r) := by
  rw [State.admitAttempt]
  split
  · next unknown => exact taken.openNew idle ((s.lookup_eq_none p r.tag).1 unknown) number
  · next e found =>
    obtain ⟨used, owner, -⟩ := State.hasKey_of_lookup found
    rw [State.keyBusy_of_lookup found] at free
    dsimp only
    split
    · exact taken.refuseUncombined r _
    · split
      · exact taken.answerUncombined r _
      · next held =>
        split
        · exact taken.answerUncombined r _
        · next later => exact taken.continueHeld idle held owner (Nat.lt_of_not_le later) number.2
      · next queued =>
        split
        · exact taken.answerUncombined r _
        · next later => exact taken.mergeQueued idle queued owner (Nat.lt_of_not_le later) number.2
      · next state => exact absurd state used
      · next state => rw [state] at free; cases free
      · next state => rw [state] at free; cases free
      · next state => rw [state] at free; cases free

theorem Sound.combineSelection (sound : Sound s) (run : execCombineSelection s = .next t) : Sound t := by
  rw [execCombineSelection] at run
  split at run
  · cases run
    exact sound
  · next idle =>
    obtain ⟨still, engine⟩ := Still.scanSlots (scanOrder s.engine.pointer) s
    have scanned := sound.scanSlots (scanOrder s.engine.pointer)
    split at run
    · next found =>
      cases run
      rw [found] at scanned
      exact scanned
    · next u p r found =>
      cases run
      rw [found] at scanned engine
      obtain ⟨ready, free⟩ := State.scanSlots_selects found
      have safe := scanned.core.safe_takeSlot ready
      have taken : Taken (u.takeSlot p) p := by
        refine ⟨safe.core scanned.core, fun i => safe.working (scanned.working i), ?_⟩
        rw [Port.Open, safe.sides.state]
        exact scanned.core.open_of_slot (by rw [ready]; exact nofun)
      refine (taken.admitAttempt ((congrArg Engine.combine engine).trans idle) free ?_).settle p
      rw [safe.sides.profile]
      exact (scanned.core.good p).slot r (.inl ready)

end

end Sys2Proof.Machine
end

section
/-! SUPPORT. The page work and the ends of a combine keep every law: each answer owed at the end is posted into its reservation, and a RESETTING port is posted nothing (spec/01 R15 to R17, R24, spec/03 R61 to R71, spec/08 R153). -/

namespace Sys2Proof.Machine

section
variable {s t u : State} {e : Entry} {c x : Context} {y : PortId → Nat} {p : PortId} {q : Port} {k : Combine}
  {as : List Answer}

/-! ### Work in a shared block -/

/-- The engine or the units go on: a release and a reset stay asked for. -/
theorem Still.safe_work (h : Still s t) (core : Core y s) (ports : ∀ r, t.port r = s.port r)
    (jobs : ∀ w j, t.units.job w = some j → ∃ i, s.units.job w = some i ∧ i.entry = j.entry ∧ i.port = j.port ∧
      (i.stopping = true → j.stopping = true))
    (engine : ∀ l, t.engine.combine = some l → ∃ k, s.engine.combine = some k ∧ k.port = l.port ∧
      l.abortRequested = k.abortRequested ∧ (l.atBoundary = true → l.abortRequested = true)) : SafeStill y s t where
  still := h
  sides :=
    { state := fun r => by rw [ports]
      profile := fun r => by rw [ports]
      good := fun r => by rw [ports]; exact core.good r
      stopping := fun w j unit waits => by
        obtain ⟨i, at_s, entry, -, stops⟩ := jobs w j unit
        rw [h.ctx, ← entry] at waits
        exact stops (core.stopping w i at_s waits)
      resettingEngine := fun l busy => by
        obtain ⟨k, at_s, port, abort, boundary⟩ := engine l busy
        obtain ⟨resets, -⟩ := core.resettingEngine k at_s
        rw [ports, abort, ← port]
        exact ⟨resets, abort ▸ boundary⟩
      resettingUnits := fun w j unit is => by
        obtain ⟨i, at_s, -, port, stops⟩ := jobs w j unit
        rw [ports, ← port] at is
        exact stops (core.resettingUnits w i at_s is)
      reserved := fun r open_ => by
        have owed := h.owed r
        rw [ports] at owed open_ ⊢
        have before := core.reserved r open_
        omega }
  closing r := by rw [ports]

theorem State.sameJobs (same : t.units = s.units) (w : UnitId) (j : Job) (unit : t.units.job w = some j) :
    ∃ i, s.units.job w = some i ∧ i.entry = j.entry ∧ i.port = j.port ∧ (i.stopping = true → j.stopping = true) :=
  ⟨j, same ▸ unit, rfl, rfl, id⟩

/-- A combine goes on by a record that keeps its owner and its abort. -/
theorem Core.safe_setCombine (core : Core y s) (h : Still s u) (ports : ∀ r, u.port r = s.port r)
    (units : u.units = s.units) (busy : u.engine.combine = some k) (same : s.engine.combine = some k) {l : Combine}
    (owner : l.owner = k.owner) (abort : l.abortRequested = k.abortRequested)
    (boundary : l.atBoundary = true → l.abortRequested = true) : SafeStill y s (u.setCombine (some l)) := by
  refine (Still.setCombine h busy owner).safe_work core ports (State.sameJobs units) fun m at_t => ?_
  obtain rfl : l = m := Option.some.inj at_t
  obtain ⟨port, -⟩ := Prod.mk.inj owner
  exact ⟨k, same, port.symm, abort, boundary⟩

theorem Combine.cleared_abort (L : Nat) (pages : List Page) (k : Combine) :
    (k.cleared L pages).abortRequested = k.abortRequested ∧ (k.cleared L pages).atBoundary = k.abortRequested := by
  rw [Combine.cleared]
  dsimp only
  split
  · exact ⟨rfl, rfl⟩
  · exact Combine.beginReads_abort _ _ _ _

theorem Combine.readEnded_abort (L : Nat) (pages : List Page) (passed : Bool) (pg : Page) (rest : List Page)
    (k : Combine) : (k.readEnded L pages passed pg rest).abortRequested = k.abortRequested ∧
      (k.readEnded L pages passed pg rest).atBoundary = k.atBoundary := by
  rw [Combine.readEnded]
  dsimp only
  split
  · exact Combine.beginReads_abort _ _ _ _
  · exact ⟨rfl, rfl⟩

theorem Combine.visited_abort (L : Nat) (pages : List Page) (v : Visit) (k : Combine) :
    (k.visited L pages v).abortRequested = k.abortRequested ∧ (k.visited L pages v).atBoundary = k.abortRequested :=
  Combine.beginReads_abort _ _ _ _

theorem Sound.clearPageEnd (sound : Sound s) (run : execClearPageEnd s = .next t) : Sound t := by
  obtain rfl | ⟨k, pg, busy, rfl⟩ := execClearPageEnd_cases run
  · exact sound
  · obtain ⟨abort, boundary⟩ := k.cleared_abort (s.ctx k.entry).L (s.ctx k.entry).pages
    refine SafeStill.sound ?_ sound
    exact sound.core.safe_setCombine (.setStore s _) (by exact fun _ => rfl) (by exact rfl) (by exact busy) busy (k.cleared_owner _ _) abort
      (by rw [abort, boundary]; exact id)

theorem Sound.visitWriteEnd (sound : Sound s) (run : execVisitWriteEnd s = .next t) : Sound t := by
  obtain rfl | ⟨k, v, pg, busy, -, rfl⟩ := execVisitWriteEnd_cases run
  · exact sound
  · obtain ⟨abort, boundary⟩ := k.visited_abort (s.ctx k.entry).L (s.ctx k.entry).pages v
    refine SafeStill.sound ?_ sound
    exact sound.core.safe_setCombine (.setStore s _) (by exact fun _ => rfl) (by exact rfl) (by exact busy) busy (k.visited_owner _ _ v) abort
      (by rw [abort, boundary]; exact id)

theorem Sound.combinePageReadEnd (sound : Sound s) {passed : Bool} (run : execCombinePageReadEnd passed s = .next t) :
    Sound t := by
  rw [execCombinePageReadEnd] at run
  split at run
  · cases run
    exact sound
  · next k busy =>
    split at run
    · cases run
      exact sound
    · next pg rest _ =>
      cases run
      obtain ⟨abort, boundary⟩ := k.readEnded_abort (s.ctx k.entry).L (s.ctx k.entry).pages passed pg rest
      exact (sound.core.safe_setCombine (.refl s) (fun _ => rfl) rfl busy busy (k.readEnded_owner _ _ _ _ _) abort
        (by rw [abort, boundary]; exact (sound.core.resettingEngine k busy).2)).sound sound

/-! ### What the end of a context's work leaves -/

/-- The end of the work of one context in a shared block, with its port settled. -/
theorem SafeEntry.settled (h : SafeEntry noSurplus s t e c) (sound : Sound s) (owner : (s.ctx e).port = p) :
    Sound (t.settle p) :=
  (h.core sound.core).settle fun r other => h.working (.inl fun same => other (owner.symm.trans same)) (sound.working r)

/-- The answers posted at the end of work: into the reservations that it frees, and none to a RESETTING port. -/
structure Settles (s : State) (p : PortId) (n : Nat) (as : List Answer) (q : Port) : Prop where
  alike : ((s.port p).answered as).Alike q
  posted : (s.port p).state.isResetting = false → as.length = n
  silent : (s.port p).state.isResetting = true → as = []

theorem Settles.good {n : Nat} (h : Settles s p n as q) (core : Core noSurplus s) (on : (s.port p).state ≠ .off)
    (held : n ≤ s.owed p) : q.Good := by
  refine h.alike.good ?_ on
  cases is : (s.port p).state.isResetting with
  | true =>
    rw [h.silent is, Port.answered_nil]
    exact core.good p
  | false =>
    refine (core.good p).answered ⟨on, is⟩ ?_
    have reserved : (s.port p).reservations = s.owed p + 0 := core.reserved p is
    rw [h.posted is]
    omega

theorem State.owes_le_contextsOwe (s : State) (e : Entry) : (s.ctx e).owes ≤ s.contextsOwe (s.ctx e).port := by
  rw [State.contextsOwe]
  exact List.single_le_sum (fun _ _ => Nat.zero_le _) _
    (List.mem_map.2 ⟨e, List.mem_filter.2 ⟨mem_allEntries e, beq_self_eq_true _⟩, rfl⟩)

/-- The work of one context in a shared block ends; n tells what the engine or the units held for it, m how many answers leave its port. -/
theorem EntryMove.safe_of_workEnd (move : EntryMove s t e c) (core : Core noSurplus s) (owner : (s.ctx e).port = p)
    (was : inSharedBlock (s.ctx e).state = true) (idle : inSharedBlock c.state = false) (notClosing : c.state ≠ .closing)
    (fields : c.Fields) (kept : c.state ≠ .free → (s.port p).state.isResetting = false ∧
      c.combinedCount = (s.ctx e).combinedCount ∧ c.lastAttempt = (s.ctx e).lastAttempt)
    (port : ∀ r, t.port r = if p = r then q else s.port r)
    (jobs : ∀ w j, t.units.job w = some j → s.units.job w = some j)
    (engine : ∀ l, t.engine.combine = some l → s.engine.combine = some l)
    (others : ∀ r, p ≠ r → t.engine.owes r = s.engine.owes r ∧ t.units.owes r = s.units.owes r) {m n : Nat}
    (worked : t.engine.owes p + t.units.owes p + n = s.engine.owes p + s.units.owes p)
    (settles : Settles s p m as q) (account : m + c.owes = (s.ctx e).owes + n) : SafeEntry noSurplus s t e c := by
  have used : (s.ctx e).state ≠ .free := fun free => by
    rw [free] at was
    cases was
  have open_ : (s.ctx e).state ≠ .closing := fun closing => by
    rw [closing] at was
    cases was
  have on : (s.port p).state ≠ .off := owner ▸ core.ne_off used
  have alike := settles.alike
  have same : q.state = (s.port p).state := alike.state
  have samePort : c.state ≠ .free → c.port = p := fun is => (move.key_kept used is).1.trans owner
  have own : c.port = p ∨ c.owes = 0 := by
    by_cases is : c.state = .free
    · rcases move.key with rfl | h
      · exact .inr rfl
      · exact absurd is h.1
    · exact .inl (samePort is)
  have held : m ≤ s.owed p := by
    have some := s.owes_le_contextsOwe e
    rw [owner] at some
    rw [State.owed_eq]
    omega
  refine
    { move := move
      sides := .of_port core port same alike.profile (settles.good core on held)
        (move.stopping core jobs (fun some => ?_)) (fun l at_t => core.resettingEngine l (engine l at_t))
        (fun w j unit => core.resettingUnits w j (jobs w j unit)) (fun r other => ?_) (fun _ _ => rfl) fun is => ?_
      closing := fun r => .unclosing (field_of_port (f := Port.closing) port alike.closing r) open_ notClosing r
      fields := fields
      usable := fun is => by
        rw [samePort is]
        exact ⟨on, fun resets => by rw [(kept is).1] at resets; cases resets⟩
      attempts := fun is => by
        obtain ⟨-, count, last⟩ := kept is
        rw [samePort is, count, last, ← owner]
        exact core.attempts e used
      room := fun free => absurd free used
      granted := fun free => absurd free used }
  · rw [fields.release_none (by revert idle; cases c.state <;> decide)] at some
    cases some
  · obtain ⟨engineOwes, unitsOwe⟩ := others r other
    exact move.owed_other (by rw [port, if_neg other]) (fun here => absurd (owner.symm.trans here) other)
      (fun here => own.resolve_left fun is => other (is.symm.trans here)) engineOwes unitsOwe
  · rw [same] at is
    have before : (s.port p).reservations = s.owed p + 0 := core.reserved p is
    have balance := move.owed_balance p
    have after : (if c.port = p then c.owes else 0) = c.owes := by
      rcases own with here | none
      · rw [if_pos here]
      · rw [none, ite_self]
    have left : ((s.port p).answered as).reservations = (s.port p).reservations - as.length := rfl
    have owes : ((s.port p).answered as).owes = (s.port p).owes := rfl
    rw [port, if_pos rfl, if_pos owner, after, alike.owes, owes] at balance
    rw [alike.reservations, left, settles.posted is, noSurplus]
    omega

/-! ### Ends of a combine -/

/-- The context of a combine leaves COMBINING. -/
theorem EntryMove.safe_of_combineEnd (move : EntryMove s t k.entry c) (core : Core noSurplus s)
    (busy : s.engine.combine = some k) (ended : t.engine.combine = none) (idle : inSharedBlock c.state = false)
    (notClosing : c.state ≠ .closing) (fields : c.Fields)
    (kept : c.state ≠ .free → (s.port k.port).state.isResetting = false ∧
      c.combinedCount = (s.ctx k.entry).combinedCount ∧ c.lastAttempt = (s.ctx k.entry).lastAttempt)
    (port : ∀ r, t.port r = if k.port = r then q else s.port r) (units : t.units = s.units) {m : Nat}
    (settles : Settles s k.port m as q) (account : m + c.owes = (s.ctx k.entry).owes + k.action.owesStored) :
    SafeEntry noSurplus s t k.entry c := by
  obtain ⟨owner, one, -⟩ := core.engine.busy busy
  have engineOwes (r : PortId) : s.engine.owes r = if k.port = r then k.action.owesStored else 0 := by
    rw [Engine.owes_of_some busy, Action.owesStored]
    by_cases here : k.port = r <;> simp [here]
  refine move.safe_of_workEnd core owner (by rw [(one k.entry).2 rfl]; rfl) idle notClosing fields kept port
    (fun w j => by rw [units]; exact id) (fun l at_t => by rw [ended] at at_t; cases at_t) (fun r other => ⟨?_, ?_⟩) ?_
    settles account
  · rw [engineOwes, if_neg other, Engine.owes_of_none ended]
  · rw [units]
  · rw [engineOwes, if_pos rfl, Engine.owes_of_none ended, units]
    omega

theorem State.endCombine_port (u : State) (k : Combine) (r : PortId) :
    (u.endCombine k).port r = if k.port = r then (u.port k.port).freeBuffer k.buffer else u.port r := by
  rw [State.endCombine_eq]
  exact State.port_of_setPort (fun _ => rfl) r

/-- The port of a combine that ends: answers posted, its key signalled, its buffer freed. -/
theorem State.port_of_combineEnd {v : State} (left : v = u.setPort k.port (q.signalled tag))
    (ports : ∀ r, u.port r = s.port r) (r : PortId) :
    (v.endCombine k).port r = if k.port = r then (q.signalled tag).freeBuffer k.buffer else s.port r := by
  rw [State.endCombine_port, left, State.setPort_port_same]
  split
  · rfl
  · next other => rw [State.setPort_port_other _ _ _ _ other, ports]

theorem Port.Alike.combineEnd (q : Port) (tag : Tag) (b : BufId) : q.Alike ((q.signalled tag).freeBuffer b) :=
  (signalled q tag).trans (freeBuffer _ b)

theorem storedAnswers_length (k : Combine) (x : Context) : (storedAnswers k x).length = k.action.owesStored := by
  rw [storedAnswers, Action.owesStored]
  split <;> rfl

theorem Option.length_toList_map {α β : Type} (o : Option α) (f : α → β) :
    (o.toList.map f).length = o.isSome.toNat := by
  cases o <;> rfl

/-! #### Completion (R67) -/

theorem Context.Fields.queued {c : Context} (release : c.releasePending = none) (notice : c.owedNotice = none)
    (deadline : c.deadline = 0) (state : c.state = .queued) : c.Fields where
  pending _ := by rw [state]; rfl
  release some := by
    rw [release] at some
    cases some
  notice := by
    rw [notice, state]
    exact ⟨nofun, nofun⟩
  deadline _ _ := deadline

theorem Context.Fields.waiting {c : Context} (pending : c.pendingDecode = none) (release : c.releasePending = none)
    (notice : c.owedNotice = none) (state : c.state = .held ∨ c.state = .solved) : c.Fields where
  pending some := by
    rw [pending] at some
    cases some
  release some := by
    rw [release] at some
    cases some
  notice := by
    rw [notice]
    refine ⟨nofun, fun is => ?_⟩
    rcases state with h | h <;> rw [h] at is <;> cases is
  deadline held solved := absurd state fun h => h.elim held solved

theorem Settles.of_open (open_ : (s.port k.port).state.isResetting = false) (as : List Answer) (tag : Tag) :
    Settles s k.port as.length as ((((s.port k.port).answered as).signalled tag).freeBuffer k.buffer) :=
  ⟨.combineEnd _ _ _, fun _ => rfl, fun is => by rw [open_] at is; cases is⟩

section
variable (core : Core noSurplus s) (busy : s.engine.combine = some k)
  (open_ : (s.port k.port).state.isResetting = false)
include core busy open_

theorem Core.safe_leaveCombining_release {cookie : Cookie} (release : (s.ctx k.entry).releasePending = some cookie) :
    SafeEntry noSurplus s ((s.leaveCombining k (s.ctx k.entry)).endCombine k) k.entry Context.free := by
  obtain ⟨owner, one, -⟩ := core.engine.busy busy
  have was := (one k.entry).2 rfl
  have left := State.leaveCombining_of_release rfl release
  rw [owner] at left
  have units : ((s.leaveCombining k (s.ctx k.entry)).endCombine k).units = s.units := by rw [left]; rfl
  have move : EntryMove s ((s.leaveCombining k (s.ctx k.entry)).endCombine k) k.entry Context.free := by
    simp only [State.leaveCombining, release, State.releasePages_eq_closeDamaged]
    exact .of_combineClosed busy was (by simp) (by simp) (by simp) (by simp) (by simp)
  refine move.safe_of_combineEnd core busy rfl rfl (by decide) .free (fun is => absurd rfl is)
    (State.port_of_combineEnd left fun _ => rfl) units (.of_open open_ _ _) ?_
  rw [Context.owes_free, Context.owes, release]
  simp only [List.length_append, Option.length_toList_map, storedAnswers_length, List.length_singleton,
    Option.isSome_some, Bool.toNat_true]
  omega

theorem Core.safe_leaveCombining_decode {d : PendingDecode} (release : (s.ctx k.entry).releasePending = none)
    (pending : (s.ctx k.entry).pendingDecode = some d) :
    SafeEntry noSurplus s ((s.leaveCombining k (s.ctx k.entry)).endCombine k) k.entry
      { s.ctx k.entry with state := .queued, gap := gapAfter k.action (s.ctx k.entry).gap } := by
  obtain ⟨owner, one, -⟩ := core.engine.busy busy
  have was := (one k.entry).2 rfl
  have fields := core.fields k.entry
  have left := State.leaveCombining_of_decode (s := s) (c := k) release pending
  rw [owner] at left
  have units : ((s.leaveCombining k (s.ctx k.entry)).endCombine k).units = s.units := by rw [left]; rfl
  have move : EntryMove s ((s.leaveCombining k (s.ctx k.entry)).endCombine k) k.entry
      { s.ctx k.entry with state := .queued, gap := gapAfter k.action (s.ctx k.entry).gap } := by
    rw [State.leaveCombining]
    split
    · next waits => rw [release] at waits; cases waits
    · exact .of_combineQueued busy rfl was pending _ (by simp) (by simp) (by simp) (by simp) (by simp)
    · next none => rw [pending] at none; cases none
  refine move.safe_of_combineEnd core busy rfl rfl nofun (.queued release (fields.notice_none (by rw [was]; decide))
    (fields.deadline (by rw [was]; decide) (by rw [was]; decide)) rfl) (fun _ => ⟨open_, rfl, rfl⟩)
    (State.port_of_combineEnd left fun _ => by simp) units (.of_open open_ _ _) ?_
  rw [storedAnswers_length]
  exact Nat.add_comm _ _

theorem Core.safe_leaveCombining_hold (release : (s.ctx k.entry).releasePending = none)
    (pending : (s.ctx k.entry).pendingDecode = none) :
    SafeEntry noSurplus s ((s.leaveCombining k (s.ctx k.entry)).endCombine k) k.entry
      (((s.answerStored k (s.ctx k.entry)).enterHeld k.entry).ctx k.entry) := by
  obtain ⟨owner, one, -⟩ := core.engine.busy busy
  have was := (one k.entry).2 rfl
  have fields := core.fields k.entry
  have left := State.leaveCombining_of_hold (s := s) (c := k) release pending
  rw [owner] at left
  have units : ((s.leaveCombining k (s.ctx k.entry)).endCombine k).units = s.units := by rw [left]; rfl
  have move : EntryMove s ((s.leaveCombining k (s.ctx k.entry)).endCombine k) k.entry
      (((s.answerStored k (s.ctx k.entry)).enterHeld k.entry).ctx k.entry) := by
    simp only [State.leaveCombining, release, pending]
    exact .of_combineHeld busy was (by simp) (by simp) (by simp) (by simp) (by simp)
  have here : (s.answerStored k (s.ctx k.entry)).ctx k.entry = s.ctx k.entry := by simp
  rw [State.enterHeld_ctx, if_pos rfl, here] at move ⊢
  refine move.safe_of_combineEnd core busy rfl rfl nofun (.waiting pending release
    (fields.notice_none (by rw [was]; decide)) (.inl rfl)) (fun _ => ⟨open_, rfl, rfl⟩)
    (State.port_of_combineEnd left fun _ => by simp) units (.of_open open_ _ _) ?_
  rw [storedAnswers_length]
  exact Nat.add_comm _ _

end

theorem Core.safe_leaveCombining (core : Core noSurplus s) (busy : s.engine.combine = some k)
    (calm : k.abortRequested = false) :
    ∃ c, SafeEntry noSurplus s ((s.leaveCombining k (s.ctx k.entry)).endCombine k) k.entry c := by
  have open_ : (s.port k.port).state.isResetting = false := by
    rw [Bool.eq_false_iff]
    intro is
    rw [(core.resettingEngine k busy).1, calm] at is
    cases is
  cases release : (s.ctx k.entry).releasePending with
  | some cookie => exact ⟨_, core.safe_leaveCombining_release busy open_ release⟩
  | none =>
    cases pending : (s.ctx k.entry).pendingDecode with
    | some d => exact ⟨_, core.safe_leaveCombining_decode busy open_ release pending⟩
    | none => exact ⟨_, core.safe_leaveCombining_hold busy open_ release pending⟩

theorem Sound.combineCompletion (sound : Sound s) (run : execCombineCompletion s = .next t) : Sound t := by
  rw [execCombineCompletion] at run
  split at run
  · cases run
    exact sound
  · next k busy =>
    split at run
    · next due =>
      obtain ⟨-, -, calm, -⟩ := due
      cases run
      obtain ⟨owner, -⟩ := sound.core.engine.busy busy
      obtain ⟨c, safe⟩ := sound.core.safe_leaveCombining busy calm
      exact safe.settled sound owner
    · cases run
      exact sound

/-! #### Damage and abort (R69, R71) -/

/-- A combine ends with its context, its answers posted. -/
theorem Core.safe_combineClosed (core : Core noSurplus s) (busy : s.engine.combine = some k) (report : List Page)
    (posted : (s.port k.port).state.isResetting = false →
      as.length = (s.ctx k.entry).owes + k.action.owesStored)
    (silent : (s.port k.port).state.isResetting = true → as = []) :
    SafeEntry noSurplus s (((s.setPort k.port ((s.port k.port).answered as)).closeDamaged k.entry report).endCombine k)
      k.entry Context.free := by
  obtain ⟨owner, one, -⟩ := core.engine.busy busy
  have was := (one k.entry).2 rfl
  have left := State.closeDamaged_of_answered (s := s) (e := k.entry) (q := (s.port k.port).answered as) rfl report
  rw [owner] at left
  refine EntryMove.safe_of_combineEnd (.of_combineClosed busy was (by simp) (by simp) (by simp) (by simp) (by simp)) core
    busy rfl rfl (by decide) .free (fun is => absurd rfl is) (State.port_of_combineEnd left fun _ => rfl)
    (by rw [left]; rfl) ⟨.combineEnd _ _ _, posted, silent⟩ rfl

theorem Sound.combineDamage (sound : Sound s) (run : execCombineDamage s = .next t) : Sound t := by
  rw [execCombineDamage] at run
  split at run
  · cases run
    exact sound
  · next k busy =>
    dsimp only at run
    split at run
    · next due =>
      cases run
      obtain ⟨owner, one, owed⟩ := sound.core.engine.busy busy
      have said : (if (s.port (s.ctx k.entry).port).state.isResetting then s
          else (s.answerCombineDamage k (s.ctx k.entry)).answerRelease (s.ctx k.entry) .combining) =
          s.setPort k.port ((s.port k.port).answered (if (s.port k.port).state.isResetting then [] else
            [⟨(s.ctx k.entry).tag, k.cookie, .damaged⟩] ++
            (if k.action = .holdOnly then (s.ctx k.entry).pendingDecode.toList.map fun owed =>
              ⟨(s.ctx k.entry).tag, owed.cookie, .damaged⟩ else []) ++
            ((s.ctx k.entry).releasePending.toList.map fun l => ⟨(s.ctx k.entry).tag, l, .released .combining⟩))) := by
        rw [owner]
        split
        · rw [Port.answered_nil, State.setPort_self]
        · rw [State.answerCombineDamage_eq, State.answerRelease_eq, owner, State.setPort_port_same,
            State.setPort_setPort, Port.answered_answered]
      rw [said]
      refine (sound.core.safe_combineClosed busy _ (fun open_ => ?_) fun is => if_pos is).settled sound owner
      rw [open_]
      simp only [Bool.false_eq_true, if_false, List.length_append, List.length_singleton, Option.length_toList_map,
        Context.owes, Action.owesStored]
      cases action : k.action with
      | decode =>
        rw [owed action]
        rfl
      | holdOnly =>
        simp only [if_true, Option.length_toList_map]
        omega
    · cases run
      exact sound

theorem Sound.combineAbort (sound : Sound s) (run : execCombineAbort s = .next t) : Sound t := by
  rw [execCombineAbort] at run
  split at run
  · cases run
    exact sound
  · next k busy =>
    split at run
    · next due =>
      obtain ⟨boundary, -⟩ := due
      cases run
      obtain ⟨owner, -⟩ := sound.core.engine.busy busy
      obtain ⟨resets, reached⟩ := sound.core.resettingEngine k busy
      have resetting := resets.2 (reached boundary)
      have safe := sound.core.safe_combineClosed (as := []) busy [] (fun open_ => by rw [resetting] at open_; cases open_)
        fun _ => rfl
      rw [Port.answered_nil, State.setPort_self] at safe
      exact safe.settled sound owner
    · cases run
      exact sound

end

end Sys2Proof.Machine
end

section
/-! SUPPORT. The reads, passes and ends of a decode keep every law: its answers are posted into the reservations that it and its context hold (spec/01 R19 to R21, R24, spec/05 R97 to R112, spec/08 R153). -/

namespace Sys2Proof.Machine

section
variable {s t v : State} {c x : Context} {y : PortId → Nat} {p : PortId} {q : Port} {u : UnitId} {j : Job}
  {as : List Answer}

/-! ### Page reads and passes -/

theorem Core.safe_setJob (core : Core y s) (unit : s.units.job u = some j) {l : Job} (owner : l.owner = j.owner)
    (stops : l.stopping = j.stopping) : SafeStill y s (s.setUnits (s.units.setJob u l)) := by
  obtain ⟨entry, port⟩ := Prod.mk.inj owner
  refine (Still.setJob unit owner).safe_work core (fun _ => rfl) (fun w i at_t => ?_) fun k busy =>
    ⟨k, busy, rfl, rfl, (core.resettingEngine k busy).2⟩
  rw [State.setUnits_units, Units.job_setJob] at at_t
  split at at_t
  · next here =>
    cases at_t
    refine ⟨j, ?_, entry.symm, port.symm, stops ▸ id⟩
    rcases here with paired | rfl
    · rw [Units.job_of_paired paired w u, unit]
    · exact unit
  · exact ⟨i, at_t, rfl, rfl, id⟩

theorem Job.beginReads_stopping (paired : Bool) (j : Job) : (j.beginReads paired).stopping = j.stopping := by
  rw [Job.beginReads]
  split <;> rfl

theorem Job.readEnded_stopping (part : Part) (passed : Bool) (pg : Page) (rest : List Page) (j : Job) :
    (j.readEnded part passed pg rest).stopping = j.stopping := by
  cases part <;> rfl

theorem Sound.decodePageReadEnd (sound : Sound s) {passed : Bool} (run : execDecodePageReadEnd u passed s = .next t) :
    Sound t := by
  rw [execDecodePageReadEnd] at run
  split at run
  · cases run
    exact sound
  · next j unit =>
    split at run
    · cases run
      exact sound
    · cases run
      exact (sound.core.safe_setJob unit (j.readEnded_owner _ _ _ _) (j.readEnded_stopping _ _ _ _)).sound sound

/-- A pass has ended, and the next one begins. -/
theorem Sound.nextPass (sound : Sound s) (unit : s.units.job u = some j) {l : Job} (owner : l.owner = j.owner)
    (stops : l.stopping = j.stopping) (paired : Bool) : Sound (s.setUnits (s.units.setJob u (l.beginReads paired))) :=
  (sound.core.safe_setJob unit ((l.beginReads_owner paired).trans owner)
    ((l.beginReads_stopping paired).trans stops)).sound sound

/-! ### The context of a decode leaves DECODING -/

theorem EntryMove.safe_of_decodeEnd (move : EntryMove s t j.entry c) (core : Core noSurplus s)
    (unit : s.units.job u = some j) (ended : t.units = s.units.clear u) (idle : inFlight c.state = false)
    (notClosing : c.state ≠ .closing) (fields : c.Fields)
    (kept : c.state ≠ .free → (s.port j.port).state.isResetting = false ∧
      c.combinedCount = (s.ctx j.entry).combinedCount ∧ c.lastAttempt = (s.ctx j.entry).lastAttempt)
    (port : ∀ r, t.port r = if j.port = r then q else s.port r) (engine : t.engine.combine = s.engine.combine)
    (settles : Settles s j.port ((s.ctx j.entry).owes + 1) as q) : SafeEntry noSurplus s t j.entry c := by
  have unitsOwe (r : PortId) : s.units.owes r = t.units.owes r + if j.port = r then 1 else 0 := by
    rw [ended, Units.owes_clear unit]
    by_cases here : j.port = r <;> simp [here]
  have engineOwes (r : PortId) : t.engine.owes r = s.engine.owes r := Engine.owes_congr (by rw [engine]) r
  refine move.safe_of_workEnd core (core.units.port u j unit) (by rw [core.units.decodingJob unit]; rfl)
    (by revert idle; cases c.state <;> decide) notClosing fields kept port (fun w i at_t => ?_)
    (fun l at_t => engine ▸ at_t) (fun r other => ⟨engineOwes r, ?_⟩) (n := 1) ?_ settles ?_
  · rw [ended, Units.clear_job] at at_t
    split at at_t
    · cases at_t
    · exact at_t
  · rw [unitsOwe, if_neg other, Nat.add_zero]
  · rw [unitsOwe, if_pos rfl, engineOwes]
    omega
  · rw [fields.owes_of_idle idle]

/-! ### Ends of a decode -/

/-- The unit of a decode is IDLE, its slot is left as it ended, and its answers are posted. -/
structure State.DecodeAnswered (s : State) (u : UnitId) (j : Job) (as : List Answer) (v : State) : Prop where
  freed : s.DecodeFreed u v
  port : ∃ slot, ∀ r, v.port r = if j.port = r then ((s.port j.port).setOutSlot j.slot slot).answered as else s.port r

theorem State.freeDecode_port (s : State) (u : UnitId) (j : Job) (slot : OutSlot) (r : PortId) :
    (s.freeDecode u j slot).port r = if j.port = r then (s.port j.port).setOutSlot j.slot slot else s.port r := by
  rw [State.freeDecode_eq]
  exact State.port_of_setPort (fun _ => rfl) r

theorem State.freeDecode_answers (s : State) (u : UnitId) (j : Job) (slot : OutSlot) (as : List Answer) :
    s.DecodeAnswered u j as
      ((s.freeDecode u j slot).setPort j.port (((s.freeDecode u j slot).port j.port).answered as)) where
  freed := (DecodeFreed.freeDecode s u j slot).setPort _ _
  port := by
    refine ⟨slot, fun r => ?_⟩
    split
    · next here => rw [here, State.setPort_port_same, ← here, State.freeDecode_port, if_pos rfl]
    · next other => rw [State.setPort_port_other _ _ _ _ other, State.freeDecode_port, if_neg other]

theorem State.DecodeAnswered.setCounters (h : s.DecodeAnswered u j as v) (p : PortId) (k : Counters) :
    s.DecodeAnswered u j as (v.setCounters p k) := ⟨h.freed.setCounters p k, h.port⟩

/-- The port of a decode that ends, once its key is signalled. -/
theorem State.DecodeAnswered.signalled (h : s.DecodeAnswered u j as v) (tag : Tag)
    (ports : ∀ r, t.port r = if j.port = r then (v.port j.port).signalled tag else v.port r) :
    ∃ q, (∀ r, t.port r = if j.port = r then q else s.port r) ∧ ((s.port j.port).answered as).Alike q := by
  obtain ⟨slot, port⟩ := h.port
  refine ⟨(((s.port j.port).setOutSlot j.slot slot).answered as).signalled tag, fun r => ?_,
    .trans (q' := ((s.port j.port).setOutSlot j.slot slot).answered as)
      (.of_slot rfl rfl (fun _ => id) rfl rfl rfl rfl rfl rfl rfl) (.signalled _ tag)⟩
  rw [ports, port, if_pos rfl]
  split
  · rfl
  · next other => rw [port, if_neg other]

theorem State.closeDamaged_port (s : State) (e : Entry) (report : List Page) (r : PortId) :
    (s.closeDamaged e report).port r =
      if (s.ctx e).port = r then (s.port (s.ctx e).port).signalled (s.ctx e).tag else s.port r :=
  State.port_of_setPort (fun _ => rfl) r

theorem State.signal_ports (s : State) (p : PortId) (tag : Tag) (r : PortId) :
    (s.signal p tag).port r = if p = r then (s.port p).signalled tag else s.port r :=
  State.port_of_setPort (fun _ => rfl) r

theorem Core.owes_of_job (core : Core y s) (unit : s.units.job u = some j)
    (release : (s.ctx j.entry).releasePending = none) : (s.ctx j.entry).owes = 0 :=
  Context.owes_eq_zero ((core.fields j.entry).pending_none (by rw [core.units.decodingJob unit]; rfl)) release

section
variable (core : Core noSurplus s) (unit : s.units.job u = some j) (h : s.DecodeAnswered u j as v)
include core unit h

theorem State.DecodeAnswered.safe_closed (report : List Page)
    (posted : (s.port j.port).state.isResetting = false → as.length = (s.ctx j.entry).owes + 1)
    (silent : (s.port j.port).state.isResetting = true → as = []) :
    SafeEntry noSurplus s (v.closeDamaged j.entry report) j.entry Context.free := by
  have owner : (v.ctx j.entry).port = j.port := by rw [h.freed.ctx]; exact core.units.port u j unit
  obtain ⟨q, port, alike⟩ := h.signalled (t := v.closeDamaged j.entry report) (v.ctx j.entry).tag fun r => by
    rw [State.closeDamaged_port, owner]
  exact (h.freed.closed unit (core.units.decodingJob unit) report).safe_of_decodeEnd core unit h.freed.units rfl
    (by decide) .free (fun is => absurd rfl is) port (congrArg Engine.combine h.freed.engine) ⟨alike, posted, silent⟩

variable (open_ : (s.port j.port).state.isResetting = false) (release : (s.ctx j.entry).releasePending = none)
  (one : as.length = 1)
include open_ release one

theorem State.DecodeAnswered.safe_solved :
    SafeEntry noSurplus s (((v.giveBack (s.ctx j.entry).port (s.ctx j.entry).pages
      (s.ctx j.entry).pageCount).enterSolved j.entry).signal (s.ctx j.entry).port (s.ctx j.entry).tag) j.entry
      ((v.enterSolved j.entry).ctx j.entry) := by
  have was := core.units.decodingJob unit
  have owner := core.units.port u j unit
  have fields := core.fields j.entry
  obtain ⟨q, port, alike⟩ := h.signalled (t := ((v.giveBack (s.ctx j.entry).port (s.ctx j.entry).pages
      (s.ctx j.entry).pageCount).enterSolved j.entry).signal (s.ctx j.entry).port (s.ctx j.entry).tag)
    (s.ctx j.entry).tag fun r => by
      rw [State.signal_ports, owner]
      rfl
  have move := h.freed.solved unit was
  have units : (((v.giveBack (s.ctx j.entry).port (s.ctx j.entry).pages (s.ctx j.entry).pageCount).enterSolved
    j.entry).signal (s.ctx j.entry).port (s.ctx j.entry).tag).units = s.units.clear u := h.freed.units
  have engine := congrArg Engine.combine h.freed.engine
  have none := core.owes_of_job unit release
  rw [State.enterSolved_ctx, if_pos rfl, h.freed.ctx] at move ⊢
  exact move.safe_of_decodeEnd core unit units rfl nofun (.waiting (fields.pending_none (by rw [was]; rfl)) release
    (fields.notice_none (by rw [was]; decide)) (.inr rfl)) (fun _ => ⟨open_, rfl, rfl⟩) port engine
    ⟨alike, fun _ => by rw [none, one], fun is => by rw [open_] at is; cases is⟩

theorem State.DecodeAnswered.safe_held :
    SafeEntry noSurplus s ((v.enterHeld j.entry).signal (s.ctx j.entry).port (s.ctx j.entry).tag) j.entry
      ((v.enterHeld j.entry).ctx j.entry) := by
  have was := core.units.decodingJob unit
  have owner := core.units.port u j unit
  have fields := core.fields j.entry
  obtain ⟨q, port, alike⟩ := h.signalled
    (t := (v.enterHeld j.entry).signal (s.ctx j.entry).port (s.ctx j.entry).tag) (s.ctx j.entry).tag fun r => by
      rw [State.signal_ports, owner]
      rfl
  have move := h.freed.held unit was
  have units : ((v.enterHeld j.entry).signal (s.ctx j.entry).port (s.ctx j.entry).tag).units = s.units.clear u :=
    h.freed.units
  have engine := congrArg Engine.combine h.freed.engine
  have none := core.owes_of_job unit release
  rw [State.enterHeld_ctx, if_pos rfl, h.freed.ctx] at move ⊢
  exact move.safe_of_decodeEnd core unit units rfl nofun (.waiting (fields.pending_none (by rw [was]; rfl)) release
    (fields.notice_none (by rw [was]; decide)) (.inl rfl)) (fun _ => ⟨open_, rfl, rfl⟩) port engine
    ⟨alike, fun _ => by rw [none, one], fun is => by rw [open_] at is; cases is⟩

end

/-! #### Ends without an outcome (R109, R112) -/

theorem endAnswers_of_resetting {q : Port} (is : q.state.isResetting = true) (x : Context) (a : Answer) :
    endAnswers q x a = [] := if_pos ((PortState.isResetting_iff _).1 is)

theorem endAnswers_length {q : Port} (open_ : q.state.isResetting = false) (x : Context) (a : Answer) :
    (endAnswers q x a).length = x.releasePending.isSome.toNat + 1 := by
  have never : ¬ (q.state = .resetting .active ∨ q.state = .resetting .off) := fun is => by
    rw [(PortState.isResetting_iff _).2 is] at open_
    cases open_
  rw [endAnswers, if_neg never, List.length_append, Option.length_toList_map]
  exact Nat.add_comm _ _

/-- A decode ends without an outcome of its own, its context closed. -/
theorem Sound.decodeClosed (sound : Sound s) (unit : s.units.job u = some j) (a : Answer) (report : List Page) :
    Sound (((if (s.port (s.ctx j.entry).port).state.isResetting then s.freeDecode u j .free
      else ((s.freeDecode u j .free).postReserved (s.ctx j.entry).port a).answerRelease (s.ctx j.entry)
        .decoding).closeDamaged j.entry report).settle j.port) := by
  have core := sound.core
  have owner := core.units.port u j unit
  have pending := (core.fields j.entry).pending_none (by rw [core.units.decodingJob unit]; rfl)
  rw [State.endAnswers_eq, owner]
  refine ((State.freeDecode_answers s u j .free _).safe_closed core unit report (fun open_ => ?_)
    fun is => endAnswers_of_resetting is _ _).settled sound owner
  rw [endAnswers_length open_, Context.owes, pending, Option.isSome_none, Bool.toNat_false, Nat.zero_add]

theorem Sound.completeAbandoned (sound : Sound s) (unit : s.units.job u = some j) :
    Sound (s.completeAbandoned u j) := by
  rw [State.completeAbandoned, State.releasePages_eq_closeDamaged]
  exact sound.decodeClosed unit _ []

theorem Sound.decodeDamage (sound : Sound s) (run : execDecodeDamage u s = .next t) : Sound t := by
  rw [execDecodeDamage] at run
  split at run
  · cases run
    exact sound
  · next j unit =>
    dsimp only at run
    split at run
    · cases run
      exact sound.decodeClosed unit _ _
    · cases run
      exact sound

/-! #### Outcomes (R106) -/

/-- A decode that no abandon request has reached: its port takes answers, and no release waits for it. -/
theorem Core.runs_of_job (core : Core y s) (unit : s.units.job u = some j) (runs : j.stopping = false) :
    (s.port j.port).state.isResetting = false ∧ (s.ctx j.entry).releasePending = none := by
  constructor
  · rw [Bool.eq_false_iff]
    intro is
    rw [core.resettingUnits u j unit is] at runs
    cases runs
  · rw [← Option.not_isSome_iff_eq_none]
    intro waits
    rw [core.stopping u j unit waits] at runs
    cases runs

theorem Sound.completePass (sound : Sound s) (unit : s.units.job u = some j) (runs : j.stopping = false)
    (bits : List Bool) (m z : Nat) : Sound (s.completePass u j bits m z) := by
  have core := sound.core
  obtain ⟨open_, release⟩ := core.runs_of_job unit runs
  have owner := core.units.port u j unit
  have none := core.owes_of_job unit release
  have answered (a : Answer) : s.DecodeAnswered u j [a] (((s.freeDecode u j (.held (payloadOf bits))).postReserved
      (s.ctx j.entry).port a).countPass (s.ctx j.entry).port) := by
    rw [State.postReserved_eq, owner]
    exact (State.freeDecode_answers s u j _ [a]).setCounters _ _
  rw [State.completePass]
  split
  · rw [State.releasePages_eq_closeDamaged]
    refine ((answered _).safe_closed core unit [] (fun _ => ?_) fun is => ?_).settled sound owner
    · rw [none]
      rfl
    · rw [open_] at is
      cases is
  · exact ((answered _).safe_solved core unit open_ release rfl).settled sound owner

theorem Sound.completeFail (sound : Sound s) (unit : s.units.job u = some j) (runs : j.stopping = false) (m z : Nat) :
    Sound (s.completeFail u j m z) := by
  have core := sound.core
  obtain ⟨open_, release⟩ := core.runs_of_job unit runs
  have owner := core.units.port u j unit
  have none := core.owes_of_job unit release
  have answered (a : Answer) : s.DecodeAnswered u j [a] (((s.freeDecode u j .free).postReserved
      (s.ctx j.entry).port a).countFailure (s.ctx j.entry).port) := by
    rw [State.postReserved_eq, owner]
    exact (State.freeDecode_answers s u j _ [a]).setCounters _ _
  rw [State.completeFail]
  split
  · rw [State.releasePages_eq_closeDamaged]
    refine ((answered _).safe_closed core unit [] (fun _ => ?_) fun is => ?_).settled sound owner
    · rw [none]
      rfl
    · rw [open_] at is
      cases is
  · exact ((answered _).safe_held core unit open_ release rfl).settled sound owner

theorem Sound.halfIterationEnd (sound : Sound s) (run : execHalfIterationEnd u s = .next t) : Sound t := by
  obtain rfl | ⟨j, unit, -, -, ⟨-, rfl⟩ | ⟨pass, -, -, rfl⟩⟩ := execHalfIterationEnd_cases run
  · exact sound
  · exact sound.completeAbandoned unit
  · exact sound.nextPass unit (by exact rfl) (by exact rfl) _

theorem Sound.iterationEnd (sound : Sound s) (run : execIterationEnd u s = .next t) : Sound t := by
  obtain rfl | ⟨j, unit, -, -, ⟨-, rfl⟩ | ⟨runs, rfl⟩⟩ := execIterationEnd_cases run
  · exact sound
  · exact sound.completeAbandoned unit
  · rcases s.endIteration_cases u j with ⟨bits, m, z, same⟩ | ⟨m, z, same⟩ | ⟨pass, bits, -, same⟩
    · rw [same]
      exact sound.completePass unit runs bits m z
    · rw [same]
      exact sound.completeFail unit runs m z
    · rw [same]
      exact sound.nextPass unit (by exact rfl) (by exact rfl) _

end

end Sys2Proof.Machine
end

section
/-! SUPPORT. A dispatch keeps every law: the reservation of the decode owed goes over to the decode (spec/04 R77 to R83, spec/05 R93, spec/08 R153). -/

namespace Sys2Proof.Machine

section
variable {s t : State} {y : PortId → Nat} {p : PortId} {e : Entry} {d : PendingDecode} {slot : SlotId} {a : Assignment}

theorem Job.dispatched_stopping (e : Entry) (c : Context) (d : PendingDecode) (damping : List Nat) (slot : SlotId)
    (paired : Bool) : (Job.dispatched e c d damping slot paired).stopping = false := by
  rw [Job.dispatched, Job.beginReads_stopping]

/-- After a dispatch a unit has the new decode, or the one it had. -/
theorem Units.job_assign_cases {us : Units} {a : Assignment} {l i : Job} {w : UnitId}
    (unit : (us.assign a l).job w = some i) : i = l ∨ us.job w = some i := by
  rcases us.job_assign a l w with new | same
  · exact .inl (Option.some.inj (new.symm.trans unit)).symm
  · exact .inr (same ▸ unit)

theorem State.Dispatches.assigned_owes (h : s.Dispatches p e d slot a) (l : Job) (r : PortId) :
    (s.units.assign a l).owes r = s.units.owes r + (l.port == r).toNat := by
  cases a with
  | one u => exact Units.owes_assign_one (Units.firstIdle?_idle (h.one u rfl).1).1 l r
  | pair =>
    obtain ⟨lower, upper⟩ := s.units.bothIdle_iff.1 (h.pair rfl).1
    exact Units.owes_assign_pair lower upper l r

theorem State.Dispatches.owner (h : s.Dispatches p e d slot a) (law : DispatchLaw s) : (s.ctx e).port = p := by
  obtain ⟨rest, queue⟩ := List.head?_eq_some_iff.1 h.head
  exact ((law.members p e).1 (by rw [queue]; exact List.mem_cons_self)).2

/-- The slot of the head's port is RESERVED. -/
theorem State.dispatchHead_port (s : State) (p r : PortId) (e : Entry) (d : PendingDecode) (slot : SlotId)
    (a : Assignment) : (s.dispatchHead p e d slot a).port r =
      if p = r then (s.port p).setOutSlot slot .reserved else s.port r :=
  State.port_of_setPort (fun _ => rfl) r

theorem Core.safe_dispatchHead (core : Core y s) (h : s.Dispatches p e d slot a) :
    SafeEntry y s (s.dispatchHead p e d slot a) e
      { s.ctx e with state := .decoding, units := a.unitSet, pendingDecode := none } := by
  have move := h.move
  have owner := h.owner core.dispatch
  have used : (s.ctx e).state ≠ .free := by rw [h.queued]; decide
  have is := core.open_of_idle used (by rw [h.queued]; rfl)
  rw [owner] at is
  have fields := core.fields e
  have release := fields.release_none (by rw [h.queued]; rfl)
  have before : (s.ctx e).owes = 1 := by
    rw [Context.owes, h.owed, release]
    rfl
  have after : Context.owes { s.ctx e with state := .decoding, units := a.unitSet, pendingDecode := none } = 0 :=
    Context.owes_eq_zero rfl release
  have alike := Port.Alike.setOutSlot (s.port p) slot .reserved
  have port := s.dispatchHead_port p (e := e) (d := d) (slot := slot) (a := a)
  obtain ⟨l, assigned, stops, jobEntry, jobPort⟩ : ∃ l, (s.dispatchHead p e d slot a).units = s.units.assign a l ∧
      l.stopping = false ∧ l.entry = e ∧ l.port = (s.ctx e).port := by
    obtain ⟨entry, own⟩ :=
      Prod.mk.inj (Job.dispatched_owner e (s.ctx e) d (s.port p).profile.damping slot a.isPair)
    exact ⟨_, rfl, Job.dispatched_stopping _ _ _ _ _ _, entry, own⟩
  rw [owner] at jobPort
  have unitsOwe (r : PortId) :
      (s.dispatchHead p e d slot a).units.owes r = s.units.owes r + if p = r then 1 else 0 := by
    rw [assigned, h.assigned_owes, jobPort]
    by_cases here : p = r <;> simp [here]
  refine
    { move := move
      sides := .of_port core port alike.state alike.profile (alike.good (core.good p) is.1) (fun w i unit waits => ?_)
        (fun k busy => core.resettingEngine k busy) (fun w i unit resets => ?_) (fun r other => ?_) (fun _ _ => rfl)
        fun open_ => ?_
      closing := fun r => .unclosing (field_of_port (f := Port.closing) port alike.closing r) (by rw [h.queued]; decide)
        (show CtxState.decoding ≠ .closing by decide) r
      fields :=
        { pending := fun some => (Bool.false_ne_true some).elim
          release := fun some => by
            rw [show Context.releasePending _ = none from release] at some
            cases some
          notice := by
            show (s.ctx e).owedNotice.isSome ↔ _
            rw [fields.notice_none (by rw [h.queued]; decide)]
            exact ⟨nofun, nofun⟩
          deadline := fun _ _ => fields.deadline (by rw [h.queued]; decide) (by rw [h.queued]; decide) }
      usable := fun _ => ⟨core.ne_off used, fun _ => rfl⟩
      attempts := fun _ => core.attempts e used
      room := fun free => absurd free used
      granted := fun free => absurd free used }
  · rw [assigned] at unit
    rcases Units.job_assign_cases unit with rfl | old
    · rw [jobEntry, move.here] at waits
      rw [show Context.releasePending _ = none from release] at waits
      cases waits
    · have other : e ≠ i.entry := fun here => by
        have decoding := core.units.decodingJob old
        rw [← here, h.queued] at decoding
        cases decoding
      rw [move.other other] at waits
      exact core.stopping w i old waits
  · rw [assigned] at unit
    rcases Units.job_assign_cases unit with rfl | old
    · rw [jobPort, is.2] at resets
      cases resets
    · exact core.resettingUnits w i old resets
  · refine move.owed_other (by rw [port, if_neg other]) (fun here => absurd (owner.symm.trans here) other)
      (fun _ => after) rfl ?_
    rw [unitsOwe, if_neg other, Nat.add_zero]
  · have reserved := core.reserved p is.2
    have balance := move.owed_balance p
    rw [port, if_pos rfl, unitsOwe, if_pos rfl, if_pos owner, before, after, ite_self, alike.owes] at balance
    have engine : (s.dispatchHead p e d slot a).engine.owes p = s.engine.owes p := rfl
    rw [alike.reservations]
    omega

theorem Sound.dispatchHead (sound : Sound s) (found : s.evaluateHead p = .dispatched e d slot a) :
    Sound (s.dispatchHead p e d slot a) := by
  have h := State.dispatches_of_evaluateHead found
  exact (sound.core.safe_dispatchHead h).sound sound (.inl (by rw [h.queued]; rfl))

theorem Sound.pairWait (sound : Sound s) (waits : s.evaluateHead p = .pairWait) :
    Sound (s.setDispatcher { s.dispatcher with mode := .pairWait p }) :=
  ((Still.pairWait waits).safe_work sound.core (fun _ => rfl) (State.sameJobs rfl) fun k busy =>
    ⟨k, busy, rfl, rfl, (sound.core.resettingEngine k busy).2⟩).sound sound

theorem Sound.dispatch (sound : Sound s) (run : execDispatch s = .next t) : Sound t := by
  obtain rfl | rfl := execDispatch_cases run
  · exact sound
  · have scanned : Sound s.handleOpportunity := State.handleOpportunity_induction (P := Sound)
      (fun _ _ _ _ _ _ found h => h.dispatchHead found) (fun _ _ waits h => h.pairWait waits) s sound
    exact (scanned.core.safe_same (t := s.handleOpportunity.setOpportunity false) rfl rfl rfl rfl rfl rfl rfl).sound
      scanned

end

end Sys2Proof.Machine
end

section
/-! SUPPORT. Expiries, the management frames, the port life cycle and the resets keep every law (spec/06 R122 to R124, spec/09 R170 to R183, spec/10 R186 to R201, spec/02 R51). -/

namespace Sys2Proof.Machine

section
variable {s t : State} {e : Entry} {p : PortId}

/-! ### Changes that touch no law -/

theorem Sound.same (sound : Sound s) (contexts : t.contexts = s.contexts) (pool : t.pool = s.pool)
    (expiry : t.expiry.list = s.expiry.list) (dispatcher : t.dispatcher = s.dispatcher)
    (engine : t.engine.combine = s.engine.combine) (units : t.units = s.units) (ports : t.ports = s.ports) : Sound t :=
  (sound.core.safe_same contexts pool expiry dispatcher engine units ports).sound sound

/-! ### Expiries (R123, R124) -/

theorem Sound.endHeld (sound : Sound s) (k : NoticeKind) (e : Entry) : Sound (s.endHeld k e) := by
  by_cases held : (s.ctx e).state = .held
  · exact (sound.core.safe_endHeld held k).sound sound (.inl (by rw [held]; rfl))
  · rw [State.endHeld, if_neg held]
    exact sound

theorem Sound.endTombstone (sound : Sound s) (e : Entry) : Sound (s.endTombstone e) := by
  by_cases solved : (s.ctx e).state = .solved
  · exact (sound.core.safe_endTombstone solved).sound sound (.inl (by rw [solved]; rfl))
  · rw [State.endTombstone, if_neg solved]
    exact sound

theorem Sound.expiryHeld (sound : Sound s) (run : execExpiryHeld s = .next t) : Sound t := by
  rw [execExpiryHeld] at run
  split at run
  · cases run
    exact sound
  · split at run
    · cases run
      exact (sound.endHeld .expired _).same rfl rfl rfl rfl rfl rfl rfl
    · cases run
      exact sound

theorem Sound.expiryTombstone (sound : Sound s) (run : execExpiryTombstone s = .next t) : Sound t := by
  rw [execExpiryTombstone] at run
  split at run
  · cases run
    exact sound
  · split at run
    · cases run
      exact sound.endTombstone _
    · cases run
      exact sound

/-! ### A reset begins (R181) -/

theorem Port.cleared_closing (q : Port) (target : ResetTarget) : (q.cleared target).closing = q.closing := by
  rw [Port.cleared, Port.resetBuffers_eq]

theorem Port.Good.cleared (q : Port) (target : ResetTarget) : (Port.cleared target { q with closing := [] }).Good where
  off is := by cases is
  resetting _ := ⟨rfl, rfl, rfl, rfl, rfl, Port.cleared_closing _ _, rfl⟩
  fits := Nat.zero_le _
  head reserved := by cases reserved
  waiting some := absurd (Port.cleared_closing _ _) some
  slot r taken := taken.elim nofun nofun

/-- An abort asked for at a port's reset (spec/03 R70). -/
theorem Combine.requestAbort_abort (p : PortId) (k : Combine) : (k.requestAbort p).port = k.port ∧
    (k.port = p → (k.requestAbort p).abortRequested = true) ∧ (k.port ≠ p → k.requestAbort p = k) := by
  rw [Combine.requestAbort]
  split
  · next own => exact ⟨rfl, fun _ => rfl, fun other => absurd own other⟩
  · next other => exact ⟨rfl, fun own => absurd own other, fun _ => rfl⟩

theorem Core.safe_resetBegun {y : PortId → Nat} (core : Core y s) (used : (s.port p).state ≠ .off)
    (target : ResetTarget) :
    SafeSweep y s (s.resetBegun p target) p endedAtReset (Port.cleared target { s.port p with closing := [] }) where
  sweep := .resetBegun s p target
  closes := rfl
  port r := s.resetBegun_port p r target
  profile := ((s.port p).cleared_portCleared target).profile
  counted _ := by
    revert used
    cases (s.port p).state <;> simp [PortState.counted]
  good := .cleared _ target
  closing := Port.cleared_closing _ target
  off is := by cases is
  resetting _ e _ used := by
    revert used
    cases (s.ctx e).state <;> simp [endedAtReset, inSharedBlock]
  jobs w j unit := by
    rw [(s.resetBegun_event p target).units w, Option.map_eq_some_iff] at unit
    obtain ⟨i, at_s, rfl⟩ := unit
    refine ⟨i, at_s, ?_⟩
    split
    · exact ⟨rfl, rfl, fun _ => rfl⟩
    · exact ⟨rfl, rfl, id⟩
  resettingEngine l busy := by
    have mapped : (s.resetBegun p target).engine.combine = s.engine.combine.map (·.requestAbort p) := rfl
    rw [mapped, Option.map_eq_some_iff] at busy
    obtain ⟨k, at_s, rfl⟩ := busy
    obtain ⟨port, own, other⟩ := k.requestAbort_abort p
    rw [s.resetBegun_port, port]
    by_cases here : p = k.port
    · rw [if_pos here, own here.symm]
      exact ⟨⟨fun _ => rfl, fun _ => rfl⟩, fun _ => rfl⟩
    · rw [if_neg here, other fun same => here same.symm]
      exact core.resettingEngine k at_s
  resettingUnits w j unit own _ := by
    rw [(s.resetBegun_event p target).units w, Option.map_eq_some_iff] at unit
    obtain ⟨i, -, rfl⟩ := unit
    split at own
    · rw [if_pos (by assumption)]
    · next other => exact absurd own other
  reserved is := by cases is

theorem Sound.startReset (sound : Sound s) (used : (s.port p).state ≠ .off) (target : ResetTarget) :
    Sound (s.startReset p target) := by
  have safe := sound.core.safe_resetBegun used target
  rw [State.startReset_eq]
  refine (safe.core sound.core fun _ _ => rfl).settle fun r other => safe.working (fun is => ?_) (sound.working r)
  rw [s.resetBegun_port, if_neg other] at is
  exact is

theorem Sound.portReset (sound : Sound s) (start : s.portReset p = some t) : Sound t := by
  rw [State.portReset] at start
  split at start
  · next active =>
    cases start
    exact sound.startReset (by rw [active]; decide) _
  · next draining =>
    cases start
    exact sound.startReset (by rw [draining]; decide) _
  · cases start
  · cases start

theorem Sound.selfReset (sound : Sound s) {w : WriteBurst} (run : execSelfReset p w s = .next t) : Sound t := by
  rw [execSelfReset] at run
  cases run
  refine Sound.busAnswer ?_ p []
  split
  · cases start : s.portReset p with
    | none => exact sound
    | some u => exact sound.portReset start
  · exact sound

/-! ### A port is enabled, disabled, and given a profile (R170, R174, R175) -/

theorem Core.nothing_of_off {y : PortId → Nat} (core : Core y s) (off : (s.port p).state = .off) :
    s.contextsOwe p = 0 ∧ s.engine.owes p = 0 ∧ s.units.owes p = 0 := by
  have none : ∀ e, (s.ctx e).port = p → (s.ctx e).state = .free := fun e => core.offContexts p e off
  exact ⟨core.contextsOwe_of_free none, core.engine.owes_of_free fun e own => by rw [none e own]; decide,
    core.units.owes_of_free fun e own => by rw [none e own]; decide⟩

/-- A port that leaves or stays in OFF, with what it had. -/
theorem Still.sound_of_off {q : Port} (h : Still s t) (sound : Sound s) (off : (s.port p).state = .off)
    (engine : t.engine = s.engine) (units : t.units = s.units) (port : ∀ r, t.port r = if p = r then q else s.port r)
    (good : q.Good) (ended : q.state.isResetting = false) (closing : q.closing = []) (reservations : q.reservations = 0)
    (owes : q.owes = 0) (reserve : ((allPorts.filter fun r => (t.port r).state.counted).map t.unmet).sum ≤
      s.pool.freeList.length + s.pool.shortfall) : Sound t := by
  have core := sound.core
  obtain ⟨contexts, combine, decodes⟩ := core.nothing_of_off off
  refine ⟨h.core_of_port core (by rw [engine]) units port good ?_ ended (fun _ e => core.offContexts p e off)
    (fun _ _ => rfl) ?_ reserve, fun r is => ?_⟩
  · rw [closing, (core.good p).off off]
    rfl
  · rw [reservations, State.owed_eq, port, if_pos rfl, owes, h.contextsOwe, contexts, engine, combine, units, decodes]
    rfl
  · rw [port] at is
    split at is
    · rw [ended] at is
      cases is
    · obtain ⟨e, own, shared⟩ := sound.working r is
      exact ⟨e, by rw [h.ctx]; exact own, by rw [h.ctx]; exact shared⟩

/-- The reserves of the other ports stand when one port changes its state or profile. -/
theorem unmetOthers_of_port {q : Port} (port : ∀ r, t.port r = if p = r then q else s.port r) (pool : t.pool = s.pool) :
    ((allPorts.filter fun r => r != p && (t.port r).state.counted).map t.unmet).sum = s.unmetOthers p := by
  have same : ∀ r, r ≠ p → t.port r = s.port r := fun r other => by rw [port, if_neg other.symm]
  rw [State.unmetOthers]
  have listed : (allPorts.filter fun r => r != p && (t.port r).state.counted) =
      allPorts.filter fun r => r != p && (s.port r).state.counted := List.filter_congr fun r _ => by
    by_cases here : r = p
    · rw [here, bne_self_eq_false, Bool.false_and, Bool.false_and]
    · rw [same r here]
  rw [listed]
  refine congrArg List.sum (List.map_congr_left fun r kept => ?_)
  have other := (List.mem_filter.1 kept).2
  rw [Bool.and_eq_true, bne_iff_ne] at other
  rw [State.unmet, State.unmet, same r other.1, pool]

theorem Sound.enable (sound : Sound s) (off : (s.port p).state = .off) (enough : s.enableTest p = true) :
    Sound ((s.onPort p fun q => { q with state := .active }).setOpportunity true) := by
  have port : ∀ r, ((s.onPort p fun q => { q with state := .active }).setOpportunity true).port r = _ :=
    State.port_of_setPort fun _ => rfl
  have as := (sound.core.good p).off off
  have still : Still s ((s.onPort p fun q => { q with state := .active }).setOpportunity true) :=
    .of_eq rfl rfl rfl rfl rfl rfl
  refine still.sound_of_off sound off rfl rfl port
    (.of_open ⟨nofun, rfl⟩ ?_ ?_ ?_ ?_) rfl ?_ ?_ ?_ ?_
  · rw [as]
    exact Nat.zero_le _
  · rw [as]
    exact nofun
  · rw [as]
    exact fun some => absurd rfl some
  · rw [as]
    exact fun _ taken => taken.elim nofun nofun
  · rw [as]
    rfl
  · rw [as]
    rfl
  · rw [as]
    rfl
  · have test := (s.enableTest_iff p).1 enough
    rw [sum_filter_allPorts _ _ p, unmetOthers_of_port port rfl]
    have own : ((s.onPort p fun q => { q with state := .active }).setOpportunity true).unmet p ≤
        (s.port p).profile.reserve := by
      rw [State.unmet, port, if_pos rfl]
      exact Nat.sub_le _ _
    split <;> omega

theorem Sound.writeProfile (sound : Sound s) (off : (s.port p).state = .off) (x : Profile) :
    Sound (s.onPort p fun q => { q with profile := x }) := by
  have port : ∀ r, (s.onPort p fun q => { q with profile := x }).port r = _ := State.port_of_setPort fun _ => rfl
  have as := (sound.core.good p).off off
  have good : Port.Good { s.port p with profile := x } := by
    rw [as]
    exact .offWith _ _
  refine (Still.onPort s p _).sound_of_off sound off rfl rfl port good ?_ ?_ ?_ ?_ ?_
  · rw [as]
    rfl
  · rw [as]
    rfl
  · rw [as]
    rfl
  · rw [as]
    rfl
  · have before := sound.core.reserve
    rw [sum_filter_allPorts _ _ p] at before
    rw [sum_filter_allPorts _ _ p, unmetOthers_of_port port rfl, port, if_pos rfl, off]
    have others : s.unmetOthers p = ((allPorts.filter fun r => r != p && (s.port r).state.counted).map s.unmet).sum := rfl
    have never : ¬ PortState.off.counted = true := by decide
    rw [if_neg never]
    omega

theorem Sound.drains (sound : Sound s) (active : (s.port p).state = .active) :
    Core noSurplus ((s.onPort p Port.drained).setOpportunity true) := by
  have core := sound.core
  have good := core.good p
  have port : ∀ r, ((s.onPort p Port.drained).setOpportunity true).port r = if p = r then (s.port p).drained else s.port r :=
    State.port_of_setPort fun _ => rfl
  have still : Still s ((s.onPort p Port.drained).setOpportunity true) := .of_eq rfl rfl rfl rfl rfl rfl
  refine still.core_of_port core rfl rfl port (.of_open ⟨nofun, rfl⟩ good.fits good.head good.waiting good.slot) rfl rfl
    (fun why => ?_) (fun _ _ => rfl) ?_ (still.reserve_of_counted core (field_of_port (f := Port.profile) port rfl)
      fun r counts => ?_)
  · rw [active] at why
    rcases why with h | h | h
    · cases h
    · cases h
    · exact absurd rfl h
  · have reserved : (s.port p).reservations = s.owed p + noSurplus p := core.reserved p (by rw [active]; rfl)
    have owed := still.owed p
    rw [port, if_pos rfl] at owed
    have owes : (s.port p).drained.owes = (s.port p).owes := rfl
    have kept : (s.port p).drained.reservations = (s.port p).reservations := rfl
    omega
  · rw [port] at counts
    split at counts
    · next here =>
      rw [← here, active]
      rfl
    · exact counts

theorem Sound.disablePort (sound : Sound s) (p : PortId) : Sound (s.disablePort p).2.2 := by
  rw [State.disablePort]
  split
  · exact sound
  · next active =>
    refine (sound.drains (not_not.1 active)).settle fun r other is => ?_
    have same : ((s.onPort p Port.drained).setOpportunity true).port r = s.port r :=
      State.setPort_port_other _ _ _ _ other
    rw [same] at is
    exact sound.working r is

theorem Sound.enablePort (sound : Sound s) (p : PortId) : Sound (s.enablePort p).2.2 := by
  rw [State.enablePort]
  split
  · exact sound
  · next off =>
    split
    · exact sound
    · split
      · exact sound
      · next enough =>
        rw [Bool.not_eq_true', Bool.not_eq_false] at enough
        exact sound.enable (not_not.1 off) enough

theorem Sound.resetPort (sound : Sound s) (p : PortId) : Sound (s.resetPort p).2.2 := by
  rw [State.resetPort]
  split
  · exact sound
  · next start => exact sound.portReset start

/-! ### The link (R186 to R189) -/

theorem Sound.decideFrame (sound : Sound s) (code : Byte) (f : Frame) (need : Nat)
    {owner : ResultCode × List Byte × State} (decided : Sound owner.2.2) : Sound (s.decideFrame code f need owner) := by
  rw [State.decideFrame]
  split
  · exact sound.same rfl rfl rfl rfl rfl rfl rfl
  · exact decided.same rfl rfl rfl rfl rfl rfl rfl

theorem Sound.onPortArgument (sound : Sound s) (f : Frame) {k : PortId → ResultCode × List Byte × State}
    (decided : ∀ p, Sound (k p).2.2) : Sound (s.onPortArgument f k).2.2 := by
  rw [State.onPortArgument]
  split
  · exact sound
  · exact decided _

theorem Sound.profileOf (sound : Sound s) (bs : List Byte) (p : PortId) : Sound (s.writeProfile bs p).2.2 := by
  rcases s.writeProfile_cases bs p with same | ⟨x, off, -, same⟩
  · rw [same]
    exact sound
  · rw [same]
    exact sound.writeProfile off x

theorem Sound.writeGeometry (sound : Sound s) (g : GeometryEntry) : Sound (s.writeGeometry g).2.2 := by
  rcases s.writeGeometry_cases g with same | ⟨-, -, same⟩
  · rw [same]
    exact sound
  · rw [same]
    exact sound.same rfl rfl rfl rfl rfl rfl rfl

theorem Sound.deleteGeometry (sound : Sound s) (K : Nat) : Sound (s.deleteGeometry K).2.2 := by
  rcases s.deleteGeometry_cases K with same | same
  · rw [same]
    exact sound
  · rw [same]
    exact sound.same rfl rfl rfl rfl rfl rfl rfl

theorem Sound.writeTimebase (sound : Sound s) (n : Nat) : Sound (s.writeTimebase n).2.2 := by
  rw [State.writeTimebase]
  split
  · exact sound.same rfl rfl rfl rfl rfl rfl rfl
  · exact sound

theorem Sound.geometryRead (sound : Sound s) {f : Frame} (run : execGeometryRead f s = .next t) : Sound t := by
  rw [execGeometryRead] at run
  cases run
  refine sound.decideFrame _ f 1 ?_
  split <;> exact sound

theorem Sound.frameRefused (sound : Sound s) {code : Option Byte} {f : Frame}
    (run : execFrameRefused code f s = .next t) : Sound t := by
  unfold execFrameRefused at run
  split at run
  · cases run
    exact sound.same rfl rfl rfl rfl rfl rfl rfl
  · split at run
    · cases run
      exact sound.same rfl rfl rfl rfl rfl rfl rfl
    · cases run
      exact sound

/-! ### Restarts (R193, R201) -/

theorem Restart.sound (h : Restart s t) (law : PoolLaw s) : Sound t := by
  have laws : Laws (t.setStore []) :=
    State.AllOff.laws { h.off with } { h.pool law with } h.unused ⟨List.Pairwise.nil, nofun⟩
  exact laws.sound.same rfl rfl rfl rfl rfl rfl rfl

end

end Sys2Proof.Machine
end

section
/-! SUPPORT. Every command, and the passing of one unit, keeps every law of one moment; with it the laws of lists, of ports, of answer space, of fields and of budgets are settled. -/

namespace Sys2Proof.Machine

section
variable {s t : State}

theorem exec_sound {c : Instr} (sound : Sound s) (run : exec c s = .next t) : Sound t := by
  cases c with
  | submit p w =>
    cases run
    exact sound.submit p w
  | softData p w =>
    cases run
    exact sound.softData p w
  | status p lanes later =>
    cases run
    exact sound.status p _
  | unmappedWrite p a =>
    cases run
    exact sound.busAnswer p _
  | tick =>
    cases run
    exact sound.same rfl rfl rfl rfl rfl rfl rfl
  | returnSlot p w => exact sound.returnSlot run
  | selfReset p w => exact sound.selfReset run
  | answer p beats => exact sound.answer run
  | intakeTry p => exact sound.intakeTry run
  | combineSelection => exact sound.combineSelection run
  | clearPageEnd => exact sound.clearPageEnd run
  | combinePageReadEnd passed => exact sound.combinePageReadEnd run
  | visitWriteEnd => exact sound.visitWriteEnd run
  | combineCompletion => exact sound.combineCompletion run
  | combineDamage => exact sound.combineDamage run
  | combineAbort => exact sound.combineAbort run
  | dispatch => exact sound.dispatch run
  | decodePageReadEnd u passed => exact sound.decodePageReadEnd run
  | halfIterationEnd u => exact sound.halfIterationEnd run
  | iterationEnd u => exact sound.iterationEnd run
  | decodeDamage u => exact sound.decodeDamage run
  | expiryHeld => exact sound.expiryHeld run
  | expiryTombstone => exact sound.expiryTombstone run
  | statusRead f =>
    cases run
    exact sound.decideFrame _ f 0 (sound.same rfl rfl rfl rfl rfl rfl rfl)
  | profileWrite f =>
    cases run
    exact sound.decideFrame _ f 25 (sound.onPortArgument f (sound.profileOf _))
  | profileRead f =>
    cases run
    exact sound.decideFrame _ f 1 (sound.onPortArgument f fun _ => sound)
  | geometryWrite f =>
    cases run
    exact sound.decideFrame _ f 6 (sound.writeGeometry _)
  | geometryRead f => exact sound.geometryRead run
  | geometryDelete f =>
    cases run
    exact sound.decideFrame _ f 2 (sound.deleteGeometry _)
  | portEnable f =>
    cases run
    exact sound.decideFrame _ f 1 (sound.onPortArgument f sound.enablePort)
  | portDisable f =>
    cases run
    exact sound.decideFrame _ f 1 (sound.onPortArgument f sound.disablePort)
  | portReset f =>
    cases run
    exact sound.decideFrame _ f 1 (sound.onPortArgument f sound.resetPort)
  | deviceReset f =>
    cases run
    exact sound.decideFrame _ f 0 ((Restart.deviceReset s).sound sound.core.pool)
  | timebaseWrite f =>
    cases run
    exact sound.decideFrame _ f 2 (sound.writeTimebase _)
  | poolRead f | clockRead f =>
    cases run
    exact sound.decideFrame _ f 0 sound
  | contextRead f =>
    cases run
    exact sound.decideFrame _ f 1 sound
  | countersRead f =>
    cases run
    exact sound.decideFrame _ f 1 (sound.onPortArgument f fun _ => sound)
  | countersClear f =>
    cases run
    exact sound.decideFrame _ f 1 (sound.onPortArgument f fun _ => sound.same rfl rfl rfl rfl rfl rfl rfl)
  | frameRefused code f => exact sound.frameRefused run
  | powerOnReset =>
    cases run
    exact (Restart.powerOn s).sound sound.core.pool

theorem Sound.unitPasses (sound : Sound s) : Sound s.unitPasses := by
  rw [State.unitPasses]
  split <;> exact sound.same rfl rfl rfl rfl rfl rfl rfl

/-- A step from a state that keeps every law leaves a state that keeps every law. -/
theorem step_sound (laws : Laws s) (h : step s = .next t) : Sound t := by
  rcases step_cases h with ⟨-, rfl⟩ | ⟨c, rest, -, run⟩
  · exact laws.sound.unitPasses
  · exact exec_sound (laws.sound.same (t := { s with pending := rest }) rfl rfl rfl rfl rfl rfl rfl) run

/-! ### The Geometry Table (R28, R29) -/

theorem insertGeometry_length (g : GeometryEntry) (l : List GeometryEntry) :
    (insertGeometry g l).length ≤ l.length + 1 := by
  induction l with
  | nil => exact Nat.le_refl 1
  | cons x xs ih =>
    rw [insertGeometry]
    split
    · exact Nat.le_refl _
    · split
      · exact Nat.le_succ _
      · exact Nat.succ_le_succ ih

/-- An entry that replaces one of its K leaves the table as long as it was. -/
theorem insertGeometry_length_of_known {g : GeometryEntry} {l : List GeometryEntry}
    (ascending : l.Pairwise fun a b => a.K < b.K) (known : ∃ x ∈ l, x.K = g.K) :
    (insertGeometry g l).length = l.length := by
  induction l with
  | nil =>
    obtain ⟨x, listed, -⟩ := known
    cases listed
  | cons x xs ih =>
    obtain ⟨above, rest⟩ := List.pairwise_cons.1 ascending
    obtain ⟨y, listed, size⟩ := known
    rw [insertGeometry]
    rcases List.mem_cons.1 listed with rfl | later
    · rw [if_neg (by omega), if_pos size.symm]
      rfl
    · have less := above y later
      rw [if_neg (by omega), if_neg (by omega)]
      exact congrArg Nat.succ (ih rest ⟨y, later, size⟩)

theorem State.geometryOf_known {g : GeometryEntry} {K : Nat} (found : s.geometryOf K = some g) :
    ∃ x ∈ s.geometry, x.K = K := by
  rw [State.geometryOf] at found
  exact ⟨g, List.mem_of_find?_eq_some found, by simpa using List.find?_some found⟩

theorem GeometryLaw.of_same (law : GeometryLaw s) (same : t.geometry = s.geometry) : GeometryLaw t := by
  refine ⟨?_, ?_, ?_⟩ <;> rw [same]
  · exact law.ascending
  · exact law.room
  · exact law.valid

theorem GeometryLaw.written (law : GeometryLaw s) {g : GeometryEntry} (valid : g.valid = true)
    (room : s.geometryOf g.K = none → s.geometry.length < 128) (written : t.geometry = insertGeometry g s.geometry) :
    GeometryLaw t := by
  refine ⟨?_, ?_, ?_⟩ <;> rw [written]
  · exact insertGeometry_ascending law.ascending
  · cases found : s.geometryOf g.K with
    | none =>
      have longer := insertGeometry_length g s.geometry
      have free := room found
      omega
    | some x =>
      rw [insertGeometry_length_of_known law.ascending (State.geometryOf_known found)]
      exact law.room
  · intro x listed
    rcases (mem_insertGeometry law.ascending x).1 listed with rfl | ⟨old, -⟩
    · exact x.valid_iff.1 valid
    · exact law.valid x old

theorem GeometryLaw.deleted (law : GeometryLaw s) {K : Nat}
    (deleted : t.geometry = s.geometry.filter fun g => g.K != K) : GeometryLaw t := by
  refine ⟨?_, ?_, ?_⟩ <;> rw [deleted]
  · exact law.ascending.filter _
  · exact (List.length_filter_le _ _).trans law.room
  · exact fun x listed => law.valid x (List.mem_filter.1 listed).1

theorem State.endIteration_geometry (s : State) (u : UnitId) (j : Job) :
    (s.endIteration u j).geometry = s.geometry := by
  rcases s.endIteration_cases u j with ⟨bits, m, z, h⟩ | ⟨m, z, h⟩ | ⟨pass, bits, -, h⟩
  · rw [h, State.completePass_geometry]
  · rw [h, State.completeFail_geometry]
  · rw [h, State.setUnits_geometry]

/-- GEOMETRY_WRITE and GEOMETRY_DELETE change the table as it must be; no other command but power changes it at all. -/
theorem exec_keeps_geometryLaw {c : Instr} (law : GeometryLaw s) (run : exec c s = .next t) : GeometryLaw t := by
  by_cases h : computes c = true
  · cases c with
    | geometryWrite f =>
      obtain ⟨l, rfl | ⟨g, valid, room, rfl⟩⟩ := execGeometryWrite_cases run
      · exact law.of_same rfl
      · exact law.written valid room rfl
    | geometryDelete f =>
      obtain ⟨l, rfl | ⟨K, rfl⟩⟩ := execGeometryDelete_cases run
      · exact law.of_same rfl
      · exact law.deleted rfl
    | clearPageEnd => obtain rfl | ⟨c, pg, -, rfl⟩ := execClearPageEnd_cases run <;> exact law.of_same rfl
    | visitWriteEnd => obtain rfl | ⟨c, v, pg, -, -, rfl⟩ := execVisitWriteEnd_cases run <;> exact law.of_same rfl
    | profileWrite f => obtain ⟨l, rfl | ⟨p, x, -, -, rfl⟩⟩ := execProfileWrite_cases run <;> exact law.of_same rfl
    | dispatch =>
      obtain rfl | rfl := execDispatch_cases run
      · exact law
      · exact law.of_same s.handleOpportunity_geometry
    | halfIterationEnd u =>
      obtain rfl | ⟨j, -, -, -, ⟨-, rfl⟩ | ⟨pass, -, -, rfl⟩⟩ := execHalfIterationEnd_cases run
      · exact law
      · exact law.of_same (s.completeAbandoned_geometry u j)
      · exact law.of_same rfl
    | iterationEnd u =>
      obtain rfl | ⟨j, -, -, -, ⟨-, rfl⟩ | ⟨-, rfl⟩⟩ := execIterationEnd_cases run
      · exact law
      · exact law.of_same (s.completeAbandoned_geometry u j)
      · exact law.of_same (s.endIteration_geometry u j)
    | powerOnReset =>
      cases run
      exact State.reset_geometryLaw.of_same rfl
    | _ => exact nomatch h
  · obtain ⟨u, next, same⟩ := exec_sameBase c s (by simpa using h)
    cases next.symm.trans run
    exact law.of_same same.geometry

theorem step_keeps_geometryLaw (law : GeometryLaw s) (h : step s = .next t) : GeometryLaw t :=
  step_establishes (P := GeometryLaw) (Q := GeometryLaw) (fun _ _ law => law.of_same rfl)
    (fun u law => law.of_same (by rw [State.unitPasses]; split <;> rfl)) (fun _ _ _ => exec_keeps_geometryLaw) law h

end

/-! ### The statements -/

/-- Settles O7: the lists move with the contexts that they name. -/
theorem stepKeepsTheLists : Obligations.StepKeepsTheLists := fun _ _ h =>
  ⟨(step_chain h).keeps Move.expiryLaw, (step_chain h).keeps Move.dispatchLaw, fun law => step_keeps_geometryLaw law h,
    fun laws => (step_sound laws h).core.closing⟩

/-- Settles O10. -/
theorem stepKeepsPortLaw : Obligations.StepKeepsPortLaw := fun _ _ laws h =>
  have sound := step_sound laws h
  sound.core.portLaw sound.working

/-- Settles O11. -/
theorem stepKeepsAnswerSpace : Obligations.StepKeepsAnswerSpace := fun _ _ laws h => (step_sound laws h).core.answerLaw

/-- Settles O12. -/
theorem stepKeepsFieldsInUse : Obligations.StepKeepsFieldsInUse := fun _ _ laws h => (step_sound laws h).core.fieldLaw

/-- Settles O13. -/
theorem stepKeepsBudgets : Obligations.StepKeepsBudgets := fun _ _ laws h => (step_sound laws h).core.budgetLaw

end Sys2Proof.Machine
end
